-- ==== Sys2Proof/Word.lean ====
section
/-! DEFINITION. The words the part handles: 32-bit words, 18-bit word addresses, the 32-bit wrapping
odometer, bytes of the chain frame, and the lengths of time the manual counts in (00_scope.md, Number notation
and Words and the check nibble). -/

namespace Sys2Proof

/-- A word is 32 bits with four byte lanes (00_scope, Words and the check nibble). -/
abbrev Word := BitVec 32

/-- Word addresses are 18 bits wide. -/
abbrev Addr := BitVec 18

/-- Odometer values and marks: cm, 32-bit, wrapping. -/
abbrev Odo := BitVec 32

/-- One byte of a chain frame. -/
abbrev FrameByte := BitVec 8

/-- A timer: not running, or the instant of the 1 MHz time base (µs) at which it expires (R2). -/
abbrev Timer := Option Nat

end Sys2Proof
end

