-- ==== Sys2Proof/Syntax.lean ====
section
/-! DEFINITION. The commands of the part: one constructor of `Instr` per row of spec/opcode_table.json, with the
operands its rule gives it. The table gives no row any bits. -/

namespace Sys2Proof

/-- The six axle channels, in the fixed order A1, A2, T1, T2, B1, B2 (R61). -/
inductive Axle where
  | a1 | a2 | t1 | t2 | b1 | b2
  deriving DecidableEq, Repr

/-- The three bogies: A at the cab-1 end, T in the middle, B at the cab-2 end. -/
inductive Bogie where
  | a | t | b
  deriving DecidableEq, Repr

/-- The two motor bogies. -/
inductive Motor where
  | a | b
  deriving DecidableEq, Repr

/-- The four sanders S1 to S4 (R142). -/
inductive SanderId where
  | s1 | s2 | s3 | s4
  deriving DecidableEq, Repr

/-- The three intent channels that carry an effort. -/
inductive EffortRole where
  | tractionA | tractionB | brake
  deriving DecidableEq, Repr

/-- The four intent channels (R3). -/
inductive IntentRole where
  | effort (r : EffortRole)
  | mode
  deriving DecidableEq, Repr

/-- The two phase lines of a tachometer channel. -/
inductive Phase where
  | p | q
  deriving DecidableEq, Repr

/-- How the memory ends a memory-port transaction: DONE, with the read data of a read, or FAULT (R41). -/
inductive MemEnd where
  | done (data : Word)
  | fault
  deriving DecidableEq, Repr

/-- A host transaction at the processor port: word address, write or read, four lane strobes and write data.
`order` says in which order the five blocks of R6 handle the MODE taken event, should this transaction become
one: the spec allows any (R146, R148; log 10). -/
structure HostTxn where
  addr : Addr
  write : Bool
  lanes : BitVec 4
  data : Word
  order : Fin 120
  deriving DecidableEq, Repr

/-- The commands: one constructor per row of spec/opcode_table.json, in the table's order. -/
inductive Instr where
  /-- POWER_ON (R171). -/
  | powerOn
  /-- RESET_LINE_ASSERTED (R171). -/
  | resetLineAsserted
  /-- RESET_RELEASED (R171), with the level of the two page-select straps. -/
  | resetReleased (straps : BitVec 2)
  /-- PUBLISH_WORD_COMPLETION (R172). -/
  | publishWordCompletion (r : MemEnd)
  /-- TRACTION_OR_BRAKE_WRITE (R4): a full host write of `data` to `addr`. -/
  | tractionOrBrakeWrite (addr : Addr) (data : Word)
  /-- MODE_WRITE (R5): a full host write of `data` to `addr`. -/
  | modeWrite (addr : Addr) (data : Word) (order : Fin 120)
  /-- PARTIAL_WRITE_REFUSED (R27). -/
  | partialWriteRefused (addr : Addr) (data : Word) (lanes : BitVec 4)
  /-- GUARDED_WRITE_REFUSED (R28). -/
  | guardedWriteRefused (addr : Addr) (data : Word) (lanes : BitVec 4)
  /-- HOST_TRANSACTION_FORWARDED (R26). -/
  | hostTransactionForwarded (t : HostTxn)
  /-- HOST_READ (R30). -/
  | hostRead (addr : Addr) (lanes : BitVec 4)
  /-- HOST_TRANSACTION_HELD (R25). -/
  | hostTransactionHeld (t : HostTxn)
  /-- BUS_WAKE (R182). -/
  | busWake (t : HostTxn)
  /-- CONFIG_PAGE_WRITE (R173): a host write to the configuration page at `offset` from the page base. -/
  | configPageWrite (offset : BitVec 8) (data : Word) (lanes : BitVec 4)
  /-- FORWARDED_COMPLETION (R26). -/
  | forwardedCompletion (r : MemEnd)
  /-- CONFIG_WRITE_TAKEN (R174). -/
  | configWriteTaken
  /-- GO_ACTIVE (R175, R178): memory accepts a run word of value 1. -/
  | goActive
  /-- GO_SETUP (R179): memory accepts a run word of value 2. -/
  | goSetup
  /-- RESTART (R180): memory accepts a run word of value 3. -/
  | restart
  /-- STANDBY (R181): memory accepts a run word of value 4. -/
  | standby
  /-- COMMAND_BAD_VALUE (R174): memory accepts a run word of another value. -/
  | commandBadValue
  /-- CAUSE_CLEAR (R186). -/
  | causeClear
  /-- ATTENTION_MASK_WRITE (R187). -/
  | attentionMaskWrite
  /-- INTENT_TUNING_WRITE (R9). -/
  | intentTuningWrite
  /-- CORRECTION_FLOOR_WRITE (R98). -/
  | correctionFloorWrite
  /-- CEILING_FLOOR_WRITE (R108). -/
  | ceilingFloorWrite
  /-- SANDER_TUNING_WRITE (R154). -/
  | sanderTuningWrite
  /-- CHANNEL_STRUCTURE_WRITE (R60). -/
  | channelStructureWrite
  /-- WRITEBACK_DONE (R36). -/
  | writebackDone
  /-- WRITEBACK_FAILED (R37). -/
  | writebackFailed
  /-- MEMORY_PORT_TIMEOUT (R43). -/
  | memoryPortTimeout
  /-- FETCHER_TIMER_EXPIRY (R44). -/
  | fetcherTimerExpiry
  /-- FETCH_READ_COMPLETION (R45). -/
  | fetchReadCompletion (r : MemEnd)
  /-- REFRESH_TIMER_EXPIRY (R8). -/
  | refreshTimerExpiry (c : IntentRole)
  /-- COUNTED_EDGE (R49): a debounced P edge, with the time of the first of its samples (R48). -/
  | countedEdge (axle : Axle) (rising : Bool) (stamp : Nat)
  /-- STANDSTILL_TIMER_EXPIRY (R53). -/
  | standstillTimerExpiry (axle : Axle)
  /-- CONTROL_PERIOD_EXPIRY (R80). -/
  | controlPeriodExpiry
  /-- EVALUATION_COMPLETION (R99); `order` is the order of its four deliveries, which R99 leaves open (log 9). -/
  | evaluationCompletion (order : Fin 24)
  /-- EXCURSION_TIMER_EXPIRY (R92). -/
  | excursionTimerExpiry (axle : Axle)
  /-- HOLD_TIMER_EXPIRY (R72). -/
  | holdTimerExpiry
  /-- LAG_TIMER_EXPIRY (R132). -/
  | lagTimerExpiry (m : Motor)
  /-- PROBE_TIMER_EXPIRY (R132). -/
  | probeTimerExpiry (m : Motor)
  /-- DEFICIT_TIMER_EXPIRY (R137). -/
  | deficitTimerExpiry
  /-- PULSE_TIMER_EXPIRY (R149). -/
  | pulseTimerExpiry (sander : SanderId)
  /-- SAND_LEVEL_LOW (R151). -/
  | sandLevelLow (sander : SanderId)
  /-- SAND_LEVEL_HIGH (R151). -/
  | sandLevelHigh (sander : SanderId)
  /-- LEVEL_TIMER_EXPIRY (R151). -/
  | levelTimerExpiry (sander : SanderId)
  /-- SUPPLY_LOW (R153), with the sampled voltage in 0.1 V. -/
  | supplyLow (decivolts : Nat)
  /-- SUPPLY_GOOD (R153), with the sampled voltage in 0.1 V. -/
  | supplyGood (decivolts : Nat)
  /-- CHAIN_FRAME_COMPLETE (R161), with the frame's eighth byte. -/
  | chainFrameComplete (byte : FrameByte)
  /-- CHAIN_FRAMING_ERROR (R161). -/
  | chainFramingError
  /-- CHAIN_INCOMPLETE (R161). -/
  | chainIncomplete
  /-- SILENCE_TIMER_EXPIRY (R164). -/
  | silenceTimerExpiry
  /-- TRANSMIT_START (R167). -/
  | transmitStart
  /-- SETTLE_TIMER_EXPIRY (R182). -/
  | settleTimerExpiry
  /-- REPORT_TIMER_EXPIRY (R189). -/
  | reportTimerExpiry
  /-- REPORT_WORD_COMPLETION (R189). -/
  | reportWordCompletion (r : MemEnd)
  /-- UNCOUNTED_PHASE_EDGE (R51): a debounced edge of phase P or Q that is not counted. -/
  | uncountedPhaseEdge (axle : Axle) (phase : Phase) (rising : Bool) (stamp : Nat)
  /-- RECEIVED_BYTE (R161). -/
  | receivedByte (byte : FrameByte)
  deriving DecidableEq, Repr

end Sys2Proof
end

