-- ==== Sys2Proof/Decode.lean ====
section
/-! DEFINITION. Decoding of the table's words: spec/opcode_table.json gives no row any bits ("fields": []), so
no word spells a command. -/

namespace Sys2Proof

/-- The command that a word spells by the table's bits: the table gives none, so none. -/
def decodeTableWord (_nbits _w : Nat) : Option Instr := none

end Sys2Proof
end

