-- ==== Sys2Proof/Config.lean ====
section
/-! DEFINITION. What the manual fixes for every part (fixed lengths and limits), and the free values: opaque
constants with no body for what it leaves open. -/

namespace Sys2Proof.Config

/-- The reference hold timer runs for 200 ms (R72). -/
def holdLength : Nat := 200000

/-- The settle timer of a wake runs for 256 µs (R182). -/
def settleLength : Nat := 256

/-- The level timer runs for 1 s (R151). -/
def levelLength : Nat := 1000000

/-- An evaluation completes within 100 µs of its expiry (R80). -/
def evaluationBound : Nat := 100

/-- The receiver gives a frame up when no new character begins within 80 µs (R161). -/
def idleLimit : Nat := 80

/-- A frame of eight characters lasts 320 µs (R159). -/
def frameLength : Nat := 320

/-- The sand trail runs 2,000 cm past the end of the last pulse (R152). -/
def trailLength : Nat := 2000

/-- The level inputs and the supply are sampled once per millisecond (R151, R153). -/
def sampleInterval : Nat := 1000

/-- The largest signed speed magnitude, mm/s (00_scope, Units and ranges). -/
def speedLimit : Nat := 30000

/-- FREE VALUE (log 9). The order of the four deliveries of an evaluation completion that the idle step makes,
from a draw count: "no order among them is fixed" (R99). -/
opaque deliveryOrder : Nat → Fin 24

/-- FREE VALUE (log 16). The raw speed magnitude for a time of 0 µs, by wheel diameter and edges per
revolution: R54 divides by the time and states no result for 0. -/
opaque zeroTimeSpeed : Nat → Nat → Nat

/-- FREE VALUE (log 44). Whether a completion is a late one of a transaction that has timed out, where one of the same
claimant is in progress too: the rows of the table do not say whose completion they are (R43). -/
opaque answersLate : Nat → Bool

end Sys2Proof.Config
end

