-- ==== Sys2Proof/Machine/State.lean ====
section
/-! DEFINITION. The state of the part as plain data, block by block in the order of 00_scope's block overview, the
reasons a step can stop, and the state after a power-on reset. Every field cites the rule that names it;
INVENTORY.md lists them with their reset values. -/

namespace Sys2Proof.Machine

/-! ### Small fixed collections -/

/-- One value per axle channel. -/
structure PerAxle (α : Type) where
  a1 : α
  a2 : α
  t1 : α
  t2 : α
  b1 : α
  b2 : α
  deriving DecidableEq, Repr

/-- One value per bogie. -/
structure PerBogie (α : Type) where
  a : α
  t : α
  b : α
  deriving DecidableEq, Repr

/-- One value per motor bogie. -/
structure PerMotor (α : Type) where
  a : α
  b : α
  deriving DecidableEq, Repr

/-- One value per sander. -/
structure PerSander (α : Type) where
  s1 : α
  s2 : α
  s3 : α
  s4 : α
  deriving DecidableEq, Repr

/-- One value per intent channel that carries an effort. -/
structure PerEffort (α : Type) where
  tractionA : α
  tractionB : α
  brake : α
  deriving DecidableEq, Repr

/-- The five brake sources (R120). -/
inductive Source where
  | edA | edB | frA | frT | frB
  deriving DecidableEq, Repr

/-- One value per brake source. -/
structure PerSource (α : Type) where
  edA : α
  edB : α
  frA : α
  frT : α
  frB : α
  deriving DecidableEq, Repr

/-- The nine part-owned roles: four intent roles and five output roles (R33). -/
inductive Role where
  | intent (r : EffortRole)
  | mode
  | output (s : Source)
  deriving DecidableEq, Repr

/-- One value per part-owned role. -/
structure PerRole (α : Type) where
  intent : PerEffort α
  mode : α
  output : PerSource α
  deriving DecidableEq, Repr

/-! ### Codes (00_scope, Codes) -/

/-- Regimes, codes 0..4. -/
inductive Regime where
  | hold | traction | coast | serviceBrake | emergency
  deriving DecidableEq, Repr

/-- Directions, codes 0..2. -/
inductive Direction where
  | neutral | forward | reverse
  deriving DecidableEq, Repr

/-- Rail hints; code 3 is taken as POOR (R5). -/
inductive Rail where
  | dry | wet | poor
  deriving DecidableEq, Repr

/-- The tags of the words the part writes (00_scope). -/
inductive Tag where
  | effective | corrected | fallback | default | void
  deriving DecidableEq, Repr

/-- Travel sense (R65). -/
inductive Sense where
  | none | forward | reverse
  deriving DecidableEq, Repr

/-- Kind of an excursion, an onset or a notice (R84). -/
inductive Kind where
  | spin | slide
  deriving DecidableEq, Repr

/-- The 22 cause flags, in the order of R185. -/
inductive Cause where
  | staleIntent | intentInvalid | partialWrite | guardedWrite | configCollision | commandRefused | sensorFault
  | persistentExcursion | adhesionPoor | referenceLost | brakeDeficit | edShortfall | feedbackInvalid | rollback
  | rollaway | sandWithheld | sandEmpty | actSupplyLow | chainFault | noticeDropped | memoryFault | fallback
  deriving DecidableEq, Repr

/-- The 26 event counters 0..25 of R188; counters 26..39 are latch counts of causes. -/
inductive Counter where
  | rangeClipped | forwardFault | writebackRetry | writebackSuperseded | writebackAbandoned | fetchSkipped
  | feedbackRejected | axleFault | referenceHeld | excursionEntry | evaluationAbandoned | noticeMerged
  | noticeApplied | chainNoticeIgnored | edShortfallEntry | deficitAssist | sandPulseStart | chainFrameGood
  | chainFrameSent | chainIncomplete | chainCheck | chainPosition | chainOverrun | chainUnexpected | chainLinkLost
  | reportWordFailed
  deriving DecidableEq, Repr

/-! ### Lines and pins (00_scope, Lines and ports) -/

/-- Raw levels of the two phase lines of one tachometer channel. -/
structure TachPins where
  p : Bool := false
  q : Bool := false
  deriving DecidableEq, Repr

/-- The input lines. Their levels are the vehicle's; the levels in `State.reset` are the model's (log 14). -/
structure Pins where
  tach : PerAxle TachPins
  /-- high while the store holds sand (R151) -/
  sandLevel : PerSander Bool
  /-- the actuator supply, in 0.1 V (R153) -/
  supply : Nat
  straps : BitVec 2
  resetLine : Bool
  /-- true at the active level (R159) -/
  chainIn : Bool
  deriving DecidableEq, Repr

/-- The output lines, true when asserted (or, for the chain output, at the active level). -/
structure Lines where
  sand : PerSander Bool
  /-- the three track-brake outputs, which R136 sets together -/
  track : Bool
  hold : Bool
  attention : Bool
  chainOut : Bool
  deriving DecidableEq, Repr

/-! ### Configuration -/

/-- One window table entry (R23). -/
structure WindowEntry where
  base : Addr
  length : Nat
  code : BitVec 4
  deriving DecidableEq, Repr

/-- Structure items of one axle channel as their fields stand in the page word (R47, 12.2). -/
structure ChannelItems where
  enabled : Bool
  reversed : Bool
  debounce : BitVec 2
  prescaler : BitVec 2
  countedEdge : BitVec 2
  ppr : Nat
  /-- wheel diameter in steps of 0.1 mm -/
  diameter : Nat
  deriving DecidableEq, Repr

/-- The structure configuration: page offsets 0x00..0x1D (12.2). -/
structure StructureConfig where
  windows : Vector WindowEntry 16
  channels : PerAxle ChannelItems
  nominal : PerMotor Nat
  driveIsolated : PerMotor Bool
  frictionIsolated : PerBogie Bool
  spacingAT : Nat
  spacingAB : Nat
  chainOffset : Nat
  allocation : Vector (BitVec 3) 5
  position : Nat
  chainForward : BitVec 2
  deriving DecidableEq, Repr

/-- Tuning of an intent channel: limits (not for MODE), refresh budget in 10 ms steps, CONTINUOUS (R3). -/
structure Limits where
  min : Nat
  max : Nat
  deriving DecidableEq, Repr

/-- Refresh settings of an intent channel (R3). -/
structure Refresh where
  /-- in steps of 10 ms -/
  budget : Nat
  continuous : Bool
  deriving DecidableEq, Repr

/-- Tuning of the intent table (R3). -/
structure IntentTuning where
  limits : PerEffort Limits
  refresh : PerEffort Refresh
  /-- MODE is always REFRESHED: its budget alone -/
  modeBudget : Nat
  riseStep : Nat
  deriving DecidableEq, Repr

/-- Tuning of the axle channels and the reference unit (R47, R65). -/
structure SpeedTuning where
  standstillTimeout : Nat
  plausibilityJump : Nat
  riseLimit : Nat
  fallLimit : Nat
  deriving DecidableEq, Repr

/-- Tuning of the adhesion evaluator (R79, R87, R92, R93, R95). -/
structure SlipTuning where
  /-- ms -/
  controlPeriod : Nat
  creepAbs : Nat
  creepRel : Nat
  excursionAbs : Nat
  excursionRel : Nat
  recoveryAbs : Nat
  recoveryRel : Nat
  accelerationLimit : Nat
  excursionTime : Nat
  repeatWindow : Nat
  repeatLimit : Nat
  floor : Nat
  drop : Nat
  decay : Nat
  recoveryStep : Nat
  deriving DecidableEq, Repr

/-- Tuning of the ceiling unit (R103). -/
structure CeilingTuning where
  floor : Nat
  margin : Nat
  raiseStep : Nat
  mergeDistance : Nat
  deriving DecidableEq, Repr

/-- Tuning of the blend allocator (R120). -/
structure BlendTuning where
  holdMargin : Nat
  maxGradient : Nat
  maxMass : Nat
  emergencyDemand : Nat
  fallbackBrake : Nat
  releaseStep : Nat
  edCap : PerMotor Nat
  frCap : PerBogie Nat
  mtbEffort : Nat
  deficitThreshold : Nat
  deficitTime : Nat
  edLag : Nat
  probeInterval : Nat
  rollbackLimit : Nat
  deriving DecidableEq, Repr

/-- Tuning of one sander (R142). -/
structure SanderTuning where
  enabled : Bool
  /-- bogie end B (else A) -/
  endB : Bool
  /-- leading for REVERSE (else FORWARD) -/
  forReverse : Bool
  budget : Nat
  /-- m -/
  window : Nat
  /-- ms -/
  pulse : Nat
  deriving DecidableEq, Repr

/-- Tuning of the chain link, the memory port and the report writer (R43, R158, R189). -/
structure LinkTuning where
  portTimeout : Nat
  chainInterval : Nat
  expectedInterval : Nat
  alignment : Bool
  reportInterval : Nat
  deriving DecidableEq, Repr

/-- The tuning configuration: page offsets 0x40..0x7A (12.2). -/
structure TuningConfig where
  intent : IntentTuning
  speed : SpeedTuning
  slip : SlipTuning
  ceiling : CeilingTuning
  blend : BlendTuning
  sanders : PerSander SanderTuning
  supplyCode : BitVec 2
  link : LinkTuning
  deriving DecidableEq, Repr

/-- The configuration the state controller owns (R174). -/
structure PartConfig where
  str : StructureConfig
  tun : TuningConfig
  deriving DecidableEq, Repr

/-! ### State controller (chapter 10) -/

/-- The part states (R171 to R182). -/
inductive PartState where
  | reset | publish | setup | active | fallback | standby | waking
  deriving DecidableEq, Repr

/-- Why the part last started (R171, R180). -/
inductive RestartCause where
  | power | line | command
  deriving DecidableEq, Repr

/-- Outcome of the last command taken (R174). -/
inductive CommandOutcome where
  | none | accepted | badValue | wrongState | notReady | setupInvalid
  deriving DecidableEq, Repr

/-- Validation faults (R176). -/
inductive SetupFault where
  | overlap | configOverlap | range | badCode | badLength | roleTwice | roleMissing | allocList | channelParam
  | positionRange
  deriving DecidableEq, Repr

/-- A validation fault and the place where it was found (R176, HEADER 3). -/
structure Validation where
  fault : SetupFault
  place : Nat
  deriving DecidableEq, Repr

/-- The fallback causes (R177). -/
inductive FallbackCause where
  | modeStale | referenceLost | memoryFault | rollaway
  deriving DecidableEq, Repr

/-- The fallback cause set (R177). -/
structure CauseSet where
  modeStale : Bool := false
  referenceLost : Bool := false
  memoryFault : Bool := false
  rollaway : Bool := false
  deriving DecidableEq, Repr

/-- The state STANDBY was entered from (R181). -/
inductive Previous where
  | setup | active
  deriving DecidableEq, Repr

/-- The state controller. -/
@[ext] structure Controller where
  part : PartState
  /-- which reset is in progress, for the restart cause set at its end (R171) -/
  resetBy : RestartCause
  pageBase : Addr
  restartCause : RestartCause
  commandValue : BitVec 8
  outcome : CommandOutcome
  validation : Option Validation
  causes : CauseSet
  fallbackPending : Bool
  previous : Option Previous
  movementMark : Bool
  settle : Timer
  /-- the publish writer's offset and failed attempts (R172) -/
  publishOffset : BitVec 8
  publishAttempts : Nat
  deriving DecidableEq, Repr

/-! ### Interposer (chapter 2) -/

/-- An entry of the write-back queue (R33). `id` is the model's own name of the entry: R30's pending set follows
an entry through coalescing and retries (log 25). -/
structure QueueEntry where
  id : Nat
  addr : Addr
  word : Word
  origin : Role
  attempts : Nat
  deriving DecidableEq, Repr

/-- The in-flight slot's entry; `discarding` after a RESTART (R40). -/
structure InFlight where
  entry : QueueEntry
  discarding : Bool
  deriving DecidableEq, Repr

/-- What the outstanding host transaction waits for. -/
inductive HostWait where
  /-- held through PUBLISH, STANDBY or WAKING (R25) -/
  | untilServed
  /-- a read hold of R30: the ids of its pending set, and the in-flight entry whose flight may still bring in the
  set's third member -/
  | onEntries (ids : List Nat) (watch : Option Nat)
  /-- a read hold of R31 on a report record -/
  | onRecord (index : Nat)
  /-- the pass-through claim on the arbiter (R41) -/
  | claiming
  /-- running on the memory port -/
  | onPort
  deriving DecidableEq, Repr

/-- The outstanding host transaction; `page` is the offset of a configuration-page write judged to be taken (R29). -/
structure HostSlot where
  txn : HostTxn
  wait : HostWait
  page : Option (BitVec 8)
  deriving DecidableEq, Repr

/-- The last completion given to the host: DONE or FAULT, and the data of a read. -/
structure HostReply where
  ok : Bool
  data : Word
  deriving DecidableEq, Repr

/-- The claimants of the memory port (R41). -/
inductive Claimant where
  | publish | passThrough | queue | fetcher | report
  deriving DecidableEq, Repr

/-- The memory-port transaction in progress (R41) with the instant of its timeout (R43). -/
structure PortTxn where
  claimant : Claimant
  addr : Addr
  write : Bool
  lanes : BitVec 4
  data : Word
  deadline : Nat
  deriving DecidableEq, Repr

/-- The model's own record of the memory's answers (R43; log 44): the claimants of the transactions that ended without
one, whose completions may still come, and how many free values have decided whose a completion is. -/
structure MemoryAnswers where
  unanswered : List Claimant
  drawn : Nat
  deriving DecidableEq, Repr

/-- A fetch of ACH_A and ACH_B (R44): which read is due or running, the checked ACH_A word, and whether the
fetcher was stopped during it. -/
structure Fetch where
  second : Bool
  achA : Option Int
  withdrawn : Bool
  deriving DecidableEq, Repr

/-- The interposer. -/
@[ext] structure Interposer where
  copy : Vector WindowEntry 16
  queue : List QueueEntry
  inflight : Option InFlight
  lastAbandoned : Option Role
  queueWait : Nat
  fetchWait : Nat
  host : Option HostSlot
  reply : Option HostReply
  port : Option PortTxn
  fetchTimer : Timer
  fetch : Option Fetch
  nextId : Nat
  deriving DecidableEq, Repr

/-! ### Intent table (chapter 1) -/

/-- Freshness of an intent (R3). -/
inductive Freshness where
  | absent | live | stale
  deriving DecidableEq, Repr

/-- A TRACTION or BRAKE channel's dynamic fields (R3). -/
structure EffortChannel where
  intent : Option Nat
  fresh : Freshness
  timer : Timer
  deriving DecidableEq, Repr

/-- A mode record (R5). -/
structure ModeRecord where
  regime : Regime
  direction : Direction
  gradient : Int
  mass : Nat
  rail : Rail
  sand : Bool
  deriving DecidableEq, Repr

/-- The MODE channel's dynamic fields (R3). -/
structure ModeChannel where
  intent : Option ModeRecord
  fresh : Freshness
  timer : Timer
  deriving DecidableEq, Repr

/-- The intent table. -/
@[ext] structure IntentTable where
  channels : PerEffort EffortChannel
  mode : ModeChannel
  accepted : ModeRecord
  /-- the last taken MODE write had its gradient clipped or its rail hint code 3 (R15) -/
  adjusted : Bool
  /-- held effective traction T_A and T_B (R10) -/
  held : PerMotor Nat
  handed : PerRole (Option Word)
  addrs : PerRole (Option Addr)
  deriving DecidableEq, Repr

/-! ### Axle speed unit (chapter 3) -/

/-- Channel states (chapter 3.5). -/
inductive ChannelState where
  | disabled | settling | valid | still | fault
  deriving DecidableEq, Repr

/-- Four raw samples, `h0` the oldest (R56). -/
structure History where
  h0 : Int
  h1 : Int
  h2 : Int
  h3 : Int
  deriving DecidableEq, Repr

/-- Debounce of one phase input: the debounced level, how many consecutive opposite samples have been seen, and
the time stamp of the last edge (R48, R51). -/
structure PhaseFilter where
  level : Bool
  run : Nat
  stamp : Option Nat
  deriving DecidableEq, Repr

/-- What a counted P edge taken as a reversal would have left had it kept the stored direction: it comes into force
when a Q edge that arrives after it makes the two an illegal transition (R50, R51; log 28). -/
structure KeptDirection where
  positive : Bool
  period : Option Nat
  lastPrescaled : Option Nat
  prescalerCount : Nat
  deriving DecidableEq, Repr

/-- One axle channel (chapter 3). -/
structure Channel where
  p : PhaseFilter
  q : PhaseFilter
  /-- the next sample sets the debounced levels without an edge (R48) -/
  sync : Bool
  /-- stored direction, true for positive (R50) -/
  positive : Bool
  period : Option Nat
  lastPrescaled : Option Nat
  prescalerCount : Nat
  /-- of the last P edge, if it was counted as a reversal -/
  kept : Option KeptDirection
  standstill : Timer
  still : Bool
  state : ChannelState
  history : Option History
  filtered : Option Int
  acceleration : Option Int
  lastRaw : Option Int
  illegal : Nat
  settleCount : Nat
  cleanCount : Nat
  movement : Nat
  deriving DecidableEq, Repr

/-- The axle speed unit; `held` once the movement wake of this STANDBY has been delivered (R62). -/
structure AxleUnit where
  channels : PerAxle Channel
  held : Bool
  deriving DecidableEq, Repr

/-- The sample a channel hands on at a latch (R61). -/
structure Sample where
  state : ChannelState
  filtered : Option Int
  acceleration : Option Int
  raw : Option Int
  deriving DecidableEq, Repr

/-! ### Reference unit (chapter 4) -/

/-- Reference sources (R70). -/
inductive RefSource where
  | own | chain | held | lost
  deriving DecidableEq, Repr

/-- The reference record (R65). The signed reference is read off magnitude and sense. -/
structure Reference where
  magnitude : Nat
  sense : Sense
  acceleration : Int
  source : RefSource
  hold : Timer
  chainRef : Option Int
  odometer : Odo
  /-- nm -/
  remainder : Nat
  step : Nat
  rollback : Nat
  deriving DecidableEq, Repr

/-! ### Chain frame (chapter 9) -/

/-- A good frame's contents (R160); byte 6 and 7 as the notice, if present. -/
structure Frame where
  regime : Regime
  direction : Direction
  valid : Bool
  reference : Int
  notice : Option (Kind × Nat)
  sand : Bool
  deriving DecidableEq, Repr

/-! ### Adhesion evaluator (chapter 5) -/

/-- Axle slip states (R84). -/
inductive SlipState where
  | excluded | adhering | creep | excursion | recovery
  deriving DecidableEq, Repr

/-- One slip record (R84); its excursion timer stands in `Evaluator.timers`. -/
structure SlipRecord where
  state : SlipState
  slip : Option Int
  counted : Option Int
  countedAcc : Option Int
  kind : Option Kind
  entered : Bool
  repeats : Nat
  mark : Option Odo
  deriving DecidableEq, Repr

/-- One bogie record (R95). -/
structure BogieRecord where
  c : Nat
  onset : Option Kind
  inExcursion : Bool
  poor : Bool
  becamePoor : Bool
  blind : Bool
  floorPending : Bool
  deriving DecidableEq, Repr

/-- The reference results an evaluation carries (R76). -/
structure RefResults where
  magnitude : Nat
  sense : Sense
  source : RefSource
  acceleration : Int
  odometer : Odo
  step : Nat
  rollback : Nat
  deriving DecidableEq, Repr

/-- An evaluation between its stages and its completion: the copy of the records and what it will deliver
(R80, R99). -/
structure Evaluation where
  slips : PerAxle SlipRecord
  bogies : PerBogie BogieRecord
  ref : RefResults
  regime : Regime
  direction : Direction
  frame : Option Frame
  started : Nat
  deriving DecidableEq, Repr

/-- The adhesion evaluator. -/
structure Evaluator where
  period : Timer
  /-- the length (µs) with which the period timer was last started (R79) -/
  length : Nat
  slips : PerAxle SlipRecord
  bogies : PerBogie BogieRecord
  timers : PerAxle Timer
  running : Option Evaluation
  deriving DecidableEq, Repr

/-! ### Ceiling unit (chapter 6) -/

/-- One ceiling record (R103); the effort at latch keeps a traction and a brake value side by side (R104). -/
structure CeilingRecord where
  k : Nat
  clean : Nat
  traction : Nat
  brake : Nat
  restarted : Bool
  deriving DecidableEq, Repr

/-- A notice of the rail condition queue (R110). -/
structure Notice where
  mark : Odo
  severity : Nat
  target : Bogie
  deriving DecidableEq, Repr

/-- The ceiling unit. -/
structure CeilingUnit where
  records : PerBogie CeilingRecord
  queue : List Notice
  outgoing : Option (Motor × Kind)
  deriving DecidableEq, Repr

/-! ### Blend allocator (chapter 7) -/

/-- Hill-start states (R133). -/
inductive HillStart where
  | off | holding | releasing | rollbackHold
  deriving DecidableEq, Repr

/-- The allocator record (R120). -/
structure Allocator where
  h : Nat
  d : Nat
  dEff : Nat
  caps : PerSource Nat
  alloc : PerSource Nat
  mtb : Nat
  deficit : Nat
  achieved : PerMotor (Option Int)
  shortfall : PerMotor Bool
  lag : PerMotor Timer
  probe : PerMotor Timer
  hill : HillStart
  fhs : Nat
  lines : Bool
  assist : Bool
  deficitTimer : Timer
  seenMagnitude : Nat
  seenSense : Sense
  seenRollback : Nat
  deriving DecidableEq, Repr

/-! ### Sanding controller (chapter 8) -/

/-- Trigger kinds, in the order in which a combined trigger is named (R144). -/
inductive Trigger where
  | manual | excursion | repeated | emergency | start | poorRail
  deriving DecidableEq, Repr

/-- A sander's dynamic fields (R142); its state is formed from them by R143. -/
structure SanderRecord where
  remaining : Nat
  windowStart : Odo
  pulse : Timer
  /-- level indicator: FULL (else EMPTY) -/
  full : Bool
  level : Timer
  /-- the next sample sets the indicator without the 1 s wait (R154) -/
  levelFresh : Bool
  withheld : Nat
  last : Option Trigger
  deriving DecidableEq, Repr

/-- The sanding controller. -/
structure Sanding where
  sanders : PerSander SanderRecord
  /-- supply state GOOD (else LOW) -/
  supplyGood : Bool
  trail : Bool
  trailMark : Option Odo
  seenMagnitude : Nat
  seenOdometer : Odo
  poorSeen : Bool
  /-- the remembered MODE values against which onsets are judged (R155) -/
  seenRequest : Bool
  seenRegime : Regime
  seenDirection : Direction
  deriving DecidableEq, Repr

/-! ### Chain link (chapter 9) -/

/-- Link states (R164). -/
inductive LinkState where
  | searching | linked | lost
  deriving DecidableEq, Repr

/-- A frame on the chain output, with the instant of its first start bit (R166). -/
structure Sending where
  bytes : List FrameByte
  start : Nat
  deriving DecidableEq, Repr

/-- The regime, direction and sand-active flag of the last frame taken (R168). -/
structure LastFrame where
  regime : Regime
  direction : Direction
  sand : Bool
  deriving DecidableEq, Repr

/-- The bit receiver (R159): the level of the last sample, and the time since the change that began the character
with the data bits read so far. -/
structure BitReceiver where
  level : Bool
  char : Option (Nat × List Bool)
  deriving DecidableEq, Repr

/-- The chain link. -/
structure ChainLink where
  /-- bytes of the frame being received, oldest first; none while hunting (R161) -/
  receiving : Option (List FrameByte)
  /-- the end of the last character of the frame being received -/
  lastEnd : Nat
  bits : BitReceiver
  buffer : Option Frame
  link : LinkState
  silence : Timer
  transmit : Timer
  sending : Option Sending
  last : Option LastFrame
  deriving DecidableEq, Repr

/-! ### Report writer (chapter 11) -/

/-- Cause flags, counters and attention mask (R185 to R188). -/
@[ext] structure Reporter where
  flags : BitVec 22
  counters : Vector Nat 40
  mask : BitVec 22
  deriving DecidableEq, Repr

/-- A report update being written (R189): the REPORT window's base if the copy was in force at its begin, the
record and word now due or on the port, the record's contents once taken, and whether a RESTART stops it. -/
structure Update where
  window : Option Addr
  record : Nat
  word : Nat
  contents : Option (List Word)
  stopping : Bool
  deriving DecidableEq, Repr

/-- The report writer's writing side (R189). -/
@[ext] structure ReportWriter where
  timer : Timer
  update : Option Update
  pendingUpdate : Bool
  deriving DecidableEq, Repr

/-! ### The whole part -/

/-- The state of the part. -/
@[ext]
structure State where
  /-- the 1 MHz time base, µs -/
  now : Nat
  pins : Pins
  lines : Lines
  ctl : Controller
  cfg : PartConfig
  ip : Interposer
  intent : IntentTable
  axle : AxleUnit
  ref : Reference
  ev : Evaluator
  ceil : CeilingUnit
  blend : Allocator
  sand : Sanding
  chain : ChainLink
  rep : Reporter
  rw : ReportWriter
  memory : MemoryAnswers
  /-- the model's own: how many free delivery orders have been drawn (log 9) -/
  draws : Nat
  /-- the commands that are waiting, first in, first out -/
  pending : List Instr
  deriving DecidableEq, Repr

/-- Why a step stops: no command of this part stops it, so there is no reason. Safe. -/
inductive Fault : Type where
  deriving DecidableEq, Repr

/-- Why a step is refused. -/
inductive Refusal where
  /-- Raised by a refused arm of `exec` alone: the row has no meaning yet. Safe: the model stops. -/
  | notModelled (mnemonic : String)
  deriving DecidableEq, Repr

/-! ### Collections -/

namespace PerAxle

/-- The value of one axle. -/
def get {α : Type} (v : PerAxle α) : Axle → α
  | .a1 => v.a1 | .a2 => v.a2 | .t1 => v.t1 | .t2 => v.t2 | .b1 => v.b1 | .b2 => v.b2

/-- One value formed for each axle. -/
def build {α : Type} (f : Axle → α) : PerAxle α := ⟨f .a1, f .a2, f .t1, f .t2, f .b1, f .b2⟩

/-- Replace one axle's value. -/
def set {α : Type} (v : PerAxle α) (i : Axle) (x : α) : PerAxle α := build fun j => if j = i then x else v.get j

/-- The six values in the order A1, A2, T1, T2, B1, B2. -/
def toList {α : Type} (v : PerAxle α) : List α := [v.a1, v.a2, v.t1, v.t2, v.b1, v.b2]

end PerAxle

namespace PerBogie

/-- The value of one bogie. -/
def get {α : Type} (v : PerBogie α) : Bogie → α
  | .a => v.a | .t => v.t | .b => v.b

/-- One value formed for each bogie. -/
def build {α : Type} (f : Bogie → α) : PerBogie α := ⟨f .a, f .t, f .b⟩

/-- Replace one bogie's value. -/
def set {α : Type} (v : PerBogie α) (i : Bogie) (x : α) : PerBogie α := build fun j => if j = i then x else v.get j

end PerBogie

namespace PerMotor

/-- The value of one motor bogie. -/
def get {α : Type} (v : PerMotor α) : Motor → α
  | .a => v.a | .b => v.b

/-- One value formed for each motor bogie. -/
def build {α : Type} (f : Motor → α) : PerMotor α := ⟨f .a, f .b⟩

/-- Replace one motor bogie's value. -/
def set {α : Type} (v : PerMotor α) (i : Motor) (x : α) : PerMotor α := build fun j => if j = i then x else v.get j

end PerMotor

namespace PerSander

/-- The value of one sander. -/
def get {α : Type} (v : PerSander α) : SanderId → α
  | .s1 => v.s1 | .s2 => v.s2 | .s3 => v.s3 | .s4 => v.s4

/-- One value formed for each sander. -/
def build {α : Type} (f : SanderId → α) : PerSander α := ⟨f .s1, f .s2, f .s3, f .s4⟩

/-- Replace one sander's value. -/
def set {α : Type} (v : PerSander α) (i : SanderId) (x : α) : PerSander α :=
  build fun j => if j = i then x else v.get j

end PerSander

namespace PerEffort

/-- The value of one effort channel. -/
def get {α : Type} (v : PerEffort α) : EffortRole → α
  | .tractionA => v.tractionA | .tractionB => v.tractionB | .brake => v.brake

/-- One value formed for each effort channel. -/
def build {α : Type} (f : EffortRole → α) : PerEffort α := ⟨f .tractionA, f .tractionB, f .brake⟩

/-- Replace one effort channel's value. -/
def set {α : Type} (v : PerEffort α) (i : EffortRole) (x : α) : PerEffort α :=
  build fun j => if j = i then x else v.get j

end PerEffort

namespace PerSource

/-- The value of one brake source. -/
def get {α : Type} (v : PerSource α) : Source → α
  | .edA => v.edA | .edB => v.edB | .frA => v.frA | .frT => v.frT | .frB => v.frB

/-- One value formed for each brake source. -/
def build {α : Type} (f : Source → α) : PerSource α := ⟨f .edA, f .edB, f .frA, f .frT, f .frB⟩

/-- Replace one brake source's value. -/
def set {α : Type} (v : PerSource α) (i : Source) (x : α) : PerSource α :=
  build fun j => if j = i then x else v.get j

end PerSource

namespace PerRole

/-- The value of one part-owned role. -/
def get {α : Type} (v : PerRole α) : Role → α
  | .intent r => v.intent.get r | .mode => v.mode | .output s => v.output.get s

/-- Replace one part-owned role's value. -/
def set {α : Type} (v : PerRole α) : Role → α → PerRole α
  | .intent r, x => { v with intent := v.intent.set r x }
  | .mode, x => { v with mode := x }
  | .output s, x => { v with output := v.output.set s x }

/-- The same value for every role. -/
def same {α : Type} (x : α) : PerRole α := ⟨⟨x, x, x⟩, x, ⟨x, x, x, x, x⟩⟩

end PerRole

/-! ### Defaults and reset values -/

/-- The default window table entry: code 0, base 0, length 1 (R172, 12.2). -/
def WindowEntry.unused : WindowEntry := { base := 0, length := 1, code := 0 }

/-- The default items of an axle channel (R47). -/
def ChannelItems.default : ChannelItems :=
  { enabled := true, reversed := false, debounce := 1, prescaler := 0, countedEdge := 0, ppr := 90, diameter := 6000 }

/-- The default structure configuration (12.2). -/
def StructureConfig.default : StructureConfig :=
  { windows := Vector.replicate 16 WindowEntry.unused
    channels := PerAxle.build fun _ => ChannelItems.default
    nominal := ⟨8000, 8000⟩
    driveIsolated := ⟨false, false⟩
    frictionIsolated := ⟨false, false, false⟩
    spacingAT := 1100
    spacingAB := 2200
    chainOffset := 3000
    allocation := #v[0, 1, 3, 2, 4]
    position := 0
    chainForward := 1 }

/-- The default tuning configuration (12.2). -/
def TuningConfig.default : TuningConfig :=
  { intent :=
      { limits := ⟨⟨0, 8000⟩, ⟨0, 8000⟩, ⟨0, 20000⟩⟩
        refresh := ⟨⟨10, false⟩, ⟨10, false⟩, ⟨10, false⟩⟩
        modeBudget := 10
        riseStep := 25 }
    speed := { standstillTimeout := 500, plausibilityJump := 5000, riseLimit := 1500, fallLimit := 2500 }
    slip :=
      { controlPeriod := 10, creepAbs := 150, creepRel := 30, excursionAbs := 400, excursionRel := 80
        recoveryAbs := 200, recoveryRel := 40, accelerationLimit := 3000, excursionTime := 1500
        repeatWindow := 20, repeatLimit := 3, floor := 200, drop := 500, decay := 20, recoveryStep := 5 }
    ceiling := { floor := 300, margin := 50, raiseStep := 10, mergeDistance := 200 }
    blend :=
      { holdMargin := 200, maxGradient := 110, maxMass := 200, emergencyDemand := 12000, fallbackBrake := 3000
        releaseStep := 50, edCap := ⟨5000, 5000⟩, frCap := ⟨4000, 4000, 4000⟩, mtbEffort := 6000
        deficitThreshold := 500, deficitTime := 500, edLag := 300, probeInterval := 2000, rollbackLimit := 150 }
    sanders :=
      ⟨⟨true, false, false, 6, 100, 1000⟩, ⟨true, false, false, 6, 100, 1000⟩,
       ⟨true, true, true, 6, 100, 1000⟩, ⟨true, true, true, 6, 100, 1000⟩⟩
    supplyCode := 1
    link := { portTimeout := 20, chainInterval := 5, expectedInterval := 5, alignment := false, reportInterval := 25 } }

/-- The accepted MODE's defaults (R6). -/
def ModeRecord.default : ModeRecord :=
  { regime := .hold, direction := .neutral, gradient := 0, mass := 0, rail := .dry, sand := false }

/-- An effort channel after reset (R22). -/
def EffortChannel.reset : EffortChannel := { intent := none, fresh := .absent, timer := none }

/-- The intent table after power-on (R22). -/
def IntentTable.reset : IntentTable :=
  { channels := PerEffort.build fun _ => EffortChannel.reset
    mode := { intent := none, fresh := .absent, timer := none }
    accepted := ModeRecord.default
    adjusted := false
    held := ⟨0, 0⟩
    handed := PerRole.same none
    addrs := PerRole.same none }

/-- The interposer after power-on (R46). -/
def Interposer.reset : Interposer :=
  { copy := Vector.replicate 16 WindowEntry.unused
    queue := []
    inflight := none
    lastAbandoned := none
    queueWait := 0
    fetchWait := 0
    host := none
    reply := none
    port := none
    fetchTimer := none
    fetch := none
    nextId := 0 }

/-- A channel before entry to SETUP: it does not act (R64). -/
def Channel.reset : Channel :=
  { p := ⟨false, 0, none⟩, q := ⟨false, 0, none⟩, sync := true, positive := true, period := none
    lastPrescaled := none, prescalerCount := 0, kept := none, standstill := none, still := false, state := .disabled
    history := none, filtered := none, acceleration := none, lastRaw := none, illegal := 0, settleCount := 0
    cleanCount := 0, movement := 0 }

/-- The reference unit after power-on (R78). -/
def Reference.reset : Reference :=
  { magnitude := 0, sense := .none, acceleration := 0, source := .held, hold := none, chainRef := none
    odometer := 0, remainder := 0, step := 0, rollback := 0 }

/-- A slip record after reset (R102). -/
def SlipRecord.reset : SlipRecord :=
  { state := .excluded, slip := none, counted := none, countedAcc := none, kind := none, entered := false
    repeats := 0, mark := none }

/-- A bogie record after reset (R102). -/
def BogieRecord.reset : BogieRecord :=
  { c := 1000, onset := none, inExcursion := false, poor := false, becamePoor := false, blind := false
    floorPending := false }

/-- The adhesion evaluator after power-on (R102). -/
def Evaluator.reset : Evaluator :=
  { period := none
    length := 10000
    slips := PerAxle.build fun _ => SlipRecord.reset
    bogies := PerBogie.build fun _ => BogieRecord.reset
    timers := PerAxle.build fun _ => none
    running := none }

/-- A ceiling record after power-on (R119). -/
def CeilingRecord.reset : CeilingRecord := { k := 1000, clean := 0, traction := 0, brake := 0, restarted := false }

/-- The ceiling unit after power-on (R119). -/
def CeilingUnit.reset : CeilingUnit :=
  { records := PerBogie.build fun _ => CeilingRecord.reset, queue := [], outgoing := none }

/-- The allocator record after every kind of reset (R140). -/
def Allocator.reset : Allocator :=
  { h := 0, d := 0, dEff := 0, caps := ⟨0, 0, 0, 0, 0⟩, alloc := ⟨0, 0, 0, 0, 0⟩, mtb := 0, deficit := 0
    achieved := ⟨none, none⟩, shortfall := ⟨false, false⟩, lag := ⟨none, none⟩, probe := ⟨none, none⟩
    hill := .off, fhs := 0, lines := false, assist := false, deficitTimer := none
    seenMagnitude := 0, seenSense := .none, seenRollback := 0 }

/-- A sander after power-on, with the default budget of 6 pulses (R157). -/
def SanderRecord.reset : SanderRecord :=
  { remaining := 6, windowStart := 0, pulse := none, full := true, level := none, levelFresh := false
    withheld := 0, last := none }

/-- The sanding controller after power-on (R157). The remembered MODE values have no row in R157's table: the model
gives them the defaults that an entry to ACTIVE gives (R155), and RESTART keeps them (log 49). -/
def Sanding.reset : Sanding :=
  { sanders := PerSander.build fun _ => SanderRecord.reset
    supplyGood := true, trail := false, trailMark := none, seenMagnitude := 0, seenOdometer := 0, poorSeen := false
    seenRequest := false, seenRegime := .hold, seenDirection := .neutral }

/-- The chain link after power-on (R170). -/
def ChainLink.reset : ChainLink :=
  { receiving := none, lastEnd := 0, bits := { level := false, char := none }, buffer := none, link := .searching
    silence := none, transmit := none, sending := none, last := none }

/-- The report writer's flags, counters and mask after power-on (R191). -/
def Reporter.reset : Reporter :=
  { flags := 0, counters := Vector.replicate 40 0, mask := 0x3FFFFF }

/-- The state controller in RESET after power-on (R184). -/
def Controller.reset : Controller :=
  { part := .reset, resetBy := .power, pageBase := 0x3FF00, restartCause := .power, commandValue := 0
    outcome := .none, validation := none, causes := {}, fallbackPending := false, previous := none
    movementMark := false, settle := none, publishOffset := 0, publishAttempts := 0 }

/-- All outputs are deasserted while the part is held in reset (00_scope, Lines and ports). -/
def Lines.reset : Lines :=
  { sand := ⟨false, false, false, false⟩, track := false, hold := false, attention := false, chainOut := false }

/-- Input levels at power-on: the vehicle's, not the part's; the model's choice (log 14). -/
def Pins.initial : Pins :=
  { tach := PerAxle.build fun _ => {}, sandLevel := ⟨true, true, true, true⟩, supply := 240, straps := 0
    resetLine := false, chainIn := false }

/-- The part in RESET right after power-on (R171): every block at its power-on values. -/
def State.reset : State :=
  { now := 0
    pins := Pins.initial
    lines := Lines.reset
    ctl := Controller.reset
    cfg := { str := StructureConfig.default, tun := TuningConfig.default }
    ip := Interposer.reset
    intent := IntentTable.reset
    axle := { channels := PerAxle.build fun _ => Channel.reset, held := false }
    ref := Reference.reset
    ev := Evaluator.reset
    ceil := CeilingUnit.reset
    blend := Allocator.reset
    sand := Sanding.reset
    chain := ChainLink.reset
    rep := Reporter.reset
    rw := { timer := none, update := none, pendingUpdate := false }
    memory := { unanswered := [], drawn := 0 }
    draws := 0
    pending := [] }

end Sys2Proof.Machine
end

