-- ==== Sys2Proof/Machine/Flags.lean ====
section
/-! DEFINITION. Cause flags, event counters and the attention mask of the report writer (chapter 11.1, 11.2):
raising a cause, counting an event, clearing. -/

namespace Sys2Proof.Machine

/-- The flag's number (R185). -/
def Cause.number : Cause → Fin 22
  | .staleIntent => 0 | .intentInvalid => 1 | .partialWrite => 2 | .guardedWrite => 3 | .configCollision => 4
  | .commandRefused => 5 | .sensorFault => 6 | .persistentExcursion => 7 | .adhesionPoor => 8
  | .referenceLost => 9 | .brakeDeficit => 10 | .edShortfall => 11 | .feedbackInvalid => 12 | .rollback => 13
  | .rollaway => 14 | .sandWithheld => 15 | .sandEmpty => 16 | .actSupplyLow => 17 | .chainFault => 18
  | .noticeDropped => 19 | .memoryFault => 20 | .fallback => 21

/-- The counter's number (R188). -/
def Counter.number : Counter → Fin 40
  | .rangeClipped => 0 | .forwardFault => 1 | .writebackRetry => 2 | .writebackSuperseded => 3
  | .writebackAbandoned => 4 | .fetchSkipped => 5 | .feedbackRejected => 6 | .axleFault => 7 | .referenceHeld => 8
  | .excursionEntry => 9 | .evaluationAbandoned => 10 | .noticeMerged => 11 | .noticeApplied => 12
  | .chainNoticeIgnored => 13 | .edShortfallEntry => 14 | .deficitAssist => 15 | .sandPulseStart => 16
  | .chainFrameGood => 17 | .chainFrameSent => 18 | .chainIncomplete => 19 | .chainCheck => 20
  | .chainPosition => 21 | .chainOverrun => 22 | .chainUnexpected => 23 | .chainLinkLost => 24
  | .reportWordFailed => 25

/-- The latch counter of a cause, for the fourteen causes that have one (R188, counters 26..39). -/
def Cause.latchCounter : Cause → Option (Fin 40)
  | .staleIntent => some 26 | .intentInvalid => some 27 | .partialWrite => some 28 | .guardedWrite => some 29
  | .configCollision => some 30 | .commandRefused => some 31 | .persistentExcursion => some 32
  | .adhesionPoor => some 33 | .referenceLost => some 34 | .brakeDeficit => some 35 | .rollback => some 36
  | .rollaway => some 37 | .noticeDropped => some 38 | .fallback => some 39
  | .sensorFault | .edShortfall | .feedbackInvalid | .sandWithheld | .sandEmpty | .actSupplyLow | .chainFault
  | .memoryFault => none

namespace Reporter

/-- Whether a cause flag is set. -/
def flag (r : Reporter) (c : Cause) : Bool := r.flags.getLsbD c.number

/-- Read a counter by its number. -/
def counter (r : Reporter) (i : Fin 40) : Nat := r.counters[i]

/-- Increment a counter; it saturates at 65,535 (R188). -/
def bump (r : Reporter) (i : Fin 40) : Reporter :=
  { r with counters := r.counters.set i (if r.counters[i] < 65535 then r.counters[i] + 1 else r.counters[i]) }

/-- Raise a cause: the flag is set if it is clear, and its latch counter then counts (R185, R188). -/
def raise (r : Reporter) (c : Cause) : Reporter :=
  if r.flag c then r
  else
    let r' := { r with flags := r.flags ||| BitVec.twoPow 22 c.number }
    match c.latchCounter with
    | some i => r'.bump i
    | none => r'

/-- A cause-clear word: each flag whose bit is 1 is cleared; bit 31 sets all counters to 0 (R186). -/
def clear (r : Reporter) (w : Word) : Reporter :=
  { r with
    flags := r.flags &&& ~~~(w.setWidth 22)
    counters := if w.getLsbD 31 then Vector.replicate 40 0 else r.counters }

/-- Whether some flag is set whose mask bit is set (R187). -/
def attention (r : Reporter) : Bool := r.flags &&& r.mask != 0

end Reporter

/-- A block raises a cause (R2, R185). -/
def raise (c : Cause) (s : State) : State := { s with rep := s.rep.raise c }

/-- A block raises a cause if a condition holds. -/
def raiseIf (b : Bool) (c : Cause) (s : State) : State := { s with rep := if b then s.rep.raise c else s.rep }

/-- A block counts an event (R188). -/
def count (c : Counter) (s : State) : State := { s with rep := s.rep.bump c.number }

/-- A block counts an event if a condition holds. -/
def countIf (b : Bool) (c : Counter) (s : State) : State :=
  { s with rep := if b then s.rep.bump c.number else s.rep }

end Sys2Proof.Machine
end

