-- ==== Sys2Proof/Machine/Operands.lean ====
section
/-! DEFINITION. Every layout of chapter 12 that the part reads or writes: setpoint, MODE and feedback words, the
configuration page's items with their ranges and the default image, and the chain frame with its CRC-8. -/

namespace Sys2Proof.Machine

/-! ### Fields of a word -/

/-- The unsigned value of `n` bits of a word from bit `lo` up. -/
def bits (w : Word) (lo n : Nat) : Nat := (w.extractLsb' lo n).toNat

/-- A single item that fills a word stands in bits 15..0 (12.2). -/
def item (w : Word) : Nat := bits w 0 16

/-- An unsigned value placed in a field of `n` bits from bit `lo` up; a value beyond the field is limited to its
largest (R193). -/
def field (lo n v : Nat) : Word := BitVec.ofNat 32 (min v (2 ^ n - 1) * 2 ^ lo)

/-- A signed value in a 16-bit two's complement field, limited to −32768..32767 (R193). -/
def signed16 (v : Int) : BitVec 16 := BitVec.ofInt 16 (max (-32768) (min 32767 v))

/-- A signed 16-bit field placed from bit `lo` up. -/
def signedField (lo : Nat) (v : Int) : Word := (signed16 v).setWidth 32 <<< lo

/-- A one-bit field. -/
def flagBit (i : Nat) (b : Bool) : Word := if b then BitVec.twoPow 32 i else 0

/-! ### The check nibble and tags -/

/-- The exclusive-OR of the seven nibbles in bits 27..0 (00_scope, R16). -/
def checkNibble (w : Word) : BitVec 4 :=
  w.extractLsb' 0 4 ^^^ w.extractLsb' 4 4 ^^^ w.extractLsb' 8 4 ^^^ w.extractLsb' 12 4 ^^^ w.extractLsb' 16 4
    ^^^ w.extractLsb' 20 4 ^^^ w.extractLsb' 24 4

/-- The word with its check nibble in bits 31..28 (R16). -/
def withCheck (w : Word) : Word := checkNibble w ++ w.extractLsb' 0 28

/-- The tag's code (00_scope). -/
def Tag.code : Tag → BitVec 4
  | .effective => 1 | .corrected => 2 | .fallback => 3 | .default => 4 | .void => 5

/-- A setpoint word: effort in bits 15..0, tag in bits 19..16, check nibble (R16, 12.1). -/
def setpointWord (effort : Nat) (t : Tag) : Word :=
  withCheck ((0 : BitVec 12) ++ t.code ++ BitVec.ofNat 16 effort)

/-- The void word of an isolated source: effort 65535 with tag VOID (R17). -/
def voidWord : Word := setpointWord 65535 .void

/-! ### Codes -/

/-- Regime codes; 5..7 are invalid. -/
def Regime.ofCode (c : BitVec 3) : Option Regime :=
  match c.toNat with
  | 0 => some .hold | 1 => some .traction | 2 => some .coast | 3 => some .serviceBrake | 4 => some .emergency
  | _ => none

/-- The regime's code. -/
def Regime.code : Regime → BitVec 3
  | .hold => 0 | .traction => 1 | .coast => 2 | .serviceBrake => 3 | .emergency => 4

/-- Direction codes; 3 is invalid. -/
def Direction.ofCode (c : BitVec 2) : Option Direction :=
  match c.toNat with
  | 0 => some .neutral | 1 => some .forward | 2 => some .reverse | _ => none

/-- The direction's code. -/
def Direction.code : Direction → BitVec 2
  | .neutral => 0 | .forward => 1 | .reverse => 2

/-- Rail hint codes; 3 is treated as POOR. -/
def Rail.ofCode (c : BitVec 2) : Rail :=
  match c.toNat with
  | 0 => .dry | 1 => .wet | _ => .poor

/-- The rail hint's code. -/
def Rail.code : Rail → BitVec 2
  | .dry => 0 | .wet => 1 | .poor => 2

/-- The opposite direction of travel. -/
def Sense.ofDirection : Direction → Sense
  | .neutral => .none | .forward => .forward | .reverse => .reverse

/-! ### The MODE word (12.1) -/

/-- A gradient above 120 ‰ is set to 120 and one below −120 to −120 (R5). -/
def clipGradient (g : Int) : Int := max (-120) (min 120 g)

/-- What a MODE write is taken as: the record, whether its gradient was clipped, and whether the gradient was
clipped or the rail hint was code 3. None when its regime or direction code is invalid (R5). -/
def parseMode (w : Word) : Option (ModeRecord × Bool × Bool) :=
  match Regime.ofCode (w.extractLsb' 25 3), Direction.ofCode (w.extractLsb' 23 2) with
  | some r, some d =>
    let g := (w.extractLsb' 8 8).toInt
    let clipped := clipGradient g != g
    some ({ regime := r, direction := d, gradient := clipGradient g, mass := bits w 0 8
            rail := Rail.ofCode (w.extractLsb' 21 2), sand := w.getLsbD 20 },
          clipped, clipped || w.extractLsb' 21 2 == 3)
  | _, _ => none

/-- The MODE word of an accepted MODE and a tag (R15, R16). -/
def modeWord (m : ModeRecord) (t : Tag) : Word :=
  withCheck ((0 : BitVec 4) ++ m.regime.code ++ m.direction.code ++ m.rail.code ++ BitVec.ofBool m.sand ++ t.code
    ++ BitVec.ofInt 8 m.gradient ++ BitVec.ofNat 8 m.mass)

/-! ### The feedback word (R45, 12.1) -/

/-- The achieved effort of a feedback word read DONE, or none when its nibble or its tag is wrong (R45). -/
def parseFeedback (w : Word) : Option Int :=
  if w.extractLsb' 28 4 = checkNibble w ∧ w.extractLsb' 16 4 = 8 then some (w.extractLsb' 0 16).toInt else none

/-! ### Structure words (12.2) -/

/-- A window table word: code, length (0 stands for 1024), base. -/
def WindowEntry.ofWord (w : Word) : WindowEntry :=
  { base := w.extractLsb' 0 18
    length := if bits w 18 10 = 0 then 1024 else bits w 18 10
    code := w.extractLsb' 28 4 }

/-- An axle channel word. -/
def ChannelItems.ofWord (w : Word) : ChannelItems :=
  { enabled := w.getLsbD 28
    reversed := w.getLsbD 27
    debounce := w.extractLsb' 25 2
    prescaler := w.extractLsb' 23 2
    countedEdge := w.extractLsb' 21 2
    ppr := bits w 13 8
    diameter := bits w 0 13 }

/-- The axle whose channel word stands at an offset 0x10..0x15. -/
def Axle.ofOffset (off : Nat) : Option Axle :=
  match off with
  | 0x10 => some .a1 | 0x11 => some .a2 | 0x12 => some .t1 | 0x13 => some .t2 | 0x14 => some .b1 | 0x15 => some .b2
  | _ => none

/-- Replace the items of the structure word at an offset 0x00..0x2F (R174, 12.2). -/
def StructureConfig.setWord (c : StructureConfig) (off : Nat) (w : Word) : StructureConfig :=
  if h : off < 16 then { c with windows := c.windows.set off (WindowEntry.ofWord w) }
  else
    match off with
    | 0x10 => { c with channels := { c.channels with a1 := ChannelItems.ofWord w } }
    | 0x11 => { c with channels := { c.channels with a2 := ChannelItems.ofWord w } }
    | 0x12 => { c with channels := { c.channels with t1 := ChannelItems.ofWord w } }
    | 0x13 => { c with channels := { c.channels with t2 := ChannelItems.ofWord w } }
    | 0x14 => { c with channels := { c.channels with b1 := ChannelItems.ofWord w } }
    | 0x15 => { c with channels := { c.channels with b2 := ChannelItems.ofWord w } }
    | 0x16 => { c with nominal := { c.nominal with a := item w } }
    | 0x17 => { c with nominal := { c.nominal with b := item w } }
    | 0x18 =>
      { c with
        driveIsolated := ⟨w.getLsbD 0, w.getLsbD 1⟩
        frictionIsolated := ⟨w.getLsbD 2, w.getLsbD 3, w.getLsbD 4⟩ }
    | 0x19 => { c with spacingAT := item w }
    | 0x1A => { c with spacingAB := item w }
    | 0x1B => { c with chainOffset := item w }
    | 0x1C =>
      { c with
        allocation :=
          #v[w.extractLsb' 0 3, w.extractLsb' 3 3, w.extractLsb' 6 3, w.extractLsb' 9 3, w.extractLsb' 12 3] }
    | 0x1D => { c with position := bits w 0 8, chainForward := w.extractLsb' 8 2 }
    | _ => c

/-! ### Tuning words (12.2) -/

/-- The range of a tuning word that holds a single item (R3, R43, R47, R65, R79, R87, R92, R93, R95, R103, R120,
R158, R189). -/
def itemRange (off : Nat) : Option (Nat × Nat) :=
  match off with
  | 0x48 => some (1, 1000) | 0x49 => some (2, 255) | 0x4A => some (100, 2000) | 0x4B => some (1000, 30000)
  | 0x4C => some (100, 4000) | 0x4D => some (100, 4000) | 0x4E => some (5, 50)
  | 0x4F => some (50, 2000) | 0x50 => some (5, 300) | 0x51 => some (50, 2000) | 0x52 => some (5, 300)
  | 0x53 => some (50, 2000) | 0x54 => some (5, 300) | 0x55 => some (500, 20000) | 0x56 => some (200, 10000)
  | 0x57 => some (5, 200) | 0x58 => some (2, 10) | 0x59 => some (100, 900) | 0x5A => some (100, 900)
  | 0x5B => some (1, 200) | 0x5C => some (1, 200) | 0x5D => some (200, 1000) | 0x5E => some (0, 500)
  | 0x5F => some (1, 100) | 0x60 => some (0, 1000) | 0x61 => some (0, 500) | 0x62 => some (0, 120)
  | 0x63 => some (0, 255) | 0x64 => some (0, 30000) | 0x65 => some (0, 30000) | 0x66 => some (1, 1000)
  | 0x67 => some (0, 20000) | 0x68 => some (0, 20000) | 0x69 => some (0, 20000) | 0x6A => some (0, 20000)
  | 0x6B => some (0, 20000) | 0x6C => some (0, 20000) | 0x6D => some (0, 5000) | 0x6E => some (100, 5000)
  | 0x6F => some (50, 2000) | 0x70 => some (500, 10000) | 0x71 => some (50, 1000) | 0x77 => some (1, 50)
  | 0x78 => some (1, 50) | 0x7A => some (1, 255)
  | _ => none

/-- A sander word (12.2). -/
def SanderTuning.ofWord (w : Word) : SanderTuning :=
  { enabled := w.getLsbD 30
    endB := w.getLsbD 29
    forReverse := w.getLsbD 28
    budget := bits w 22 6
    window := bits w 13 9
    pulse := bits w 0 13 }

/-- A sander's items lie within the ranges of R142. -/
def SanderTuning.inRange (t : SanderTuning) : Bool :=
  1 ≤ t.budget && t.budget ≤ 50 && 10 ≤ t.window && t.window ≤ 500 && 100 ≤ t.pulse && t.pulse ≤ 5000

/-- A tuning write is in range when every item the word sets lies in its range and limits keep min ≤ max ≤ 65534;
a tuning word at an offset with no item is in range whatever its bits (R173, R192). -/
def tuningInRange (off : Nat) (w : Word) : Bool :=
  if off = 0x40 ∨ off = 0x41 ∨ off = 0x42 then bits w 0 16 ≤ bits w 16 16 && bits w 16 16 ≤ 65534
  else if off = 0x44 ∨ off = 0x45 ∨ off = 0x46 ∨ off = 0x47 then 1 ≤ bits w 0 8
  else if off = 0x72 ∨ off = 0x73 ∨ off = 0x74 ∨ off = 0x75 then (SanderTuning.ofWord w).inRange
  else
    match itemRange off with
    | some (lo, hi) => lo ≤ item w && item w ≤ hi
    | none => true

/-- The sander whose word stands at an offset 0x72..0x75. -/
def SanderId.ofOffset (off : Nat) : Option SanderId :=
  match off with
  | 0x72 => some .s1 | 0x73 => some .s2 | 0x74 => some .s3 | 0x75 => some .s4
  | _ => none

/-- Replace the items of the tuning word at an offset 0x40..0x9F (R174, 12.2). The CONTINUOUS bit is taken without
effect for MODE (R9). -/
def TuningConfig.setWord (c : TuningConfig) (off : Nat) (w : Word) : TuningConfig :=
  let v := item w
  let lim : Limits := ⟨bits w 0 16, bits w 16 16⟩
  let ref : Refresh := ⟨bits w 0 8, w.getLsbD 8⟩
  match off with
  | 0x40 => { c with intent.limits.tractionA := lim }
  | 0x41 => { c with intent.limits.tractionB := lim }
  | 0x42 => { c with intent.limits.brake := lim }
  | 0x44 => { c with intent.refresh.tractionA := ref }
  | 0x45 => { c with intent.refresh.tractionB := ref }
  | 0x46 => { c with intent.refresh.brake := ref }
  | 0x47 => { c with intent.modeBudget := bits w 0 8 }
  | 0x48 => { c with intent.riseStep := v }
  | 0x49 => { c with link.portTimeout := v }
  | 0x4A => { c with speed.standstillTimeout := v }
  | 0x4B => { c with speed.plausibilityJump := v }
  | 0x4C => { c with speed.riseLimit := v }
  | 0x4D => { c with speed.fallLimit := v }
  | 0x4E => { c with slip.controlPeriod := v }
  | 0x4F => { c with slip.creepAbs := v }
  | 0x50 => { c with slip.creepRel := v }
  | 0x51 => { c with slip.excursionAbs := v }
  | 0x52 => { c with slip.excursionRel := v }
  | 0x53 => { c with slip.recoveryAbs := v }
  | 0x54 => { c with slip.recoveryRel := v }
  | 0x55 => { c with slip.accelerationLimit := v }
  | 0x56 => { c with slip.excursionTime := v }
  | 0x57 => { c with slip.repeatWindow := v }
  | 0x58 => { c with slip.repeatLimit := v }
  | 0x59 => { c with slip.floor := v }
  | 0x5A => { c with slip.drop := v }
  | 0x5B => { c with slip.decay := v }
  | 0x5C => { c with slip.recoveryStep := v }
  | 0x5D => { c with ceiling.floor := v }
  | 0x5E => { c with ceiling.margin := v }
  | 0x5F => { c with ceiling.raiseStep := v }
  | 0x60 => { c with ceiling.mergeDistance := v }
  | 0x61 => { c with blend.holdMargin := v }
  | 0x62 => { c with blend.maxGradient := v }
  | 0x63 => { c with blend.maxMass := v }
  | 0x64 => { c with blend.emergencyDemand := v }
  | 0x65 => { c with blend.fallbackBrake := v }
  | 0x66 => { c with blend.releaseStep := v }
  | 0x67 => { c with blend.edCap.a := v }
  | 0x68 => { c with blend.edCap.b := v }
  | 0x69 => { c with blend.frCap.a := v }
  | 0x6A => { c with blend.frCap.t := v }
  | 0x6B => { c with blend.frCap.b := v }
  | 0x6C => { c with blend.mtbEffort := v }
  | 0x6D => { c with blend.deficitThreshold := v }
  | 0x6E => { c with blend.deficitTime := v }
  | 0x6F => { c with blend.edLag := v }
  | 0x70 => { c with blend.probeInterval := v }
  | 0x71 => { c with blend.rollbackLimit := v }
  | 0x72 => { c with sanders.s1 := SanderTuning.ofWord w }
  | 0x73 => { c with sanders.s2 := SanderTuning.ofWord w }
  | 0x74 => { c with sanders.s3 := SanderTuning.ofWord w }
  | 0x75 => { c with sanders.s4 := SanderTuning.ofWord w }
  | 0x76 => { c with supplyCode := w.extractLsb' 0 2 }
  | 0x77 => { c with link.chainInterval := v }
  | 0x78 => { c with link.expectedInterval := v }
  | 0x79 => { c with link.alignment := w.getLsbD 0 }
  | 0x7A => { c with link.reportInterval := v }
  | _ => c

/-! ### The default image (R172, 12.2) -/

/-- The default words of the tuning section from 0x40 to 0x7A. -/
def defaultTuning : List Nat :=
  [0x1F400000, 0x1F400000, 0x4E200000, 0, 10, 10, 10, 10, 25, 20, 500, 5000, 1500, 2500, 10] ++
  [150, 30, 400, 80, 200, 40, 3000, 1500, 20, 3, 200, 500, 20, 5] ++
  [300, 50, 10, 200, 200, 110, 200, 12000, 3000, 50, 5000, 5000, 4000, 4000, 4000, 6000, 500] ++
  [500, 300, 2000, 150, 0x418C83E8, 0x418C83E8, 0x718C83E8, 0x718C83E8, 1, 5, 5, 0, 25]

/-- The default words of the structure section from 0x10 to 0x1D. -/
def defaultStructure : List Nat :=
  [0x120B5770, 0x120B5770, 0x120B5770, 0x120B5770, 0x120B5770, 0x120B5770] ++
  [8000, 8000, 0, 1100, 2200, 3000, 0x44C8, 0x100]

/-- The default image's word at an offset: every window table entry unused, the structure and tuning words at their
defaults, the attention mask all set, and 0 elsewhere. -/
def defaultWord (off : Nat) : Word :=
  if off < 0x10 then 0x00040000
  else if off < 0x40 then BitVec.ofNat 32 (defaultStructure.getD (off - 0x10) 0)
  else if off < 0xC0 then BitVec.ofNat 32 (defaultTuning.getD (off - 0x40) 0)
  else if off = 0xC2 then 0x003FFFFF
  else 0

/-! ### The chain frame (R160, R161, 12.4) -/

/-- One shift of the CRC-8 register: left one place, and combined with 0x07 if the bit shifted out was 1. -/
def crcShift (r : FrameByte) : FrameByte := if r.msb then (r <<< 1) ^^^ 0x07 else r <<< 1

/-- One byte of the CRC-8: combined into the register, then eight shifts. -/
def crcByte (r b : FrameByte) : FrameByte :=
  crcShift (crcShift (crcShift (crcShift (crcShift (crcShift (crcShift (crcShift (r ^^^ b))))))))

/-- The CRC-8 of a list of bytes, from a register of 0. -/
def crc8 (bs : List FrameByte) : FrameByte := bs.foldl crcByte 0

/-- The notice kind's code. -/
def Kind.code : Kind → FrameByte
  | .spin => 1 | .slide => 2

/-- The eight bytes of a frame sent by a unit at `position` (R160, R167). -/
def Frame.encode (position : Nat) (f : Frame) : List FrameByte :=
  let flags := BitVec.ofBool f.sand ++ BitVec.ofBool f.notice.isSome ++ BitVec.ofBool f.valid ++ f.direction.code
    ++ f.regime.code
  let r : BitVec 16 := if f.valid then signed16 f.reference else 0
  let kind := match f.notice with | some (k, _) => k.code | none => 0
  let severity : FrameByte := match f.notice with | some (_, v) => BitVec.ofNat 8 v | none => 0
  let body := [BitVec.ofNat 8 position, flags, r.extractLsb' 8 8, r.extractLsb' 0 8, kind, severity]
  [0xA5] ++ body ++ [crc8 body]

/-- How a completed frame fails (R161). -/
inductive FrameFault where
  | check | position
  deriving DecidableEq, Repr

/-- The contents of bytes 3 to 7 that pass the validity test: a regime code 0..4, a direction code 0..2, and a kind
byte of 1 or 2 if a notice is present (R161). -/
def Frame.ofBytes (flags hi lo kind severity : FrameByte) : Option Frame :=
  match Regime.ofCode (flags.extractLsb' 0 3), Direction.ofCode (flags.extractLsb' 3 2) with
  | some r, some d =>
    let frame (n : Option (Kind × Nat)) : Frame :=
      { regime := r, direction := d, valid := flags.getLsbD 5, reference := (hi ++ lo).toInt, notice := n
        sand := flags.getLsbD 7 }
    if flags.getLsbD 6 then
      if kind = 1 then some (frame (some (.spin, severity.toNat)))
      else if kind = 2 then some (frame (some (.slide, severity.toNat)))
      else none
    else some (frame none)
  | _, _ => none

/-- Judge a completed frame of eight bytes by the check, validity and position tests, in that order (R161). -/
def judgeFrame (position : Nat) (bytes : List FrameByte) : Except FrameFault Frame :=
  match bytes with
  | [_, pos, flags, hi, lo, kind, severity, check] =>
    if crc8 [pos, flags, hi, lo, kind, severity] ≠ check then .error .check
    else
      match Frame.ofBytes flags hi lo kind severity with
      | none => .error .check
      | some f => if pos.toNat + 1 = position then .ok f else .error .position
  | _ => .error .check

end Sys2Proof.Machine
end

