-- ==== Sys2Proof/Machine/Ops.lean ====
section
/-! DEFINITION. The operations every block shares: timers, odometer marks, the relations between axles, bogies,
motors and sources, the configuration as the blocks read it, and handing a word to the write-back queue. A block has
no exception entry: raising a cause or a line is a command's effect. -/

namespace Sys2Proof.Machine

/-! ### Timers (R2) -/

/-- Milliseconds in µs. -/
def ms (n : Nat) : Nat := n * 1000

/-- A timer started now with a length in µs. -/
def State.timer (s : State) (length : Nat) : Timer := some (s.now + length)

/-- A timer's expiry: it acts only while the timer runs, and takes the time base to the timer's end (log 4). A timer
that is cancelled does not expire. -/
def onExpiry (t : Timer) (f : State → State) (s : State) : State :=
  match t with
  | none => s
  | some d => f { s with now := max s.now d }

/-! ### Odometer marks (00_scope, Units and ranges) -/

/-- A mark is reached when (odometer − mark) mod 2^32 is less than 2^31. -/
def reached (odometer mark : Odo) : Bool := (odometer - mark).toNat < 2 ^ 31

/-- The distance to reach a mark: (mark − odometer) mod 2^32. -/
def distanceTo (odometer mark : Odo) : Nat := (mark - odometer).toNat

/-- An odometer value some cm further on, modulo 2^32. -/
def advance (odometer : Odo) (cm : Nat) : Odo := odometer + BitVec.ofNat 32 cm

end Sys2Proof.Machine

namespace Sys2Proof

open Machine

/-! ### Relations -/

/-- The bogie of a motor bogie. -/
def Motor.bogie : Motor → Bogie
  | .a => .a | .b => .b

/-- The traction channel of a motor bogie. -/
def Motor.role : Motor → EffortRole
  | .a => .tractionA | .b => .tractionB

/-- The electric brake source of a motor bogie. -/
def Motor.ed : Motor → Source
  | .a => .edA | .b => .edB

/-- The other motor bogie. -/
def Motor.other : Motor → Motor
  | .a => .b | .b => .a

/-- The friction brake source of a bogie. -/
def Bogie.fr : Bogie → Source
  | .a => .frA | .t => .frT | .b => .frB

/-- The two axles of a bogie, in order. -/
def Bogie.axles : Bogie → Axle × Axle
  | .a => (.a1, .a2) | .t => (.t1, .t2) | .b => (.b1, .b2)

/-- The bogie of an axle. -/
def Axle.bogie : Axle → Bogie
  | .a1 => .a | .a2 => .a | .t1 => .t | .t2 => .t | .b1 => .b | .b2 => .b

end Sys2Proof

namespace Sys2Proof.Machine

/-- The leading motor bogie: A in FORWARD, B in REVERSE, none in NEUTRAL. -/
def leadingMotor : Direction → Option Motor
  | .neutral => none | .forward => some .a | .reverse => some .b

/-- Every axle, in the fixed order. -/
def allAxles : List Axle := [.a1, .a2, .t1, .t2, .b1, .b2]

/-- Every sander, in the fixed order. -/
def allSanders : List SanderId := [.s1, .s2, .s3, .s4]

/-- The permutation of a list that a number names: the first place by the largest digit of its factorial-base
expansion, and so on. Every number below the factorial of the length names another order. -/
def permuted {α : Type} (n : Nat) : List α → List α
  | [] => []
  | x :: xs =>
    let rest := permuted (n / (xs.length + 1)) xs
    rest.insertIdx (n % (xs.length + 1)) x

/-! ### The configuration as the blocks read it -/

/-- The part serves its intent table and its window table copy: ACTIVE or FALLBACK (R23). -/
def State.inForce (s : State) : Bool := s.ctl.part = .active || s.ctl.part = .fallback

/-- The configured control period in µs (R79). -/
def State.controlPeriod (s : State) : Nat := ms s.cfg.tun.slip.controlPeriod

/-- Whether the source's bogie isolates it (R17). -/
def State.isolated (s : State) : Source → Bool
  | .edA => s.cfg.str.driveIsolated.a
  | .edB => s.cfg.str.driveIsolated.b
  | .frA => s.cfg.str.frictionIsolated.a
  | .frT => s.cfg.str.frictionIsolated.t
  | .frB => s.cfg.str.frictionIsolated.b

/-- The refresh budget of an intent channel in µs (R3). -/
def State.refreshLength (s : State) (r : EffortRole) : Nat := ms ((s.cfg.tun.intent.refresh.get r).budget * 10)

/-- The MODE channel's refresh budget in µs. -/
def State.modeRefreshLength (s : State) : Nat := ms (s.cfg.tun.intent.modeBudget * 10)

/-- The supply threshold in 0.1 V (R142, 12.2). -/
def supplyThreshold (code : BitVec 2) : Nat :=
  match code.toNat with
  | 0 => 168 | 1 => 180 | 2 => 192 | _ => 204

/-- A unit at position 1, 2 or 3 is a follower (R70, R158). -/
def State.follower (s : State) : Bool := 1 ≤ s.cfg.str.position && s.cfg.str.position ≤ 3

/-- The debounce length in samples (R47). -/
def ChannelItems.debounceLength (c : ChannelItems) : Nat := 2 ^ c.debounce.toNat

/-- The prescale: 1, 2, 4 or 8 (R47). -/
def ChannelItems.prescale (c : ChannelItems) : Nat := 2 ^ c.prescaler.toNat

/-- Edges per revolution: ppr × 2 when the counted edge is BOTH (R47). -/
def ChannelItems.edges (c : ChannelItems) : Nat := if c.countedEdge = 2 then c.ppr * 2 else c.ppr

/-- The channel's configuration is in range (R47). -/
def ChannelItems.inRange (c : ChannelItems) : Bool :=
  4500 ≤ c.diameter && c.diameter ≤ 7200 && 20 ≤ c.ppr && c.ppr ≤ 200 && c.countedEdge != 3

/-! ### The write-back queue (R33, R34) -/

/-- A new queue entry may be the third member of a held read's pending set: the first entry for its address to join
while the watched write is in flight (R30). -/
def HostSlot.joinPending (h : HostSlot) (inflight : Option InFlight) (addr : Addr) (id : Nat) : HostSlot :=
  match h.wait, inflight with
  | .onEntries ids (some w), some f =>
    if f.entry.id = w ∧ f.entry.addr = addr then { h with wait := .onEntries (ids ++ [id]) none } else h
  | _, _ => h

/-- The queue takes a handed word: a queued entry for the address has its word replaced in place; otherwise a new
entry is appended at the tail (R34). -/
def Interposer.enqueue (ip : Interposer) (origin : Role) (addr : Addr) (word : Word) : Interposer :=
  if ip.queue.any fun e => e.addr = addr then
    { ip with queue := ip.queue.map fun e => if e.addr = addr then { e with word := word } else e }
  else
    { ip with
      queue := ip.queue ++ [{ id := ip.nextId, addr := addr, word := word, origin := origin, attempts := 0 }]
      nextId := ip.nextId + 1
      queueWait := if ip.queue.isEmpty then 0 else ip.queueWait
      host := ip.host.map fun h => h.joinPending ip.inflight addr ip.nextId }

/-- The address a formed word is handed for: none if it equals the role's last handed word (R18). -/
def IntentTable.handAddr (t : IntentTable) (role : Role) (w : Word) : Option Addr :=
  if t.handed.get role = some w then none else t.addrs.get role

/-- Hand a formed word: compared with the role's last handed word, all 32 bits, and given to the write-back queue if
it differs or the last handed word is none (R18). -/
def hand (role : Role) (w : Word) (s : State) : State :=
  { s with
    intent :=
      match s.intent.handAddr role w with
      | some _ => { s.intent with handed := s.intent.handed.set role (some w) }
      | none => s.intent
    ip :=
      match s.intent.handAddr role w with
      | some a => s.ip.enqueue role a w
      | none => s.ip }

end Sys2Proof.Machine
end

