-- ==== Sys2Proof/Machine/IntentTable.lean ====
section
/-! DEFINITION. The intent table (chapter 1): taking demand writes, refresh and staleness, held effective traction
and the words the part writes back. -/

namespace Sys2Proof.Machine

/-- The intent of an effort channel as the part uses it: 0 while the channel is ABSENT or STALE (R10, R123). -/
def IntentTable.value (t : IntentTable) (r : EffortRole) : Nat :=
  let c := t.channels.get r
  if c.fresh = .live then c.intent.getD 0 else 0

/-! ### Held effective traction -/

/-- The ceiling effort of a motor bogie: K × nominal / 1000 (R10 step 2). -/
def State.ceilingEffort (s : State) (m : Motor) : Nat :=
  (s.ceil.records.get m.bogie).k * s.cfg.str.nominal.get m / 1000

/-- The target of a motor bogie at a claim (R10). -/
def State.target (s : State) (m : Motor) : Nat :=
  if s.intent.accepted.regime = .traction ∧ s.intent.accepted.direction ≠ .neutral ∧ s.ctl.part ≠ .fallback
      ∧ s.cfg.str.driveIsolated.get m = false then
    min (s.intent.value m.role) (s.ceilingEffort m) * (s.ev.bogies.get m.bogie).c / 1000
  else 0

/-- The TRACTION_X word's tag, by the first matching line of R13. -/
def State.tractionTag (s : State) (m : Motor) : Tag :=
  if s.cfg.str.driveIsolated.get m then .void
  else if s.ctl.part = .fallback then .fallback
  else if (s.intent.channels.get m.role).fresh ≠ .live then .default
  else if (s.intent.channels.get m.role).intent = some (s.intent.held.get m) then .effective
  else .corrected

/-- The TRACTION_X word (R13, R17). -/
def State.tractionWord (s : State) (m : Motor) : Word :=
  if s.cfg.str.driveIsolated.get m then voidWord
  else setpointWord (s.intent.held.get m) (s.tractionTag m)

/-- Form and hand the TRACTION_X word (R11, R18). -/
def handTraction (m : Motor) (s : State) : State := hand (.intent m.role) (s.tractionWord m) s

/-- T_X after a claim: at an evaluation claim the smaller of the target and T_X plus the rise step, at every other
claim the smaller of T_X and the target (R11). -/
def State.claimed (s : State) (evaluation : Bool) (m : Motor) : Nat :=
  if evaluation then min (s.target m) (s.intent.held.get m + s.cfg.tun.intent.riseStep)
  else min (s.intent.held.get m) (s.target m)

/-- A recompute claim on a motor bogie (R11). -/
def claim (evaluation : Bool) (m : Motor) (s : State) : State :=
  handTraction m { s with intent := { s.intent with held := s.intent.held.set m (s.claimed evaluation m) } }

/-- A recompute claim on both motor bogies (R11): A's claim and word first, then B's, at every event that claims on both,
which the manual leaves open (log 45). -/
def claimBoth (evaluation : Bool) (s : State) : State := claim evaluation .b (claim evaluation .a s)

/-! ### The BRAKE and MODE words -/

/-- The BRAKE word's tag, by the first matching line of R14. -/
def State.brakeTag (s : State) (applied : Nat) : Tag :=
  if s.ctl.part = .fallback then .fallback
  else if s.intent.channels.brake.fresh ≠ .live then .default
  else if s.intent.channels.brake.intent = some applied then .effective
  else .corrected

/-- Form and hand the BRAKE word of an applied brake (R14). -/
def handBrake (applied : Nat) (s : State) : State :=
  hand (.intent .brake) (setpointWord applied (s.brakeTag applied)) s

/-- The MODE word's tag, by the first matching line of R15. -/
def State.modeTag (s : State) : Tag :=
  if s.ctl.part = .fallback then .fallback
  else if s.intent.mode.fresh ≠ .live then .default
  else if s.intent.adjusted then .corrected
  else .effective

/-- Form and hand the MODE word (R15). -/
def handMode (s : State) : State := hand .mode (modeWord s.intent.accepted s.modeTag) s

/-! ### Taking writes and refresh -/

/-- An effort clipped to a channel's limits: above max set to max, below min set to min (R4). -/
def clip (l : Limits) (v : Nat) : Nat := if l.max < v then l.max else if v < l.min then l.min else v

/-- The channel takes a full write: the clipped effort becomes the intent, the state LIVE, and in REFRESHED mode the
timer is restarted with the full budget (R4). -/
def takeEffort (r : EffortRole) (w : Word) (s : State) : State :=
  let v := clip (s.cfg.tun.intent.limits.get r) (item w)
  let t : Timer := if (s.cfg.tun.intent.refresh.get r).continuous then none else s.timer (s.refreshLength r)
  countIf (v != item w) .rangeClipped
    { s with
      intent :=
        { s.intent with channels := s.intent.channels.set r { intent := some v, fresh := .live, timer := t } } }

/-- The MODE channel takes a valid write: the record becomes the intent and the accepted MODE, the state LIVE, the
timer is restarted; a clipped gradient is counted (R5, R6). -/
def takeMode (m : ModeRecord) (clipped adjusted : Bool) (s : State) : State :=
  countIf clipped .rangeClipped
    { s with
      intent :=
        { s.intent with
          mode := { intent := some m, fresh := .live, timer := s.timer s.modeRefreshLength }
          accepted := m
          adjusted := adjusted } }

/-- The refresh timer of an effort channel expires: STALE, and STALE_INTENT is raised (R8). -/
def staleEffort (r : EffortRole) (s : State) : State :=
  raise .staleIntent
    { s with
      intent :=
        { s.intent with
          channels := s.intent.channels.set r { s.intent.channels.get r with fresh := .stale, timer := none } } }

/-- The refresh timer of MODE expires: STALE, STALE_INTENT is raised, and the MODE word is rewritten with tag DEFAULT;
the accepted MODE is kept (R8). -/
def staleMode (s : State) : State :=
  handMode (raise .staleIntent
    { s with intent := { s.intent with mode := { s.intent.mode with fresh := .stale, timer := none } } })

/-- Start the refresh timers of all REFRESHED channels with their full budgets (R7, R21). -/
def startRefresh (s : State) : State :=
  { s with
    intent :=
      { s.intent with
        channels := PerEffort.build fun r =>
          { s.intent.channels.get r with
            timer := if (s.cfg.tun.intent.refresh.get r).continuous then none else s.timer (s.refreshLength r) }
        mode := { s.intent.mode with timer := s.timer s.modeRefreshLength } } }

/-- Cancel every refresh timer (R7). -/
def cancelRefresh (s : State) : State :=
  { s with
    intent :=
      { s.intent with
        channels := PerEffort.build fun r => { s.intent.channels.get r with timer := none }
        mode := { s.intent.mode with timer := none } } }

/-! ### Tuning of a channel (R9), outside SETUP -/

/-- A change of limits clips the stored intent at once, counting RANGE_CLIPPED if it changes (R9). -/
def clipStored (r : EffortRole) (s : State) : State :=
  let c := s.intent.channels.get r
  let v := c.intent.map (clip (s.cfg.tun.intent.limits.get r))
  countIf (v != c.intent) .rangeClipped
    { s with intent := { s.intent with channels := s.intent.channels.set r { c with intent := v } } }

/-- A change of refresh mode: to CONTINUOUS cancels the timer, to REFRESHED starts it with the full budget; a change
of budget alone leaves a running timer its length (R9). -/
def changeRefresh (r : EffortRole) (old : Refresh) (s : State) : State :=
  let c := s.intent.channels.get r
  let new := s.cfg.tun.intent.refresh.get r
  let t : Timer :=
    if new.continuous then none
    else if old.continuous then s.timer (s.refreshLength r)
    else c.timer
  { s with intent := { s.intent with channels := s.intent.channels.set r { c with timer := t } } }

/-! ### The initial sweep (R19) -/

/-- The word address of a role in a window table: the base of the first entry with the role's code (R23). -/
def windowBase (ws : List WindowEntry) (code : BitVec 4) : Option Addr :=
  (ws.find? fun e => e.code = code).map (·.base)

/-- The window code of a part-owned role (R23). -/
def Role.windowCode : Role → BitVec 4
  | .intent .tractionA => 1 | .intent .tractionB => 2 | .intent .brake => 3 | .mode => 4
  | .output .edA => 5 | .output .edB => 6 | .output .frA => 7 | .output .frT => 8 | .output .frB => 9

/-- The intent table's records prepared on entry to ACTIVE from SETUP: addresses copied, all channels ABSENT with no
intent, T_A and T_B 0, the accepted MODE at its defaults, every last handed word none (R19). -/
def prepareRecords (s : State) : State :=
  let ws := s.ip.copy.toList
  let base (r : Role) : Option Addr := windowBase ws r.windowCode
  { s with
    intent :=
      { IntentTable.reset with
        addrs :=
          ⟨⟨base (.intent .tractionA), base (.intent .tractionB), base (.intent .brake)⟩, base .mode,
           ⟨base (.output .edA), base (.output .edB), base (.output .frA), base (.output .frT),
            base (.output .frB)⟩⟩ } }

/-- The swept word of a source: effort 0 with tag DEFAULT, or void if isolated (R19). -/
def sweptWord (isolated : Bool) : Word := if isolated then voidWord else setpointWord 0 .default

/-- Hand a swept output word. -/
def sweepOutput (x : Source) (s : State) : State := hand (.output x) (sweptWord (s.isolated x)) s

/-- The initial sweep: form and hand all nine words in the order of R19. -/
def initialSweep (s : State) : State :=
  let s := hand (.intent .tractionA) (sweptWord s.cfg.str.driveIsolated.a) s
  let s := hand (.intent .tractionB) (sweptWord s.cfg.str.driveIsolated.b) s
  let s := hand (.intent .brake) (setpointWord 0 .default) s
  let s := hand .mode (modeWord ModeRecord.default .default) s
  sweepOutput .frB (sweepOutput .frT (sweepOutput .frA (sweepOutput .edB (sweepOutput .edA s))))

/-- The intent table at RESTART: channels ABSENT, T 0, defaults; the tuning and the word addresses are kept (R22). -/
def intentRestart (s : State) : State :=
  { s with intent := { IntentTable.reset with addrs := s.intent.addrs } }

end Sys2Proof.Machine
end

