-- ==== Sys2Proof/Machine/Sanding.lean ====
section
/-! DEFINITION. The sanding controller (chapter 8): sander states, triggers, pulses, budget windows, levels, the sand
trail and the actuator supply monitor. -/

namespace Sys2Proof.Machine

/-! ### Sander states (R143) -/

/-- The five states of a sander (R143). -/
inductive SanderState where
  | disabled | unavailable | empty | pulsing | idle
  deriving DecidableEq, Repr

/-- The state follows from the enable, the supply state, the level indicator and the pulse timer (R143). -/
def sanderState (enabled supplyGood : Bool) (r : SanderRecord) : SanderState :=
  if !enabled then .disabled
  else if !supplyGood then .unavailable
  else if !r.full then .empty
  else if r.pulse.isSome then .pulsing
  else .idle

/-- The state of a sander. -/
def State.sanderState (s : State) (i : SanderId) : SanderState :=
  Machine.sanderState (s.cfg.tun.sanders.get i).enabled s.sand.supplyGood (s.sand.sanders.get i)

/-- A sander with a tuning leads in a direction: it is enabled and its leading-for direction is that one; in NEUTRAL
no sander leads (R142). -/
def SanderTuning.leads (t : SanderTuning) (d : Direction) : Bool :=
  t.enabled && (match d with | .neutral => false | .forward => !t.forReverse | .reverse => t.forReverse)

/-- The sander leads under the accepted direction (R142). -/
def State.leads (s : State) (i : SanderId) : Bool := (s.cfg.tun.sanders.get i).leads s.intent.accepted.direction

/-- A leading sander other than `i` is PULSING. -/
def State.otherPulsing (s : State) (i : SanderId) : Bool :=
  allSanders.any fun j => j != i && s.leads j && s.sanderState j == .pulsing

/-- Some leading sander is PULSING. -/
def State.leadingPulsing (s : State) : Bool := allSanders.any fun j => s.leads j && s.sanderState j == .pulsing

/-- Sand active: some sander is PULSING (R156). -/
def State.sandActive (s : State) : Bool := allSanders.any fun j => s.sanderState j == .pulsing

/-! ### Triggers (R144, R145) -/

/-- What becomes of a trigger at a sander (R144). -/
inductive Verdict where
  | notReached | withheld | accepted
  deriving DecidableEq, Repr

/-- The order in which a combined trigger is named (R144). -/
def triggerOrder : List Trigger := [.manual, .excursion, .repeated, .emergency, .start, .poorRail]

/-- The first of a combined trigger's parts in that order. -/
def combinedName (parts : List Trigger) : Option Trigger := triggerOrder.find? fun k => parts.contains k

/-- Judge a trigger, combined of its parts, at a sander (R144). -/
def State.verdict (s : State) (i : SanderId) (parts : List Trigger) : Verdict :=
  if parts.isEmpty || !s.leads i then .notReached
  else
    match s.sanderState i with
    | .disabled => .notReached
    | .empty | .unavailable => .withheld
    | .idle | .pulsing =>
      if (s.sand.sanders.get i).remaining = 0 then .withheld
      else if s.sand.seenMagnitude < 200 && !parts.contains .start then .withheld
      else .accepted

/-- The sander's record after a verdict (R144). -/
def SanderRecord.after (r : SanderRecord) (v : Verdict) (pulse : Timer) (name : Option Trigger) : SanderRecord :=
  match v with
  | .notReached => r
  | .withheld => { r with withheld := min 65535 (r.withheld + 1), last := name }
  | .accepted => { r with remaining := r.remaining - 1, pulse := pulse, last := name }

/-- Give a trigger, combined of its parts, to a sander. An accepted trigger starts or restarts the pulse, spends one
unit of the budget, counts SAND_PULSE_START and makes the sand trail active; a withheld one raises SAND_WITHHELD
(R144, R152). -/
def offer (i : SanderId) (parts : List Trigger) (s : State) : State :=
  let v := s.verdict i parts
  { s with
    sand :=
      { s.sand with
        sanders := s.sand.sanders.set i
          ((s.sand.sanders.get i).after v (s.timer (ms (s.cfg.tun.sanders.get i).pulse)) (combinedName parts))
        trail := s.sand.trail || v == .accepted }
    rep :=
      match v with
      | .notReached => s.rep
      | .withheld => s.rep.raise .sandWithheld
      | .accepted => s.rep.bump Counter.sandPulseStart.number }

/-- Give each sander, in the fixed order, a trigger combined of its own parts. -/
def offerEach (parts : SanderId → List Trigger) (s : State) : State :=
  offer .s4 (parts .s4) (offer .s3 (parts .s3) (offer .s2 (parts .s2) (offer .s1 (parts .s1) s)))

/-! ### Standing triggers (R146, R147) -/

/-- The climbing gradient: the accepted gradient in FORWARD, its inverse in REVERSE, 0 in NEUTRAL (R146). -/
def ModeRecord.climbing (m : ModeRecord) : Int :=
  match m.direction with | .neutral => 0 | .forward => m.gradient | .reverse => -m.gradient

/-- The traction share of a motor bogie in ‰ of its nominal effort (R146). -/
def State.tractionShare (s : State) (m : Motor) : Nat := s.intent.held.get m * 1000 / s.cfg.str.nominal.get m

/-- The POOR_RAIL condition (R146). -/
def State.poorRail (s : State) : Bool :=
  s.intent.accepted.rail == .poor && decide (40 ≤ s.intent.accepted.climbing)
    && (match leadingMotor s.intent.accepted.direction with
        | none => false
        | some m => decide (600 < s.tractionShare m))

/-- The standing triggers that hold; they are given in ACTIVE and FALLBACK only, and POOR_RAIL is one of them only if it
held at its last judgment and its condition has not stopped holding since (R146, R147, R155; log 18). -/
def State.standing (s : State) : List Trigger :=
  if s.inForce then
    (if s.intent.accepted.sand then [Trigger.manual] else [])
      ++ (if s.intent.accepted.regime = .emergency ∧ 200 ≤ s.sand.seenMagnitude then [Trigger.emergency] else [])
      ++ (if s.sand.poorSeen && s.poorRail then [Trigger.poorRail] else [])
  else []

/-! ### The end of pulses and the sand trail (R149, R152) -/

/-- The mark set when a pulse ends: the seen odometer plus 2,000 cm (R152). -/
def Sanding.endMark (x : Sanding) : Odo := advance x.seenOdometer Config.trailLength

/-- Stop the pulses of some sanders: their timers are cancelled, and if one of them led and none that leads pulses on,
the trail mark is set (R143, R149, R152). -/
def stopPulses (which : SanderId → Bool) (s : State) : State :=
  let stopped := fun i => which i && (s.sand.sanders.get i).pulse.isSome && s.leads i
  let goesOn := fun i => !which i && s.leads i && s.sanderState i == .pulsing
  { s with
    sand :=
      { s.sand with
        sanders := PerSander.build fun i =>
          if which i then { s.sand.sanders.get i with pulse := none } else s.sand.sanders.get i
        trailMark :=
          if allSanders.any stopped && !allSanders.any goesOn then some s.sand.endMark else s.sand.trailMark } }

/-- The pulse timer of a sander expires: the pulse ends, the standing triggers that hold are re-offered to it, and if
none starts a new pulse and no other leading sander pulses, the trail mark is set (R149, R152). -/
def pulseEnd (i : SanderId) (s : State) : State :=
  let s1 := { s with
    sand := { s.sand with sanders := s.sand.sanders.set i { s.sand.sanders.get i with pulse := none } } }
  let s2 := offer i s.standing s1
  { s2 with
    sand :=
      { s2.sand with
        trailMark :=
          if (s2.sand.sanders.get i).pulse.isNone && s.leads i && !s.otherPulsing i then some s.sand.endMark
          else s.sand.trailMark } }

/-! ### MODE taken and release events (R146, R148, R154) -/

/-- The controller handles a MODE taken event. A change of direction first stops the pulses of the sanders that no
longer lead, ends the trail and judges POOR_RAIL afresh; then the onsets of the standing triggers are judged and given,
combined, to the leading sanders (R146, R154). -/
def sandModeTaken (s : State) : State :=
  let changed := s.intent.accepted.direction != s.sand.seenDirection
  let poor := s.poorRail
  let parts :=
    (if s.intent.accepted.sand && (!s.sand.seenRequest || changed) then [Trigger.manual] else [])
      ++ (if s.intent.accepted.regime == .emergency && (s.sand.seenRegime != .emergency || changed) then
            [Trigger.emergency] else [])
      ++ (if poor && (!s.sand.poorSeen || changed) then [Trigger.poorRail] else [])
  offerEach (fun _ => parts)
    { s with
      sand :=
        { s.sand with
          sanders :=
            if changed then
              PerSander.build fun i =>
                if s.leads i then s.sand.sanders.get i else { s.sand.sanders.get i with pulse := none }
            else s.sand.sanders
          trail := s.sand.trail && !changed
          trailMark := if changed then none else s.sand.trailMark
          poorSeen := poor
          seenRequest := s.intent.accepted.sand
          seenRegime := s.intent.accepted.regime
          seenDirection := s.intent.accepted.direction } }

/-- The release event of a hill start: START is given to all leading sanders if the climbing gradient is 60 ‰ or more
and the rail hint is not DRY (R148). -/
def sandRelease (s : State) : State :=
  let qualifies := decide (60 ≤ s.intent.accepted.climbing) && s.intent.accepted.rail != .dry
  offerEach (fun _ => if qualifies then [Trigger.start] else []) s

/-! ### An evaluation completion (R145, R147, R150, R152, R155) -/

/-- The motor bogie whose axle entries give an EXCURSION trigger, if one of its axles entered (R145). -/
def Evaluation.excursionBogie (e : Evaluation) : Option Motor :=
  match leadingMotor e.direction with
  | none => none
  | some m =>
    let (x, y) := m.bogie.axles
    if (e.slips.get x).entered || (e.slips.get y).entered then some m else none

/-- Some bogie became adhesion poor at the evaluation (R145). -/
def Evaluation.becamePoor (e : Evaluation) : Bool :=
  e.bogies.a.becamePoor || e.bogies.t.becamePoor || e.bogies.b.becamePoor

/-- The window of an enabled sander runs out at an odometer value (R150). -/
def State.windowEnds (s : State) (odometer : Odo) (i : SanderId) : Bool :=
  let t := s.cfg.tun.sanders.get i
  t.enabled && reached odometer (advance (s.sand.sanders.get i).windowStart (t.window * 100))

/-- The parts of the trigger that a completion gives to a sander (R145, R146, R147; log 17): `crossing` when the seen
reference rises to 200 mm/s, `reload` when the sander's window reloads, `onset` when POOR_RAIL begins to hold. -/
def State.completionParts (s : State) (e : Evaluation) (crossing onset : Bool) (reload : SanderId → Bool)
    (i : SanderId) : List Trigger :=
  let atEnd : Bool :=
    match e.excursionBogie with
    | none => false
    | some .a => !(s.cfg.tun.sanders.get i).endB
    | some .b => (s.cfg.tun.sanders.get i).endB
  let idle := s.sanderState i == .idle
  let pulsing := s.sanderState i == .pulsing
  (if atEnd then [Trigger.excursion] else [])
    ++ (if e.becamePoor then [Trigger.repeated] else [])
    ++ (if onset then [Trigger.poorRail] else [])
    ++ (if (crossing && idle) || (reload i && !pulsing) then s.standing else [])

/-- The records as a completion finds them: the seen reference and odometer taken, POOR_RAIL judged, windows that have
run out reloaded (R146, R150, R155). -/
def sandSeen (e : Evaluation) (s : State) : State :=
  { s with
    sand :=
      { s.sand with
        seenMagnitude := e.ref.magnitude
        seenOdometer := e.ref.odometer
        poorSeen := s.poorRail
        sanders := PerSander.build fun i =>
          if s.windowEnds e.ref.odometer i then
            { s.sand.sanders.get i with
              remaining := (s.cfg.tun.sanders.get i).budget, windowStart := e.ref.odometer }
          else s.sand.sanders.get i } }

/-- The trail test of a completion: when the mark is reached and no leading sander is PULSING, the trail becomes
inactive and the mark none (R152). -/
def trailTest (odometer : Odo) (s : State) : State :=
  let ends := (match s.sand.trailMark with | none => false | some m => reached odometer m) && !s.leadingPulsing
  { s with
    sand :=
      { s.sand with
        trail := s.sand.trail && !ends, trailMark := if ends then none else s.sand.trailMark } }

/-- The controller handles an evaluation completion. -/
def sandCompletion (e : Evaluation) (s : State) : State :=
  let crossing := decide (s.sand.seenMagnitude < 200) && decide (200 ≤ e.ref.magnitude)
  let onset := s.poorRail && !s.sand.poorSeen
  let s1 := sandSeen e s
  trailTest e.ref.odometer (offerEach (s1.completionParts e crossing onset (s.windowEnds e.ref.odometer)) s1)

/-! ### Levels and the supply (R151, R153) -/

/-- The part samples its level inputs and its supply: every state but RESET and PUBLISH. -/
def State.samples (s : State) : Bool := s.ctl.part != .reset && s.ctl.part != .publish

/-- The standing triggers re-offered to a sander that leads and has just returned to IDLE; `was` is its state before
(R147). -/
def reofferIdle (i : SanderId) (was : SanderState) (s : State) : State :=
  let returned := (was == .empty || was == .unavailable) && s.sanderState i == .idle
  offer i (if returned then s.standing else []) s

/-- The level indicator becomes FULL (R151, R154). -/
def levelFull (i : SanderId) (s : State) : State :=
  reofferIdle i (s.sanderState i)
    { s with
      sand :=
        { s.sand with
          sanders :=
            s.sand.sanders.set i
              { s.sand.sanders.get i with full := true, level := none, levelFresh := false } } }

/-- A sample of a sander's level input found low (R151). -/
def levelLow (i : SanderId) (s : State) : State :=
  let acts := s.samples && (s.cfg.tun.sanders.get i).enabled
  let r := s.sand.sanders.get i
  let s1 := stopPulses (fun j => j = i && acts && r.full) s
  raiseIf (acts && r.full) .sandEmpty
    { s1 with
      sand :=
        { s1.sand with
          sanders :=
            if acts then
              s1.sand.sanders.set i
                { s1.sand.sanders.get i with full := false, level := none, levelFresh := false }
            else s1.sand.sanders } }

/-- A sample of a sander's level input found high: with the indicator EMPTY it starts the level timer, or sets the
indicator at once at the first sample after the sander was enabled (R151, R154). -/
def levelHigh (i : SanderId) (s : State) : State :=
  let r := s.sand.sanders.get i
  if s.samples && (s.cfg.tun.sanders.get i).enabled then
    if r.full then
      { s with sand := { s.sand with sanders := s.sand.sanders.set i { r with levelFresh := false } } }
    else if r.levelFresh then levelFull i s
    else if r.level.isNone then
      { s with
        sand := { s.sand with sanders := s.sand.sanders.set i { r with level := s.timer Config.levelLength } } }
    else s
  else s

/-- The configured supply threshold in 0.1 V. -/
def State.threshold (s : State) : Nat := supplyThreshold s.cfg.tun.supplyCode

/-- A sample of the actuator supply (R153): below the threshold while GOOD moves it to LOW, raises ACT_SUPPLY_LOW and
stops every pulse; at the threshold + 0.6 V or above while LOW moves it to GOOD, and each sander that becomes IDLE is a
re-offer event. -/
def supplySample (decivolts : Nat) (s : State) : State :=
  let toLow := s.samples && s.sand.supplyGood && decide (decivolts < s.threshold)
  let toGood := s.samples && !s.sand.supplyGood && decide (s.threshold + 6 ≤ decivolts)
  let s1 := stopPulses (fun _ => toLow) s
  let s2 := raiseIf toLow .actSupplyLow
    { s1 with sand := { s1.sand with supplyGood := if toLow then false else s.sand.supplyGood || toGood } }
  offerEach
    (fun i => if toGood && s.sanderState i == .unavailable && s2.sanderState i == .idle then s2.standing else []) s2

/-! ### Tuning and part states (R154, R155, R157) -/

/-- A sander's tuning has been replaced; `old` is what it was (R154). A pulse whose sander no longer leads is stopped,
with the trail mark of R152. -/
def sanderTuned (i : SanderId) (old : SanderTuning) (s : State) : State :=
  let t := s.cfg.tun.sanders.get i
  let r := s.sand.sanders.get i
  let stops := r.pulse.isSome && !s.leads i
  let enabling := !old.enabled && t.enabled
  { s with
    sand :=
      { s.sand with
        sanders :=
          s.sand.sanders.set i
            { r with
              pulse := if stops then none else r.pulse
              level := if t.enabled then r.level else none
              levelFresh := r.levelFresh || enabling
              remaining := if enabling then t.budget else min r.remaining t.budget
              windowStart := if enabling then s.sand.seenOdometer else r.windowStart }
        trailMark :=
          if stops && old.leads s.intent.accepted.direction && !s.otherPulsing i then some s.sand.endMark
          else s.sand.trailMark } }

/-- Entry to ACTIVE from SETUP (R155). -/
def sandEnterActive (s : State) : State :=
  { s with
    sand :=
      { s.sand with
        sanders := PerSander.build fun i =>
          if (s.cfg.tun.sanders.get i).enabled then
            { s.sand.sanders.get i with
              remaining := (s.cfg.tun.sanders.get i).budget, windowStart := s.ref.odometer }
          else s.sand.sanders.get i
        seenMagnitude := s.ref.magnitude
        seenOdometer := s.ref.odometer
        poorSeen := false
        seenRequest := ModeRecord.default.sand
        seenRegime := ModeRecord.default.regime
        seenDirection := ModeRecord.default.direction } }

/-- The trail becomes inactive and its mark none. -/
def trailOff (s : State) : State := { s with sand := { s.sand with trail := false, trailMark := none } }

/-- Entry to SETUP by GO_SETUP: every pulse is stopped, the trail ends (R155). -/
def sandGoSetup (s : State) : State := trailOff (stopPulses (fun _ => true) s)

/-- Entry to STANDBY: every pulse is stopped (R155). -/
def sandStandby (s : State) : State := stopPulses (fun _ => true) s

/-- RESTART (R157); the remembered MODE values stand, as no row names them (log 49). -/
def sandRestart (s : State) : State :=
  { s with
    sand :=
      { s.sand with
        sanders := PerSander.build fun i =>
          { s.sand.sanders.get i with
            pulse := none, remaining := (s.cfg.tun.sanders.get i).budget, windowStart := s.ref.odometer }
        trail := false
        trailMark := none
        seenMagnitude := 0
        seenOdometer := s.ref.odometer
        poorSeen := false } }

end Sys2Proof.Machine
end

