-- ==== Sys2Proof/Machine/Blend.lean ====
section
/-! DEFINITION. The blend allocator (chapter 7): hold requirement, demand, caps, the allocation walk, shortfall, hill
start and track brakes. A run is one operation, `run`, made of the steps of R121. -/

namespace Sys2Proof.Machine

/-! ### What a run reads -/

/-- B: the brake intent, or 0 while BRAKE is ABSENT or STALE (R123). -/
def State.brakeIntent (s : State) : Nat := s.intent.value .brake

/-- The mass and gradient magnitude of a run: the tuned maxima in FALLBACK while MODE is ABSENT or STALE, else those of
the accepted MODE (R122). -/
def State.massAndGradient (s : State) : Nat × Nat :=
  if s.ctl.part = .fallback ∧ s.intent.mode.fresh ≠ .live then (s.cfg.tun.blend.maxMass, s.cfg.tun.blend.maxGradient)
  else (s.intent.accepted.mass, s.intent.accepted.gradient.natAbs)

/-- The hold requirement of a mass in units of 250 kg, a gradient in ‰ and a margin, each step rounded down (R122). -/
def holdRequirement (m g margin : Nat) : Nat := m * 250 * 981 * g / 1000000 * (1000 + margin) / 1000

/-- H of a run now (R122). -/
def State.holdRequirement (s : State) : Nat :=
  Machine.holdRequirement s.massAndGradient.1 s.massAndGradient.2 s.cfg.tun.blend.holdMargin

/-- A standstill run: the reference is below 50 mm/s (R123). -/
def Allocator.standstill (b : Allocator) : Bool := decide (b.seenMagnitude < 50)

/-- The achieved braking magnitude (R130). -/
def Allocator.braking (b : Allocator) (m : Motor) : Nat := (-((b.achieved.get m).getD 0)).toNat

/-- The sum of the achieved tractive efforts of A and B (R130, R134). -/
def Allocator.tractive (b : Allocator) : Nat := (b.achieved.a.getD 0).toNat + (b.achieved.b.getD 0).toNat

/-- The reference in the MODE direction (R65). -/
def Allocator.modeReference (b : Allocator) (d : Direction) : Nat :=
  if d ≠ .neutral ∧ b.seenSense = .ofDirection d then b.seenMagnitude else 0

/-! ### Step 1: hill start (R133 to R135, R138) -/

/-- F_hs in a hill-start state (R133, R134). -/
def Allocator.friction (b : Allocator) (h : Nat) : HillStart → Nat
  | .off => 0
  | .holding | .rollbackHold => h
  | .releasing => h - b.tractive

/-- The rollback test: rollback distance × 10 exceeds the rollback limit (R133). -/
def Allocator.rolledBack (b : Allocator) (limit : Nat) : Bool := decide (limit < b.seenRollback * 10)

/-- The hill-start state after step 1 of a run in ACTIVE, by the first line of R133's table that applies; `returning` at
the run of a return to ACTIVE (R138). -/
def Allocator.nextHill (b : Allocator) (regime : Regime) (direction : Direction) (h limit : Nat) (returning : Bool) :
    HillStart :=
  let braking := regime = .hold ∨ regime = .serviceBrake
  if regime = .coast ∨ regime = .emergency ∨ h = 0 then .off
  else
    match b.hill with
    | .off =>
      if braking ∧ b.standstill then .holding
      else if returning ∧ regime = .traction ∧ b.standstill then .releasing
      else .off
    | .holding =>
      if b.rolledBack limit then .rollbackHold else if regime = .traction then .releasing else .holding
    | .releasing =>
      if b.rolledBack limit then .rollbackHold
      else if braking then .holding
      else if b.friction h .releasing = 0 ∨ 1000 < b.modeReference direction then .off
      else .releasing
    | .rollbackHold => if regime = .traction ∧ h * 1100 / 1000 ≤ b.tractive then .releasing else .rollbackHold

/-- The hill-start state after step 1: OFF through FALLBACK (R133, R138). It reads the H of this run, not that of the last
(log 48). -/
def State.nextHill (s : State) (returning : Bool) : HillStart :=
  if s.ctl.part = .active then
    s.blend.nextHill s.intent.accepted.regime s.intent.accepted.direction s.holdRequirement
      s.cfg.tun.blend.rollbackLimit returning
  else .off

/-! ### Step 2: demand (R123, R124) -/

/-- D of a run (R123). -/
def demand (fallback : Bool) (regime : Regime) (standstill : Bool) (b h fhs emergency fallbackBrake : Nat) : Nat :=
  min 65534
    (if fallback then max b (max h fallbackBrake)
     else
       match regime with
       | .hold => max b h
       | .serviceBrake => if standstill then max b h else b
       | .coast => if standstill then h else 0
       | .traction => fhs
       | .emergency => max b emergency)

/-- D_eff of a run: a rise acts at once, a fall by one release step at an evaluation run alone (R124). -/
def effectiveDemand (old d step : Nat) (evaluation : Bool) : Nat :=
  if old ≤ d then d else if evaluation then max d (old - step) else old

/-! ### Step 4: caps, walk, deficit (R125 to R128) -/

/-- The fade ratio in ‰ (R125). -/
def fadeRatio (reference : Nat) : Nat := if 2500 ≤ reference then 1000 else (reference - 500) / 2

/-- The cap of ED_X (R125). -/
def State.edCap (s : State) (m : Motor) : Nat :=
  if s.ctl.part = .fallback ∨ s.intent.accepted.regime ≠ .serviceBrake ∨ s.cfg.str.driveIsolated.get m then 0
  else
    let rated := s.cfg.tun.blend.edCap.get m
    let base := if s.blend.shortfall.get m then min rated (s.blend.braking m) else rated
    let faded := base * fadeRatio s.blend.seenMagnitude / 1000
    faded * (s.ev.bogies.get m.bogie).c * (s.ceil.records.get m.bogie).k / 1000000

/-- The cap of FR_Y (R126). -/
def State.frCap (s : State) (y : Bogie) : Nat :=
  let rated := s.cfg.tun.blend.frCap.get y
  if s.cfg.str.frictionIsolated.get y then 0
  else if s.blend.standstill then rated
  else rated * (s.ev.bogies.get y).c / 1000

/-- The five caps of a run. -/
def State.caps (s : State) : PerSource Nat := ⟨s.edCap .a, s.edCap .b, s.frCap .a, s.frCap .t, s.frCap .b⟩

/-- The cap a source would have unreduced (R129). -/
def State.unreducedCap (s : State) : Source → Nat
  | .edA => if s.intent.accepted.regime = .serviceBrake then s.cfg.tun.blend.edCap.a else 0
  | .edB => if s.intent.accepted.regime = .serviceBrake then s.cfg.tun.blend.edCap.b else 0
  | .frA => s.cfg.tun.blend.frCap.a
  | .frT => s.cfg.tun.blend.frCap.t
  | .frB => s.cfg.tun.blend.frCap.b

/-- The source an allocation list code names (12.2); 5 to 7 name none, and such a list never becomes ACTIVE (R176). -/
def Source.ofCode (c : BitVec 3) : Option Source :=
  match c.toNat with
  | 0 => some .edA | 1 => some .edB | 2 => some .frA | 3 => some .frT | 4 => some .frB | _ => none

/-- The walk so far: what each source was allocated, what remained before each, and what remains. -/
structure Walk where
  alloc : PerSource Nat
  before : PerSource Nat
  remaining : Nat

/-- One source of the walk takes the smaller of what remains and its cap (R128). -/
def Walk.take (caps : PerSource Nat) (w : Walk) (x : Source) : Walk :=
  { alloc := w.alloc.set x (min w.remaining (caps.get x))
    before := w.before.set x w.remaining
    remaining := w.remaining - min w.remaining (caps.get x) }

/-- The walk over the sources in the order of the allocation list (R128). -/
def walk (caps : PerSource Nat) (order : List Source) (remaining : Nat) : Walk :=
  order.foldl (Walk.take caps) { alloc := ⟨0, 0, 0, 0, 0⟩, before := ⟨0, 0, 0, 0, 0⟩, remaining := remaining }

/-- The sources in the order of the configured allocation list. -/
def State.allocationOrder (s : State) : List Source := s.cfg.str.allocation.toList.filterMap Source.ofCode

/-! ### Steps 3 and 5 (R131, R136, R137) -/

/-- Deficit assist after step 3: cleared outside SERVICE_BRAKE or at 50 mm/s or less (R137). -/
def Allocator.assistKept (b : Allocator) (regime : Regime) : Bool :=
  b.assist && regime == .serviceBrake && decide (50 < b.seenMagnitude)

/-- The track-brake lines after step 3 (R136). -/
def Allocator.linesSet (b : Allocator) (regime : Regime) : Bool :=
  (regime == .emergency && decide (50 < b.seenMagnitude)) || b.assistKept regime

/-- A timer that a condition starts and keeps running, and whose failing cancels it (R131, R137). -/
def conditioned (condition : Bool) (old started : Timer) : Timer :=
  if condition then (if old.isSome then old else started) else none

/-- The shortfall condition of a motor bogie, with its ED allocation of this run (R131). -/
def State.shortfallCondition (s : State) (m : Motor) (allocated : Nat) : Bool :=
  s.ctl.part == .active && s.intent.accepted.regime == .serviceBrake && !s.blend.shortfall.get m
    && decide (max 200 (allocated * 50 / 1000) < allocated - s.blend.braking m)

/-! ### The run (R121) -/

/-- The record after steps 1 to 3 of a run; H, which step 1 reads, is formed before it (log 48). -/
def State.demanded (s : State) (evaluation returning : Bool) : Allocator :=
  let b := s.blend
  let regime := s.intent.accepted.regime
  let h := s.holdRequirement
  let hill := s.nextHill returning
  let cleared := b.hill = .rollbackHold ∧ hill = .releasing
  let fhs := b.friction h hill
  let d :=
    demand (s.ctl.part = .fallback) regime b.standstill s.brakeIntent h fhs s.cfg.tun.blend.emergencyDemand
      s.cfg.tun.blend.fallbackBrake
  { b with
    h := h, d := d, dEff := effectiveDemand b.dEff d s.cfg.tun.blend.releaseStep evaluation, hill := hill, fhs := fhs
    assist := b.assistKept regime, lines := b.linesSet regime
    seenRollback := if cleared then 0 else b.seenRollback }

/-- The MTB share of a record after steps 1 to 3 (R127). -/
def State.mtbShare (s : State) (b : Allocator) : Nat :=
  if b.lines && s.sand.supplyGood then min s.cfg.tun.blend.mtbEffort b.dEff else 0

/-- The walk of a run whose record after steps 1 to 3 is `b` (R128). -/
def State.walk (s : State) (b : Allocator) : Walk :=
  Machine.walk s.caps s.allocationOrder (b.dEff - s.mtbShare b)

/-- The record after step 5 of a run: what the walk gave, and the timers (R128, R131, R132, R137). -/
def State.allocated (s : State) (b : Allocator) : Allocator :=
  let w := s.walk b
  let service := s.intent.accepted.regime == .serviceBrake
  let tun := s.cfg.tun.blend
  { b with
    caps := s.caps
    mtb := s.mtbShare b
    alloc := w.alloc
    deficit := w.remaining
    deficitTimer :=
      conditioned
        (service && decide (50 < b.seenMagnitude) && !b.assist && decide (tun.deficitThreshold < w.remaining))
        b.deficitTimer (s.timer (ms tun.deficitTime))
    shortfall := PerMotor.build fun m => service && b.shortfall.get m
    lag := PerMotor.build fun m =>
      conditioned (s.shortfallCondition m (w.alloc.get m.ed)) (b.lag.get m) (s.timer (ms tun.edLag))
    probe := PerMotor.build fun m => if service then b.probe.get m else none }

/-- The allocator record after a run (R121). -/
def State.runRecord (s : State) (evaluation returning : Bool) : Allocator :=
  s.allocated (s.demanded evaluation returning)

/-- The tag of an output word, by the first matching line of R129. -/
def State.outputTag (s : State) (w : Walk) (x : Source) : Tag :=
  if s.isolated x then .void
  else if s.ctl.part = .fallback then .fallback
  else if s.intent.channels.brake.fresh ≠ .live then .default
  else if s.caps.get x < w.before.get x ∧ s.caps.get x < s.unreducedCap x then .corrected
  else .effective

/-- An output word (R16, R17). -/
def State.outputWord (s : State) (w : Walk) (x : Source) : Word :=
  if s.isolated x then voidWord else setpointWord (w.alloc.get x) (s.outputTag w x)

/-- Hand the BRAKE word and the five output words in the order of R129; `before` is the state the run began in. -/
def handRun (before : State) (w : Walk) (s : State) : State :=
  let out (x : Source) (s : State) : State := hand (.output x) (before.outputWord w x) s
  out .frB (out .frT (out .frA (out .edB (out .edA (handBrake (s.blend.dEff - s.blend.deficit) s)))))

/-- A rollback clear reaches the reference unit and an evaluation in progress (R194). -/
def rollbackClear (cleared : Bool) (s : State) : State :=
  { s with
    ref := { s.ref with rollback := if cleared then 0 else s.ref.rollback }
    ev :=
      { s.ev with
        running := s.ev.running.map fun e =>
          { e with ref := { e.ref with rollback := if cleared then 0 else e.ref.rollback } } } }

/-- An allocator run, whole (R121). A move from HOLDING to RELEASING delivers the release event to the sanding
controller (R134), one from ROLLBACK_HOLD to RELEASING a rollback clear (R194), and entry to ROLLBACK_HOLD raises
ROLLBACK (R135); a deficit above the threshold raises BRAKE_DEFICIT (R128). -/
def run (evaluation returning : Bool) (s : State) : State :=
  let mid := s.demanded evaluation returning
  let w := s.walk mid
  let from' := s.blend.hill
  let s1 := { s with blend := s.allocated mid }
  let s2 := raiseIf (mid.hill == .rollbackHold && from' != .rollbackHold) .rollback s1
  let s3 := raiseIf (decide (s.cfg.tun.blend.deficitThreshold < w.remaining)) .brakeDeficit s2
  let s4 := handRun s w (rollbackClear (from' == .rollbackHold && mid.hill == .releasing) s3)
  if from' = .holding ∧ mid.hill = .releasing then sandRelease s4 else s4

/-- A run at an event that makes one only while the part is ACTIVE or FALLBACK (R121). -/
def runServing (s : State) : State := if s.inForce then run false false s else s

/-! ### Events that lead to runs (R121, R130, R132, R137) -/

/-- The evaluation run: the seen reference is copied from the completion first (R121). -/
def evaluationRun (e : Evaluation) (s : State) : State :=
  run true false
    { s with
      blend :=
        { s.blend with
          seenMagnitude := e.ref.magnitude, seenSense := e.ref.sense, seenRollback := e.ref.rollback } }

/-- The achieved effort a delivery stores for a motor bogie: 0 for an invalid word or an isolated drive (R130). -/
def State.stored (s : State) (x : PerMotor (Option Int)) (m : Motor) : Option Int :=
  some (if s.cfg.str.driveIsolated.get m then 0 else (x.get m).getD 0)

/-- The delivery's word of a motor bogie without drive isolation is invalid (R130). -/
def State.feedbackInvalid (s : State) (x : PerMotor (Option Int)) (m : Motor) : Bool :=
  !s.cfg.str.driveIsolated.get m && (x.get m).isNone

/-- A feedback delivery; each part of it is the achieved effort of a valid word, or none (R130). -/
def feedbackDelivery (x : PerMotor (Option Int)) (s : State) : State :=
  runServing
    (raiseIf (s.feedbackInvalid x .a || s.feedbackInvalid x .b) .feedbackInvalid
      { s with blend := { s.blend with achieved := PerMotor.build (s.stored x) } })

/-- A lag timer expires: the shortfall is set, ED_SHORTFALL raised and counted, the probe timer started (R132). -/
def lagEnd (m : Motor) (s : State) : State :=
  runServing
    (count .edShortfallEntry
      (raise .edShortfall
        { s with
          blend :=
            { s.blend with
              shortfall := s.blend.shortfall.set m true
              lag := s.blend.lag.set m none
              probe := s.blend.probe.set m (s.timer (ms s.cfg.tun.blend.probeInterval)) } }))

/-- A probe timer expires: the shortfall is cleared (R132). -/
def probeEnd (m : Motor) (s : State) : State :=
  runServing
    { s with
      blend := { s.blend with shortfall := s.blend.shortfall.set m false, probe := s.blend.probe.set m none } }

/-- The deficit timer expires: deficit assist is latched and counted (R137). -/
def deficitEnd (s : State) : State :=
  runServing (count .deficitAssist { s with blend := { s.blend with assist := true, deficitTimer := none } })

/-! ### Part states (R138, R139) -/

/-- Both shortfalls cleared with their lag and probe timers. -/
def Allocator.withoutShortfall (b : Allocator) : Allocator :=
  { b with shortfall := ⟨false, false⟩, lag := ⟨none, none⟩, probe := ⟨none, none⟩ }

/-- Entry to FALLBACK, before its run (R138). -/
def allocatorFallback (s : State) : State := { s with blend := { s.blend.withoutShortfall with hill := .off } }

/-- Entry to STANDBY, and to SETUP by GO_SETUP (R139; log 33). -/
def allocatorStop (s : State) : State :=
  { s with blend := { s.blend.withoutShortfall with lines := false, assist := false, deficitTimer := none } }

/-- Entry to ACTIVE from SETUP: the record as after RESTART, the seen reference copied from the reference unit (R121,
R139). -/
def allocatorEnterActive (s : State) : State :=
  { s with
    blend :=
      { Allocator.reset with
        seenMagnitude := s.ref.magnitude, seenSense := s.ref.sense, seenRollback := s.ref.rollback } }

/-- RESTART (R140). -/
def allocatorRestart (s : State) : State := { s with blend := Allocator.reset }

end Sys2Proof.Machine
end

