-- ==== Sys2Proof/Machine/AxleSpeed.lean ====
section
/-! DEFINITION. The axle speed unit (chapter 3): the edge path, the raw speed, the sample latch with its filter, and
the channel states. -/

namespace Sys2Proof.Machine

/-! ### Entry to SETTLING and DISABLED -/

/-- The standstill timer as started now (R53). -/
def State.standstillTimer (s : State) : Timer := s.timer (ms s.cfg.tun.speed.standstillTimeout)

/-- Entry to SETTLING: the stored direction is positive, the captured period and the last prescaled edge are cleared,
the standstill timer is started with the indicator clear, and the counts stand at 0 (R50, R52, R53, R58). -/
def Channel.settle (c : Channel) (standstill : Timer) : Channel :=
  { c with
    state := .settling, positive := true, period := none, lastPrescaled := none, prescalerCount := 0, kept := none
    standstill := standstill, still := false, settleCount := 0, illegal := 0 }

/-- History, last raw sample and counts cleared; the last filtered speed and acceleration stand for the report (R60,
R61; log 41). -/
def Channel.cleared (c : Channel) : Channel :=
  { c with history := none, lastRaw := none, cleanCount := 0, movement := 0 }

/-- History, speeds, last raw sample and counts cleared (R64). -/
def Channel.emptied (c : Channel) : Channel := { c.cleared with filtered := none, acceleration := none }

/-- A channel as it enters SETUP from PUBLISH or leaves DISABLED: SETTLING as from a power-on start if it is enabled
with its configuration in range, DISABLED otherwise (R60, R64). -/
def Channel.start (items : ChannelItems) (standstill : Timer) : Channel :=
  if items.enabled && items.inRange then Channel.reset.settle standstill else Channel.reset

/-- The channel after a structure write to its items in SETUP (R60). -/
def Channel.written (c : Channel) (items : ChannelItems) (standstill : Timer) : Channel :=
  if c.state = .disabled ∨ ¬ (items.enabled && items.inRange) then Channel.start items standstill
  else c.cleared.settle standstill

/-! ### The edge path (R48 to R52) -/

/-- The edge matches the channel's counted edge on P (R49). -/
def ChannelItems.counts (t : ChannelItems) (ph : Phase) (rising : Bool) : Bool :=
  match ph with
  | .q => false
  | .p => t.countedEdge == 2 || (if rising then t.countedEdge == 0 else t.countedEdge == 1)

/-- Two time stamps differ by less than the debounce length (R51). -/
def closeStamps (length : Nat) (x : Nat) : Option Nat → Bool
  | none => false
  | some y => decide (x < y + length) && decide (y < x + length)

/-- The time stamp of the last edge of the other phase. -/
def Channel.otherStamp (c : Channel) : Phase → Option Nat
  | .p => c.q.stamp
  | .q => c.p.stamp

/-- The edge forms an illegal transition with the last edge of the other phase (R51; log 28). -/
def Channel.illegalWith (c : Channel) (t : ChannelItems) (ph : Phase) (stamp : Nat) : Bool :=
  closeStamps t.debounceLength stamp (c.otherStamp ph)

/-- The first sample after a channel starts sets the debounced levels without an edge (R48). -/
def Channel.synced (c : Channel) (x : TachPins) : Channel :=
  { c with p := { c.p with level := x.p, run := 0 }, q := { c.q with level := x.q, run := 0 }, sync := false }

/-- The channel with its first sample taken: an edge that arrives before any sample finds both levels set from the
inputs (R48). -/
def Channel.started (c : Channel) (x : TachPins) : Channel := if c.sync then c.synced x else c

/-- The debounced level and the time stamp that an edge leaves; what the last P edge would have kept is dropped with a
new P edge. -/
def Channel.edgeSeen (c : Channel) (ph : Phase) (rising : Bool) (stamp : Nat) : Channel :=
  match ph with
  | .p => { c with p := ⟨rising, 0, some stamp⟩, kept := none }
  | .q => { c with q := ⟨rising, 0, some stamp⟩ }

/-- The edge direction of a counted P edge, true for positive: from the debounced level of Q, inverted when the channel
is mounted reversed, and the stored direction when the edge is part of an illegal transition (R50). -/
def Channel.edgeDirection (c : Channel) (t : ChannelItems) (rising illegal : Bool) : Bool :=
  if illegal then c.positive else xor (xor rising c.q.level) t.reversed

/-- A prescaled edge: it captures the period since the last one, if one is recorded, and is recorded (R52). -/
def Channel.capture (c : Channel) (stamp : Nat) : Channel :=
  { c with
    period := match c.lastPrescaled with | some l => some (stamp - l) | none => c.period
    lastPrescaled := some stamp }

/-- Step 3 of R49: the prescaler advances, and a prescaled edge captures; a reversal restarts the prescaler with this
edge and clears the captured period (R50, R52). -/
def Channel.prescaled (c : Channel) (t : ChannelItems) (reversal : Bool) (stamp : Nat) : Channel :=
  if reversal then
    { c with period := none, lastPrescaled := some stamp, prescalerCount := 1 % t.prescale }
  else if c.prescalerCount = 0 then { c.capture stamp with prescalerCount := 1 % t.prescale }
  else { c with prescalerCount := (c.prescalerCount + 1) % t.prescale }

/-- The direction, period and prescaler of a channel, as a correction would leave them. -/
def Channel.keep (c : Channel) : KeptDirection :=
  { positive := c.positive, period := c.period, lastPrescaled := c.lastPrescaled, prescalerCount := c.prescalerCount }

/-- An illegal transition whose Q edge arrives after its counted P edge: that edge's direction is the direction stored
before it, so a reversal it was taken for is undone (R50, R51; log 28). -/
def Channel.corrected (c : Channel) : Channel :=
  match c.kept with
  | none => c
  | some k =>
    { c with
      positive := k.positive, period := k.period, lastPrescaled := k.lastPrescaled
      prescalerCount := k.prescalerCount, kept := none }

/-- A counted edge outside STANDBY and WAKING: steps 1 to 3 of R49. A reversal keeps beside it what the edge would have
left without one. -/
def Channel.countedEdge (c : Channel) (t : ChannelItems) (rising illegal : Bool) (stamp : Nat) (standstill : Timer) :
    Channel :=
  let d := c.edgeDirection t rising illegal
  let c1 : Channel :=
    { c with
      positive := d, standstill := standstill, still := false
      state := if c.state = .still then .valid else c.state }
  let reversal := d != c.positive
  let straight : Channel := { c1 with positive := c.positive }
  { c1.prescaled t reversal stamp with
    kept := if reversal then some (straight.prescaled t false stamp).keep else none }

/-- The part counts movement: STANDBY and WAKING (R62). -/
def State.countsMovement (s : State) : Bool := s.ctl.part = .standby || s.ctl.part = .waking

/-- A channel after an edge, in STANDBY and WAKING: a counted edge raises the movement count, up to 8, until the
movement wake has been delivered (R62). -/
def Channel.movementEdge (c : Channel) (counted held : Bool) : Channel :=
  { c with movement := if counted && !held then min 8 (c.movement + 1) else c.movement }

/-- A channel after an edge, outside STANDBY and WAKING. -/
def Channel.runningEdge (c : Channel) (t : ChannelItems) (ph : Phase) (rising : Bool) (stamp : Nat)
    (standstill : Timer) : Channel :=
  let illegal := c.illegalWith t ph stamp
  let c1 := { c.edgeSeen ph rising stamp with illegal := c.illegal + illegal.toNat }
  if t.counts ph rising then c1.countedEdge t rising illegal stamp standstill
  else if ph = .q && illegal then c1.corrected
  else c1

/-- The instant at which an edge arrives: when its last debounce sample has been taken (R48). -/
def State.arrival (s : State) (i : Axle) (stamp : Nat) : Nat :=
  max s.now (stamp + ((s.cfg.str.channels.get i).debounceLength - 1))

/-- The channel as a debounced edge leaves it; a DISABLED channel has no edges (R48). -/
def State.edgeChannel (s : State) (i : Axle) (ph : Phase) (rising : Bool) (stamp : Nat) : Channel :=
  let c := (s.axle.channels.get i).started (s.pins.tach.get i)
  let t := s.cfg.str.channels.get i
  if c.state = .disabled then s.axle.channels.get i
  else if s.countsMovement then (c.edgeSeen ph rising stamp).movementEdge (t.counts ph rising) s.axle.held
  else
    c.runningEdge t ph rising stamp
      (({ s with now := s.arrival i stamp } : State).standstillTimer)

/-- The edge brings a movement count to 8: the movement wake of this STANDBY is delivered (R62). -/
def State.movementReached (s : State) (i : Axle) (ph : Phase) (rising : Bool) : Bool :=
  let c := s.axle.channels.get i
  c.state != .disabled && s.countsMovement && (s.cfg.str.channels.get i).counts ph rising && !s.axle.held
    && decide (8 ≤ c.movement + 1)

/-- The raw levels after an edge of a phase. -/
def TachPins.edge (x : TachPins) (ph : Phase) (level : Bool) : TachPins :=
  match ph with
  | .p => { x with p := level }
  | .q => { x with q := level }

/-- A debounced edge arrives at the later stages of a channel (R48 to R52, R62). -/
def phaseEdge (i : Axle) (ph : Phase) (rising : Bool) (stamp : Nat) (s : State) : State :=
  { s with
    now := s.arrival i stamp
    pins := { s.pins with tach := s.pins.tach.set i ((s.pins.tach.get i).edge ph rising) }
    axle :=
      { channels := s.axle.channels.set i (s.edgeChannel i ph rising stamp)
        held := s.axle.held || s.movementReached i ph rising } }

/-- The standstill timer of a channel expires: the indicator is set, the captured period and the last prescaled edge
are cleared, VALID becomes STILL (R52, R53). -/
def standstillEnd (i : Axle) (s : State) : State :=
  let c := s.axle.channels.get i
  { s with
    axle :=
      { s.axle with
        channels :=
          s.axle.channels.set i
            { c with
              standstill := none, still := true, period := none, lastPrescaled := none, prescalerCount := 0, kept := none
              state := if c.state = .valid then .still else c.state } } }

/-! ### The raw speed (R54) -/

/-- The magnitude for a time in µs: 355 × d × prescale × 100,000 by 113 × n × t, rounded down and limited to 30,000; the
manual states none for a time of 0 (log 16). -/
def ChannelItems.magnitude (t : ChannelItems) (time : Nat) : Nat :=
  min Config.speedLimit
    (if time = 0 then Config.zeroTimeSpeed t.diameter t.edges
     else 355 * t.diameter * t.prescale * 100000 / (113 * t.edges * time))

/-- The time the raw speed is formed from: the elapsed time since the last prescaled edge if it exceeds the captured
period, else the period; none at standstill and while no period is captured (R54). -/
def Channel.speedTime (c : Channel) (now : Nat) : Option Nat :=
  if c.still then none
  else
    match c.period with
    | none => none
    | some p => some (max p (now - c.lastPrescaled.getD now))

/-- The raw speed at a latch, signed mm/s (R54). -/
def Channel.rawSpeed (c : Channel) (t : ChannelItems) (now : Nat) : Int :=
  match c.speedTime now with
  | none => 0
  | some time => if c.positive then (t.magnitude time : Int) else -(t.magnitude time : Int)

/-! ### The sample latch (R55 to R59) -/

/-- All four places at one sample (R55). -/
def History.seed (x : Int) : History := ⟨x, x, x, x⟩

/-- The oldest sample dropped, a new one placed (R55). -/
def History.append (h : History) (x : Int) : History := ⟨h.h1, h.h2, h.h3, x⟩

/-- The filtered speed (h0 + 3 h1 + 3 h2 + h3) / 8, rounded toward zero (R56). -/
def History.filtered (h : History) : Int := (h.h0 + 3 * h.h1 + 3 * h.h2 + h.h3).tdiv 8

/-- A rate in mm/s²: a difference × 1,000,000 / a period in µs, rounded toward zero (R56, R69). -/
def rate (difference : Int) (period : Nat) : Int := (difference * 1000000).tdiv period

/-- The channel meets a fault condition at a latch (R57). -/
def Channel.faulty (c : Channel) (raw : Int) (jump : Nat) : Bool :=
  decide (4 ≤ c.illegal)
    || (match c.lastRaw with
        | none => false
        | some r => decide (jump < (raw - r).natAbs))

/-- The history, filtered speed and acceleration formed at a latch that forms them (R55, R56). -/
def Channel.formed (c : Channel) (raw : Int) (seeding : Bool) (period : Nat) : Channel :=
  let h :=
    match c.history with
    | some h => if seeding then History.seed raw else h.append raw
    | none => History.seed raw
  { c with
    history := some h
    filtered := some h.filtered
    acceleration := some (if seeding then 0 else rate (h.filtered - c.filtered.getD h.filtered) period) }

/-- What a latch does with the last raw sample and the illegal-transition count in every state but DISABLED (R55). -/
def Channel.sampled (c : Channel) (raw : Int) : Channel := { c with lastRaw := some raw, illegal := 0 }

/-- A latch in FAULT: the clean-latch count returns to 0 at a fault condition and else advances; at 50 the channel
enters SETTLING (R57, R59). -/
def Channel.faultLatch (c : Channel) (faulty : Bool) (standstill : Timer) : Channel :=
  if faulty then { c with cleanCount := 0 }
  else
    let c1 : Channel := { c with cleanCount := c.cleanCount + 1 }
    if 50 ≤ c.cleanCount + 1 then c1.settle standstill else c1

/-- A clean latch in SETTLING: the first seeds the history, and the fourth leaves for STILL or VALID (R58). -/
def Channel.settlingLatch (c : Channel) (raw : Int) (period : Nat) : Channel :=
  let c1 := c.formed raw (c.settleCount = 0) period
  { c1 with
    settleCount := c.settleCount + 1
    state := if c.settleCount + 1 < 4 then .settling else if c.still then .still else .valid }

/-- The channel enters FAULT at a latch (R57). -/
def Channel.entersFault (c : Channel) (raw : Int) (jump : Nat) : Bool :=
  c.state != .disabled && c.state != .fault && c.faulty raw jump

/-- A channel after a sample latch (R55 to R59). -/
def Channel.latch (c : Channel) (raw : Int) (jump period : Nat) (standstill : Timer) : Channel :=
  match c.state with
  | .disabled => c
  | .fault => (c.sampled raw).faultLatch (c.faulty raw jump) standstill
  | .settling =>
    if c.faulty raw jump then { c.sampled raw with state := .fault, cleanCount := 0 }
    else (c.sampled raw).settlingLatch raw period
  | .valid | .still =>
    if c.faulty raw jump then { c.sampled raw with state := .fault, cleanCount := 0 }
    else (c.sampled raw).formed raw false period

/-- The latch forms a filtered speed (R55). -/
def Channel.forms (c : Channel) (raw : Int) (jump : Nat) : Bool :=
  c.state != .disabled && c.state != .fault && !c.faulty raw jump

/-- The raw speed of an axle at a latch now. -/
def State.rawSpeed (s : State) (i : Axle) : Int :=
  (s.axle.channels.get i).rawSpeed (s.cfg.str.channels.get i) s.now

/-- The channel of an axle after a latch now. -/
def State.latched (s : State) (i : Axle) : Channel :=
  (s.axle.channels.get i).latch (s.rawSpeed i) s.cfg.tun.speed.plausibilityJump s.ev.length s.standstillTimer

/-- The axle's channel enters FAULT at a latch now. -/
def State.faultAt (s : State) (i : Axle) : Bool :=
  (s.axle.channels.get i).entersFault (s.rawSpeed i) s.cfg.tun.speed.plausibilityJump

/-- The sample that the axle's channel hands on at a latch now (R61). -/
def State.sampleAt (s : State) (i : Axle) : Sample :=
  let c := s.axle.channels.get i
  let after := s.latched i
  let forms := c.forms (s.rawSpeed i) s.cfg.tun.speed.plausibilityJump
  { state := after.state
    filtered := if forms then after.filtered else none
    acceleration := if forms then after.acceleration else none
    raw := if c.state = .disabled then none else some (s.rawSpeed i) }

/-- The six samples of a latch now, in the fixed order (R61). -/
def State.samplesAt (s : State) : PerAxle Sample := PerAxle.build s.sampleAt

/-- Usable: VALID or STILL (R61). -/
def Sample.usable (x : Sample) : Bool := x.state == .valid || x.state == .still

/-- Entry to FAULT raises SENSOR_FAULT and counts AXLE_FAULT (R57). -/
def Reporter.sensorFault (r : Reporter) (entered : Bool) : Reporter :=
  if entered then (r.raise .sensorFault).bump Counter.axleFault.number else r

/-- The sample latch at all six channels (R55). -/
def latchAxles (s : State) : State :=
  { s with
    axle := { s.axle with channels := PerAxle.build s.latched }
    rep :=
      (((((s.rep.sensorFault (s.faultAt .a1)).sensorFault (s.faultAt .a2)).sensorFault (s.faultAt .t1)).sensorFault
        (s.faultAt .t2)).sensorFault (s.faultAt .b1)).sensorFault (s.faultAt .b2) }

/-! ### Part states (R62 to R64) -/

/-- Every channel that is not DISABLED is changed. -/
def eachChannel (f : Axle → Channel → Channel) (s : State) : PerAxle Channel :=
  PerAxle.build fun i =>
    let c := s.axle.channels.get i
    if c.state = .disabled then c else f i c

/-- Entry to STANDBY: standstill timers stopped, movement counts 0 (R62). -/
def axleStandby (s : State) : State :=
  { s with
    axle := { channels := eachChannel (fun _ c => { c with standstill := none, movement := 0 }) s, held := false } }

/-- A channel at the end of WAKING (R63). -/
def Channel.woken (c : Channel) (standstill : Timer) : Channel :=
  { c with
    period := none, lastPrescaled := none, prescalerCount := 0, kept := none, standstill := standstill, still := false
    state := if c.state = .still ∧ 0 < c.movement then .valid else c.state
    movement := 0 }

/-- The end of WAKING (R63). -/
def axleWake (s : State) : State :=
  { s with axle := { s.axle with channels := eachChannel (fun _ c => c.woken s.standstillTimer) s } }

/-- RESTART (R64). -/
def axleRestart (s : State) : State :=
  { s with
    axle := { channels := eachChannel (fun _ c => c.emptied.settle s.standstillTimer) s, held := false } }

/-- Entry to SETUP from PUBLISH (R64). -/
def axleSetupEntry (s : State) : State :=
  { s with
    axle :=
      { s.axle with
        channels := PerAxle.build fun i => Channel.start (s.cfg.str.channels.get i) s.standstillTimer } }

/-- A structure write to a channel's items has been taken in SETUP (R60). -/
def channelWritten (i : Axle) (s : State) : State :=
  { s with
    axle :=
      { s.axle with
        channels :=
          s.axle.channels.set i
            ((s.axle.channels.get i).written (s.cfg.str.channels.get i) s.standstillTimer) } }

end Sys2Proof.Machine
end

