-- ==== Sys2Proof/Machine/Reference.lean ====
section
/-! DEFINITION. The reference unit (chapter 4): source, magnitude, travel sense, acceleration, odometer and rollback
distance. -/

namespace Sys2Proof.Machine

/-! ### The reference record -/

/-- A magnitude with a travel sense, signed: with a minus sign in REVERSE (R65). -/
def signedSpeed (magnitude : Nat) (sense : Sense) : Int :=
  match sense with | .reverse => -(magnitude : Int) | .forward | .none => magnitude

/-- The signed reference (R65). -/
def Reference.signed (r : Reference) : Int := signedSpeed r.magnitude r.sense

/-- The reference is valid while the source is OWN, CHAIN or HELD (R76). -/
def Reference.valid (r : Reference) : Bool := r.source != .lost

/-! ### The chain reference (R71) -/

/-- The reference a frame carries, in this unit's FORWARD sense: absent if not valid or if either direction is
NEUTRAL, inverted if the directions are opposite, and clipped to 30,000 mm/s (R71). -/
def Frame.referenceFor (f : Frame) (own : Direction) : Option Int :=
  if !f.valid || f.direction == .neutral || own == .neutral then none
  else
    let v := if f.direction = own then f.reference else -f.reference
    some (max (-(Config.speedLimit : Int)) (min Config.speedLimit v))

/-- The chain reference after the reference stage (R71). -/
def chainReference (old : Option Int) (link : LinkState) (frame : Option Frame) (own : Direction) : Option Int :=
  if link = .linked then
    match frame with
    | some f => f.referenceFor own
    | none => old
  else none

/-! ### Choosing the source (R70) -/

/-- The source after the reference stage. -/
def chooseSource (anyUsable chainUsable : Bool) (old : RefSource) : RefSource :=
  if anyUsable then .own
  else if chainUsable then .chain
  else
    match old with
    | .own | .chain | .held => .held
    | .lost => .lost

/-- The reference restarts when the source enters OWN from CHAIN, HELD or LOST, or CHAIN from LOST (R73). -/
def restarts (old new : RefSource) : Bool :=
  (new == .own && old != .own) || (new == .chain && old == .lost)

/-! ### Own speed (R67, R68) -/

/-- The filtered speeds of the usable channels, in the fixed order. -/
def usableSpeeds (x : PerAxle Sample) : List Int :=
  x.toList.filterMap fun p => if p.usable then p.filtered else none

/-- The mean, rounded down. -/
def mean (l : List Nat) : Nat := l.sum / l.length

/-- The largest of a list. -/
def largest (l : List Nat) : Nat := l.foldl max 0

/-- The smallest of a list. -/
def smallest : List Nat → Nat
  | [] => 0
  | x :: xs => xs.foldl min x

/-- The chosen magnitude by the accepted regime (R67). -/
def chosenMagnitude (regime : Regime) (x : PerAxle Sample) : Nat :=
  let all := (usableSpeeds x).map Int.natAbs
  match regime with
  | .traction =>
    if x.t1.usable && x.t2.usable then mean [(x.t1.filtered.getD 0).natAbs, (x.t2.filtered.getD 0).natAbs]
    else smallest all
  | .serviceBrake | .emergency => largest all
  | .hold | .coast => mean all

/-- The candidate sense by majority of the usable channels above 50 mm/s; NONE if there is no candidate (R68). -/
def ownCandidate (speeds : List Int) : Sense :=
  let forward := (speeds.filter fun v => decide (50 < v)).length
  let backward := (speeds.filter fun v => decide (v < -50)).length
  if backward < forward then .forward else if forward < backward then .reverse else .none

/-- The candidate sense of the chain reference: its sign; NONE if it is 0 (R68). -/
def signCandidate (v : Int) : Sense := if 0 < v then .forward else if v < 0 then .reverse else .none

/-! ### Magnitude and sense (R68, R69, R73) -/

/-- The target magnitude: 0 when the candidate is opposite to the sense before, else the chosen magnitude (R68). -/
def targetMagnitude (chosen : Nat) (candidate before : Sense) : Nat :=
  if candidate ≠ .none ∧ before ≠ .none ∧ candidate ≠ before then 0 else chosen

/-- The sense carried into R69: from NONE the candidate, else the sense before (R68). -/
def carriedSense (candidate before : Sense) : Sense := if before = .none then candidate else before

/-- A rate step of R69: limit × period / 1,000,000, rounded down, at least 1 mm/s. -/
def rateStep (limit period : Nat) : Nat := max 1 (limit * period / 1000000)

/-- The magnitude limited by the rate steps (R69). -/
def limited (old target rise fall : Nat) : Nat :=
  if old < target then min target (old + rise) else max target (old - fall)

/-- A magnitude of 0 makes the travel sense NONE (R68). -/
def settledSense (magnitude : Nat) (s : Sense) : Sense := if magnitude = 0 then .none else s

/-- The sense at a restart: the candidate if there is one, else the sense before (R73). -/
def restartSense (candidate before : Sense) : Sense := if candidate = .none then before else candidate

/-! ### The stage (R66) -/

/-- What the stage reads beside the record: samples, accepted regime and direction, link state, handed frame, the
configuration and the period (R66). -/
structure StageInput where
  samples : PerAxle Sample
  regime : Regime
  direction : Direction
  link : LinkState
  frame : Option Frame
  follower : Bool
  rise : Nat
  fall : Nat
  period : Nat
  /-- the hold timer as it would be started now -/
  holdTimer : Timer

/-- The chosen magnitude of the source (R67, R70). -/
def StageInput.chosen (x : StageInput) (source : RefSource) (chain : Option Int) : Nat :=
  match source with
  | .own => chosenMagnitude x.regime x.samples
  | .chain => (chain.getD 0).natAbs
  | .held | .lost => 0

/-- The candidate sense of the source (R68). -/
def StageInput.candidate (x : StageInput) (source : RefSource) (chain : Option Int) : Sense :=
  match source with
  | .own => ownCandidate (usableSpeeds x.samples)
  | .chain => signCandidate (chain.getD 0)
  | .held | .lost => .none

/-- Magnitude and sense after the stage (R67 to R69, R72, R73). -/
def Reference.motion (r : Reference) (x : StageInput) (source : RefSource) (chain : Option Int) : Nat × Sense :=
  let chosen := x.chosen source chain
  let candidate := x.candidate source chain
  match source with
  | .held => (r.magnitude, r.sense)
  | .lost => (0, .none)
  | .own | .chain =>
    if restarts r.source source then (chosen, settledSense chosen (restartSense candidate r.sense))
    else
      let m :=
        limited r.magnitude (targetMagnitude chosen candidate r.sense) (rateStep x.rise x.period)
          (rateStep x.fall x.period)
      (m, settledSense m (carriedSense candidate r.sense))

/-- The hold timer after the stage: cancelled at entry to OWN or CHAIN, started at entry to HELD from them (R70). -/
def Reference.holdAfter (r : Reference) (x : StageInput) (source : RefSource) : Timer :=
  match source with
  | .own | .chain => none
  | .lost => r.hold
  | .held => if r.source = .held then r.hold else x.holdTimer

/-- Nanometres in a centimetre. -/
def nmPerCm : Nat := 10000000

/-- The odometer advance of a magnitude over a period (R74). -/
def Reference.travelled (r : Reference) (magnitude period : Nat) : Reference :=
  let nm := r.remainder + magnitude * period
  { r with
    odometer := advance r.odometer (nm / nmPerCm), remainder := nm % nmPerCm, step := nm / nmPerCm }

/-- The rollback distance after an evaluation (R75). -/
def rollbackAfter (old step : Nat) (direction : Direction) (sense : Sense) : Nat :=
  if direction = .neutral ∨ sense = .ofDirection direction then 0
  else if sense = .none then old
  else min 65535 (old + step)

/-- The record after the reference stage (R66). -/
def Reference.stage (r : Reference) (x : StageInput) : Reference :=
  let chain := chainReference r.chainRef x.link x.frame x.direction
  let source :=
    chooseSource (x.samples.toList.any Sample.usable) (x.follower && x.link == .linked && chain.isSome) r.source
  let (m, sense) := r.motion x source chain
  let steady := source = .held ∨ source = .lost ∨ restarts r.source source
  let r1 :=
    { r with
      magnitude := m
      sense := sense
      acceleration := if steady then 0 else rate (signedSpeed m sense - r.signed) x.period
      source := source
      hold := r.holdAfter x source
      chainRef := chain }.travelled m x.period
  { r1 with rollback := rollbackAfter r.rollback r1.step x.direction sense }

/-- What the reference stage of an evaluation now would read. -/
def State.stageInput (s : State) (samples : PerAxle Sample) (frame : Option Frame) : StageInput :=
  { samples := samples
    regime := s.intent.accepted.regime
    direction := s.intent.accepted.direction
    link := s.chain.link
    frame := frame
    follower := s.follower
    rise := s.cfg.tun.speed.riseLimit
    fall := s.cfg.tun.speed.fallLimit
    period := s.ev.length
    holdTimer := s.timer Config.holdLength }

/-- The reference stage; an entry to HELD from OWN or CHAIN is counted (R66, R70). -/
def referenceStage (samples : PerAxle Sample) (frame : Option Frame) (s : State) : State :=
  let r := s.ref.stage (s.stageInput samples frame)
  countIf (r.source == .held && s.ref.source != .held) .referenceHeld { s with ref := r }

/-- The results handed on (R76). -/
def Reference.results (r : Reference) : RefResults :=
  { magnitude := r.magnitude, sense := r.sense, source := r.source, acceleration := r.acceleration
    odometer := r.odometer, step := r.step, rollback := r.rollback }

/-- The hold timer expires: the source becomes LOST, the magnitude 0, the sense NONE, the acceleration 0 (R72). -/
def Reference.lose (r : Reference) : Reference :=
  { r with magnitude := 0, sense := .none, acceleration := 0, source := .lost, hold := none }

/-- The rollback distance at a MODE taken event: 0 if the new direction is NEUTRAL or differs from the one before
(R75). -/
def referenceModeTaken (before : Direction) (s : State) : State :=
  { s with
    ref :=
      { s.ref with
        rollback :=
          if s.intent.accepted.direction = .neutral ∨ s.intent.accepted.direction ≠ before then 0
          else s.ref.rollback } }

/-! ### Part states (R77, R78) -/

/-- In HELD, the hold timer is started afresh: entry to ACTIVE from SETUP and the end of WAKING (R77). -/
def restartHold (s : State) : State :=
  { s with
    ref := { s.ref with hold := if s.ref.source = .held then s.timer Config.holdLength else s.ref.hold } }

/-- Entry to STANDBY: the hold timer is stopped (R77). -/
def referenceStandby (s : State) : State := { s with ref := { s.ref with hold := none } }

/-- RESTART: odometer and remainder are kept (R78). -/
def referenceRestart (s : State) : State :=
  { s with ref := { Reference.reset with odometer := s.ref.odometer, remainder := s.ref.remainder } }

end Sys2Proof.Machine
end

