-- ==== Sys2Proof/Machine/Slip.lean ====
section
/-! DEFINITION. The adhesion evaluator (chapter 5): slip, axle states, repeat counts, adhesion poor, the correction
factor, and the stages of an evaluation up to its completion. -/

namespace Sys2Proof.Machine

/-! ### What counts (R85, R86) -/

/-- The side of the slip that counts (R86). -/
inductive Side where
  | traction | braking | both
  deriving DecidableEq, Repr

/-- The side by part state and accepted regime (R86). -/
def Side.of (fallback : Bool) (regime : Regime) : Side :=
  if fallback then .both
  else
    match regime with
    | .traction => .traction
    | .serviceBrake | .emergency | .hold => .braking
    | .coast => .both

/-- A slip or a relative acceleration in the sense that counts (R86). -/
def Side.counted (x : Side) (v : Int) : Int :=
  match x with | .traction => v | .braking => -v | .both => v.natAbs

/-- The kind at an excursion entry (R86). -/
def Side.kind (x : Side) (slip acc : Int) : Kind :=
  match x with
  | .traction => .spin
  | .braking => .slide
  | .both => if 0 < slip then .spin else if slip < 0 then .slide else if 0 ≤ acc then .spin else .slide

/-- The axle sign by the travel sense; in NONE the sign of the axle's own filtered speed, +1 if it is 0 (R85). -/
def axleSign (sense : Sense) (filtered : Int) : Int :=
  match sense with
  | .forward => 1
  | .reverse => -1
  | .none => if filtered < 0 then -1 else 1

/-- A threshold: the larger of the absolute and relative × M / 1000 (R87). -/
def threshold (absolute relative m : Nat) : Nat := max absolute (relative * m / 1000)

/-! ### The axle stage (R88 to R93) -/

/-- What the full-mode axle stage reads for every axle. -/
structure AxleInput where
  side : Side
  ref : RefResults
  slip : SlipTuning
  /-- an excursion timer as it would be started now -/
  started : Timer

/-- The thresholds of a stage (R87). -/
def AxleInput.creep (x : AxleInput) : Nat := threshold x.slip.creepAbs x.slip.creepRel x.ref.magnitude
/-- The excursion threshold (R87). -/
def AxleInput.excursion (x : AxleInput) : Nat := threshold x.slip.excursionAbs x.slip.excursionRel x.ref.magnitude
/-- The recovery threshold (R87). -/
def AxleInput.recovery (x : AxleInput) : Nat := threshold x.slip.recoveryAbs x.slip.recoveryRel x.ref.magnitude

/-- The excursion condition (R89). -/
def AxleInput.breaksAway (x : AxleInput) (counted countedAcc : Int) : Bool :=
  decide ((x.excursion : Int) ≤ counted) || decide ((x.slip.accelerationLimit : Int) ≤ countedAcc)

/-- The state after the tests of R89 and R91, from a state other than EXCLUDED; `c` is the bogie's C as published at
the previous completion. -/
def AxleInput.next (x : AxleInput) (old : SlipState) (c : Nat) (counted countedAcc : Int) : SlipState :=
  match old with
  | .excursion => if counted < x.recovery then .recovery else .excursion
  | .recovery =>
    if x.breaksAway counted countedAcc then .excursion
    else if c = 1000 ∧ counted < x.creep then .adhering
    else .recovery
  | .adhering | .creep | .excluded =>
    if x.breaksAway counted countedAcc then .excursion
    else if (x.creep : Int) ≤ counted then .creep
    else .adhering

/-- The repeat window is judged: when the mark is reached, the count returns to 0 and the mark to none (R93). -/
def SlipRecord.judged (r : SlipRecord) (odometer : Odo) : SlipRecord :=
  match r.mark with
  | some m =>
    if 0 < r.repeats ∧ reached odometer m then { r with repeats := 0, mark := none } else r
  | none => r

/-- An axle whose channel is not usable (R88). -/
def SlipRecord.exclude (r : SlipRecord) : SlipRecord :=
  { r with state := .excluded, slip := none, counted := none, countedAcc := none, entered := false }

/-- A record after the full-mode axle stage, with its channel's sample (R85 to R93). -/
def SlipRecord.classify (r : SlipRecord) (x : AxleInput) (p : Sample) (c : Nat) : SlipRecord :=
  let r1 := r.judged x.ref.odometer
  if p.usable then
    let v := p.filtered.getD 0
    let sign := axleSign x.ref.sense v
    let slip := sign * v - x.ref.magnitude
    let acc := sign * (p.acceleration.getD 0 - x.ref.acceleration)
    let counted := x.side.counted slip
    let countedAcc := x.side.counted acc
    let next := x.next r.state c counted countedAcc
    let entered := next == .excursion && r.state != .excursion
    { r1 with
      state := next, slip := some slip, counted := some counted, countedAcc := some countedAcc, entered := entered
      kind := if entered then some (x.side.kind slip acc) else r.kind
      repeats := if entered then min 15 (r1.repeats + 1) else r1.repeats
      mark := if entered then some (advance x.ref.odometer (x.slip.repeatWindow * 100)) else r1.mark }
  else r1.exclude

/-- A record after the limited-mode axle stage (R83, R88, R101). -/
def SlipRecord.limitedMode (r : SlipRecord) (p : Sample) : SlipRecord :=
  let r1 : SlipRecord := { r with repeats := 0, mark := none, entered := false }
  if p.usable then { r1 with state := .adhering } else r1.exclude

/-- The excursion timer after the axle stage: started at an entry, cancelled outside EXCURSION (R90 to R92). -/
def excursionTimer (r : SlipRecord) (old started : Timer) : Timer :=
  if r.state = .excursion then (if r.entered then started else old) else none

/-! ### The bogie stage (R94 to R97) -/

/-- The kind of an onset: that of the entering axle; of two, the one with the larger counted slip, the first if they
are equal (R96). -/
def onsetKind (x y : SlipRecord) : Option Kind :=
  if x.entered && y.entered then
    if x.counted.getD 0 < y.counted.getD 0 then y.kind else x.kind
  else if x.entered then x.kind
  else if y.entered then y.kind
  else none

/-- C after steps 2 to 5 of R96 for a bogie that is not blind. -/
def correct (t : SlipTuning) (c : Nat) (onset anyExcursion anyGripping : Bool) : Nat :=
  if onset then max t.floor (c * t.drop / 1000)
  else if anyExcursion then max t.floor (c - t.decay)
  else if c < 1000 ∧ anyGripping then min 1000 (c + t.recoveryStep)
  else c

/-- An axle in RECOVERY or ADHERING. -/
def SlipRecord.gripping (r : SlipRecord) : Bool := r.state == .recovery || r.state == .adhering

/-- A bogie record after the full-mode bogie stage: `x0`, `y0` its axles' records at the previous completion, `x`, `y`
after the axle stage (R94, R96, R97). -/
def BogieRecord.update (b : BogieRecord) (t : SlipTuning) (x0 y0 x y : SlipRecord) : BogieRecord :=
  let poor := decide (t.repeatLimit ≤ x.repeats) || decide (t.repeatLimit ≤ y.repeats)
  let became := poor && !b.poor
  if x.state = .excluded ∧ y.state = .excluded then
    { c := t.floor, onset := none, inExcursion := false, poor := poor, becamePoor := became, blind := true
      floorPending := false }
  else
    let wasIn := x0.state == .excursion || y0.state == .excursion
    let isIn := x.state == .excursion || y.state == .excursion
    let onset := (x.entered || y.entered) && !wasIn
    { c := if b.floorPending then t.floor else correct t b.c onset isIn (x.gripping || y.gripping)
      onset := if onset then onsetKind x y else none
      inExcursion := isIn, poor := poor, becamePoor := became, blind := false, floorPending := false }

/-! ### The stages of an evaluation (R80, R83) -/

/-- The full-mode axle stage's input now. -/
def State.axleInput (s : State) (ref : RefResults) : AxleInput :=
  { side := Side.of (s.ctl.part = .fallback) s.intent.accepted.regime, ref := ref, slip := s.cfg.tun.slip
    started := s.timer (ms s.cfg.tun.slip.excursionTime) }

/-- The slip records after the axle stage (R83, R88). -/
def State.classified (s : State) (ref : RefResults) (samples : PerAxle Sample) : PerAxle SlipRecord :=
  PerAxle.build fun i =>
    let r := s.ev.slips.get i
    if s.inForce then r.classify (s.axleInput ref) (samples.get i) (s.ev.bogies.get i.bogie).c
    else r.limitedMode (samples.get i)

/-- The bogie records after the bogie stage (R83, R96). -/
def State.updated (s : State) (slips : PerAxle SlipRecord) : PerBogie BogieRecord :=
  PerBogie.build fun y =>
    let (i, j) := y.axles
    if s.inForce then
      (s.ev.bogies.get y).update s.cfg.tun.slip (s.ev.slips.get i) (s.ev.slips.get j) (slips.get i) (slips.get j)
    else BogieRecord.reset

/-- How many axles entered EXCURSION. -/
def entries (slips : PerAxle SlipRecord) : Nat := (slips.toList.filter SlipRecord.entered).length

/-- A counter incremented a number of times. -/
def Reporter.bumpBy (r : Reporter) (i : Fin 40) : Nat → Reporter
  | 0 => r
  | n + 1 => (r.bump i).bumpBy i n

/-- Some bogie became adhesion poor. -/
def anyBecamePoor (x : PerBogie BogieRecord) : Bool := x.a.becamePoor || x.t.becamePoor || x.b.becamePoor

/-- The frame that an evaluation's results carry: the one handed to the reference stage (R162). The notice of a frame handed
in SETUP is lost, whenever the evaluation completes (R113). -/
def State.carriedFrame (s : State) (frame : Option Frame) : Option Frame :=
  if s.inForce then frame else frame.map fun f => { f with notice := none }

/-- The axle and bogie stages: they work on a copy, which stands in the evaluation in progress until its completion
(R80); excursion timers, EXCURSION_ENTRY and ADHESION_POOR follow at the stage (R90, R92, R94). -/
def adhesionStages (samples : PerAxle Sample) (frame : Option Frame) (s : State) : State :=
  let ref := s.ref.results
  let slips := s.classified ref samples
  let bogies := s.updated slips
  { s with
    ev :=
      { s.ev with
        timers := PerAxle.build fun i =>
          excursionTimer (slips.get i) (s.ev.timers.get i) (s.timer (ms s.cfg.tun.slip.excursionTime))
        running := some
          { slips := slips, bogies := bogies, ref := ref, regime := s.intent.accepted.regime
            direction := s.intent.accepted.direction, frame := s.carriedFrame frame, started := s.now } }
    rep :=
      let r := s.rep.bumpBy Counter.excursionEntry.number (entries slips)
      if anyBecamePoor bogies then r.raise .adhesionPoor else r }

/-- The effort at latch is recorded: T_X and the allocations of the last run (R104). -/
def recordEfforts (s : State) : State :=
  let a := s.blend.alloc
  { s with
    ceil :=
      { s.ceil with
        records :=
          { a := { s.ceil.records.a with traction := s.intent.held.a, brake := a.edA + a.frA }
            t := { s.ceil.records.t with traction := 0, brake := a.frT }
            b := { s.ceil.records.b with traction := s.intent.held.b, brake := a.edB + a.frB } } } }

/-- The frame in the receive buffer is taken at the reference stage (R162, R168). -/
def takeFrame (s : State) : State :=
  { s with
    chain :=
      { s.chain with
        buffer := none
        last :=
          match s.chain.buffer with
          | some f => some { regime := f.regime, direction := f.direction, sand := f.sand }
          | none => s.chain.last } }

/-- The control-period timer is periodic: it is restarted with the configured period (R79). -/
def restartPeriod (s : State) : State :=
  { s with ev := { s.ev with period := s.timer s.controlPeriod, length := s.controlPeriod } }

/-- The four stages that an expiry of the control-period timer begins: latch, reference, axle and bogie (R80). -/
def evaluate (s : State) : State :=
  adhesionStages s.samplesAt s.chain.buffer
    (takeFrame (referenceStage s.samplesAt s.chain.buffer (recordEfforts (latchAxles s))))

/-- An expiry of the control-period timer (R79, R80). With an evaluation still in progress, which R80 excludes, none
begins (log 11). -/
def periodEnd (s : State) : State := restartPeriod (if s.ev.running.isSome then s else evaluate s)

/-- The completed evaluation's records are published (R99). -/
def publishRecords (e : Evaluation) (s : State) : State :=
  { s with ev := { s.ev with slips := e.slips, bogies := e.bogies, running := none } }

/-- An evaluation in progress is abandoned and counted (R82). -/
def abandon (s : State) : State :=
  countIf s.ev.running.isSome .evaluationAbandoned { s with ev := { s.ev with running := none } }

/-- The excursion timer of an axle expires: PERSISTENT_EXCURSION is raised and the bogie marked floor pending, in the
published record and in the copy of an evaluation in progress (R92). -/
def excursionEnd (i : Axle) (s : State) : State :=
  let mark (x : PerBogie BogieRecord) : PerBogie BogieRecord :=
    x.set i.bogie { x.get i.bogie with floorPending := true }
  raise .persistentExcursion
    { s with
      ev :=
        { s.ev with
          timers := s.ev.timers.set i none
          bogies := mark s.ev.bogies
          running := s.ev.running.map fun e => { e with bogies := mark e.bogies } } }

/-- Every C that lies below a floor is set to it (R98). -/
def liftC (floor : Nat) (x : PerBogie BogieRecord) : PerBogie BogieRecord :=
  PerBogie.build fun y => { x.get y with c := max floor (x.get y).c }

/-- The correction floor has been written (R98). -/
def floorWritten (s : State) : State :=
  { s with
    ev :=
      { s.ev with
        bogies := liftC s.cfg.tun.slip.floor s.ev.bogies
        running := s.ev.running.map fun e => { e with bogies := liftC s.cfg.tun.slip.floor e.bogies } } }

/-! ### Part states (R79, R101, R102) -/

/-- An axle at entry to SETUP by GO_SETUP (R101). -/
def SlipRecord.goSetup (r : SlipRecord) : SlipRecord :=
  { r with
    state := if r.state = .excluded then .excluded else .adhering
    kind := none, entered := false, repeats := 0, mark := none }

/-- Entry to SETUP by GO_SETUP (R82, R101). -/
def slipGoSetup (s : State) : State :=
  abandon
    { s with
      ev :=
        { s.ev with
          slips := PerAxle.build fun i => (s.ev.slips.get i).goSetup
          bogies := PerBogie.build fun _ => BogieRecord.reset
          timers := PerAxle.build fun _ => none } }

/-- Entry to STANDBY: the control-period timer and every excursion timer are stopped (R79, R82, R101). -/
def slipStandby (s : State) : State :=
  abandon { s with ev := { s.ev with period := none, timers := PerAxle.build fun _ => none } }

/-- The end of WAKING: the control-period timer is started, and the excursion timer of each axle in EXCURSION (R79,
R101). -/
def slipWake (s : State) : State :=
  restartPeriod
    { s with
      ev :=
        { s.ev with
          timers := PerAxle.build fun i =>
            if (s.ev.slips.get i).state = .excursion then s.timer (ms s.cfg.tun.slip.excursionTime) else none } }

/-- RESTART (R79, R102). -/
def slipRestart (s : State) : State :=
  restartPeriod
    (abandon
      { s with
        ev :=
          { s.ev with
            slips := PerAxle.build fun _ => SlipRecord.reset
            bogies := PerBogie.build fun _ => BogieRecord.reset
            timers := PerAxle.build fun _ => none } })

end Sys2Proof.Machine
end

