-- ==== Sys2Proof/Machine/Ceiling.lean ====
section
/-! DEFINITION. The ceiling unit (chapter 6): the pass over a completion, the rail condition queue and the outgoing
notice. -/

namespace Sys2Proof.Machine

/-! ### Lowering by onset and adhesion poor (R106) -/

/-- The brake nominal of a bogie (R103). -/
def State.brakeNominal (s : State) : Bogie → Nat
  | .a => s.cfg.tun.blend.edCap.a + s.cfg.tun.blend.frCap.a
  | .t => s.cfg.tun.blend.frCap.t
  | .b => s.cfg.tun.blend.edCap.b + s.cfg.tun.blend.frCap.b

/-- The nominal effort of a motor bogie; none for T. -/
def State.nominal (s : State) : Bogie → Option Nat
  | .a => some s.cfg.str.nominal.a
  | .t => none
  | .b => some s.cfg.str.nominal.b

/-- An effort ratio in ‰; 0 for a nominal of 0 (R106). -/
def effortRatio (effort nominal : Nat) : Nat := if nominal = 0 then 0 else effort * 1000 / nominal

/-- The effort ratio of a bogie at the pass: the traction basis for a motor bogie while the delivered regime is TRACTION
and the part is ACTIVE, the braking basis otherwise (R106). -/
def State.ratio (s : State) (regime : Regime) (y : Bogie) : Nat :=
  let r := s.ceil.records.get y
  match s.nominal y with
  | some n =>
    if regime = .traction ∧ s.ctl.part = .active then effortRatio r.traction n
    else effortRatio r.brake (s.brakeNominal y)
  | none => effortRatio r.brake (s.brakeNominal y)

/-- K lowered to a limit, but not below the ceiling floor (R106, R114). -/
def lowerTo (floor k limit : Nat) : Nat := max floor (min k limit)

/-- Step 1 of the pass for a bogie: an onset lowers K by the effort ratio less the margin, becoming adhesion poor sets
it to the floor, and every excursion entry restarts the clean distance (R105, R106). -/
def CeilingRecord.step1 (r : CeilingRecord) (t : CeilingTuning) (ratio : Nat) (b : BogieRecord) (entered : Bool) :
    CeilingRecord :=
  let lowered := b.onset.isSome || b.becamePoor
  { r with
    k :=
      if b.becamePoor then t.floor
      else if b.onset.isSome then lowerTo t.floor r.k (ratio - t.margin)
      else r.k
    clean := if lowered || entered then 0 else r.clean
    restarted := lowered || entered }

/-- Some axle of the bogie entered EXCURSION. -/
def Evaluation.entered (e : Evaluation) (y : Bogie) : Bool :=
  (e.slips.get y.axles.1).entered || (e.slips.get y.axles.2).entered

/-- The ceiling records after step 1. -/
def State.ceilStep1 (s : State) (e : Evaluation) : PerBogie CeilingRecord :=
  PerBogie.build fun y =>
    (s.ceil.records.get y).step1 s.cfg.tun.ceiling (s.ratio e.regime y) (e.bogies.get y) (e.entered y)

/-! ### Applying notices (R114) -/

/-- A notice applied to a record: if K falls, the clean distance restarts (R114). -/
def CeilingRecord.apply (r : CeilingRecord) (floor severity : Nat) : CeilingRecord :=
  let k := lowerTo floor r.k severity
  { r with
    k := k, clean := if k < r.k then 0 else r.clean, restarted := r.restarted || decide (k < r.k) }

/-- The records after a notice is applied. -/
def applyNotice (floor : Nat) (records : PerBogie CeilingRecord) (n : Notice) : PerBogie CeilingRecord :=
  records.set n.target ((records.get n.target).apply floor n.severity)

/-- The reached notices at the head of the queue (R114). -/
def reachedNotices (odometer : Odo) (q : List Notice) : List Notice := q.takeWhile fun n => reached odometer n.mark

/-- What is left of the queue (R114). -/
def unreached (odometer : Odo) (q : List Notice) : List Notice := q.dropWhile fun n => reached odometer n.mark

/-! ### Clean distance (R107) -/

/-- Step 3 of the pass for a bogie (R107). -/
def CeilingRecord.step3 (r : CeilingRecord) (raise step : Nat) (blind inExcursion : Bool) : CeilingRecord :=
  if r.restarted || blind || inExcursion then r
  else if 1000 ≤ r.clean + step then
    { r with clean := r.clean + step - 1000, k := min 1000 (r.k + raise) }
  else { r with clean := r.clean + step }

/-- The effective raise step: doubled while the sand trail is active (R107). -/
def State.raiseStep (s : State) : Nat :=
  if s.sand.trail then 2 * s.cfg.tun.ceiling.raiseStep else s.cfg.tun.ceiling.raiseStep

/-! ### Placing notices (R110, R111) -/

/-- The difference of two distances. -/
def gap (x y : Nat) : Nat := max x y - min x y

/-- The distance to reach of a notice. -/
def Notice.distance (odometer : Odo) (n : Notice) : Nat := distanceTo odometer n.mark

/-- Of two entries of the queue, in order, the one whose distance differs least from a notice's: the nearer at equal
difference (R111). -/
def closer (odometer : Odo) (d : Nat) (x y : Notice) : Notice :=
  if gap (y.distance odometer) d < gap (x.distance odometer) d then y else x

/-- The entry of a list, nearest first, whose distance differs least from `d`. -/
def closest (odometer : Odo) (d : Nat) : List Notice → Option Notice
  | [] => none
  | x :: xs => some (xs.foldl (closer odometer d) x)

/-- The entry that a new notice merges into, if any: a candidate of step 1, or with the queue full the closest entry of
the same target (R111). -/
def mergeEntry (odometer : Odo) (mergeDistance : Nat) (q : List Notice) (n : Notice) : Option Notice :=
  let d := n.distance odometer
  let same := q.filter fun e => e.target = n.target
  match closest odometer d (same.filter fun e => gap (e.distance odometer) d ≤ mergeDistance) with
  | some e => some e
  | none => if q.length < 8 then none else closest odometer d same

/-- Two notices merged: the nearer mark, the smaller severity (R111). -/
def Notice.merge (odometer : Odo) (x n : Notice) : Notice :=
  { x with
    mark := if n.distance odometer < x.distance odometer then n.mark else x.mark
    severity := min x.severity n.severity }

/-- A mark advanced by 1 cm until no entry of the queue has it; at most as many steps as there are entries (R111). -/
def freeMark (q : List Notice) : Nat → Odo → Odo
  | 0, m => m
  | n + 1, m => if q.any fun e => e.mark = m then freeMark q n (advance m 1) else m

/-- The notice with its mark advanced off every other entry's. -/
def Notice.freed (q : List Notice) (n : Notice) : Notice := { n with mark := freeMark q q.length n.mark }

/-- A notice inserted at its place in the order of distances (R110). -/
def insertNotice (odometer : Odo) (n : Notice) : List Notice → List Notice
  | [] => [n]
  | x :: xs =>
    if n.distance odometer < x.distance odometer then n :: x :: xs else x :: insertNotice odometer n xs

/-- What becomes of a new notice (R111). -/
inductive Placing where
  | merged | inserted | dropped
  deriving DecidableEq, Repr

/-- Place a new notice: merge, insert, or drop (R111). -/
def place (odometer : Odo) (mergeDistance : Nat) (q : List Notice) (n : Notice) : List Notice × Placing :=
  match mergeEntry odometer mergeDistance q n with
  | some e =>
    let rest := q.filter fun x => x.mark ≠ e.mark
    (insertNotice odometer ((e.merge odometer n).freed rest) rest, .merged)
  | none =>
    if q.length < 8 then (insertNotice odometer (n.freed q) q, .inserted) else (q, .dropped)

/-! ### The pass (R105) -/

/-- The pass's working values: records, queue, outgoing notice, and the report writer's counts. -/
structure Pass where
  records : PerBogie CeilingRecord
  queue : List Notice
  outgoing : Option (Motor × Kind)
  rep : Reporter

/-- Step 2: reached notices are applied and removed, in queue order, each counted (R114). -/
def Pass.step2 (p : Pass) (floor : Nat) (odometer : Odo) : Pass :=
  let due := reachedNotices odometer p.queue
  { p with
    records := due.foldl (applyNotice floor) p.records
    queue := unreached odometer p.queue
    rep := p.rep.bumpBy Counter.noticeApplied.number due.length }

/-- A new notice is placed, and a merge counted or a drop raised (R111). -/
def Pass.place (p : Pass) (mergeDistance : Nat) (odometer : Odo) (n : Notice) : Pass :=
  let r := Machine.place odometer mergeDistance p.queue n
  { p with
    queue := r.1
    rep :=
      match r.2 with
      | .merged => p.rep.bump Counter.noticeMerged.number
      | .inserted => p.rep
      | .dropped => p.rep.raise .noticeDropped }

/-- A chain notice: applied at once if its mark is already reached at its creation, else placed (R113). -/
def Pass.chainNotice (p : Pass) (t : CeilingTuning) (odometer : Odo) (n : Notice) : Pass :=
  if reached odometer n.mark then
    { p with
      records := applyNotice t.floor p.records n
      rep := p.rep.bump Counter.noticeApplied.number }
  else p.place t.mergeDistance odometer n

/-- The spacing from the leading bogie (R110). -/
def State.spacing (s : State) (leading : Motor) (y : Bogie) : Nat :=
  let at' := s.cfg.str.spacingAT
  let ab := s.cfg.str.spacingAB
  match leading, y with
  | .a, .a => 0 | .a, .t => at' | .a, .b => ab
  | .b, .a => ab | .b, .t => ab - at' | .b, .b => 0

/-- A new notice for a bogie at the spacing from the leading bogie, and an offset (R112, R113). -/
def State.newNotice (s : State) (leading : Motor) (odometer : Odo) (offset severity : Nat) (y : Bogie) : Notice :=
  { mark := advance odometer (offset + s.spacing leading y), severity := severity, target := y }

/-- The targets of local notices by the onset's kind, in order (R112). -/
def localTargets (leading : Motor) : Kind → List Bogie
  | .spin => [leading.other.bogie]
  | .slide => [.t, leading.other.bogie]

/-- Step 4: the local notices of an onset of the leading bogie; `k` is its K as step 1 left it (R112). -/
def State.step4 (s : State) (e : Evaluation) (k : PerBogie CeilingRecord) (p : Pass) : Pass :=
  match leadingMotor s.intent.accepted.direction with
  | none => p
  | some m =>
    match (e.bogies.get m.bogie).onset with
    | none => p
    | some kind =>
      (localTargets m kind).foldl
        (fun p y =>
          p.place s.cfg.tun.ceiling.mergeDistance e.ref.odometer
            (s.newNotice m e.ref.odometer 0 (k.get m.bogie).k y))
        p

/-- The chain-forward direction's code names the direction (12.2). -/
def State.chainAhead (s : State) (d : Direction) : Bool :=
  d != .neutral && Direction.ofCode s.cfg.str.chainForward == some d

/-- Step 5: the chain notices of a frame that carries one, or its count as ignored (R113). -/
def State.step5 (s : State) (e : Evaluation) (p : Pass) : Pass :=
  match e.frame.bind Frame.notice with
  | none => p
  | some (_, severity) =>
    match leadingMotor s.intent.accepted.direction with
    | none => { p with rep := p.rep.bump Counter.chainNoticeIgnored.number }
    | some m =>
      if s.chainAhead s.intent.accepted.direction then
        [m.bogie, Bogie.t, m.other.bogie].foldl
          (fun p y =>
            p.chainNotice s.cfg.tun.ceiling e.ref.odometer
              (s.newNotice m e.ref.odometer s.cfg.str.chainOffset (min 1000 (severity * 4)) y))
          p
      else { p with rep := p.rep.bump Counter.chainNoticeIgnored.number }

/-- Step 6 for one motor bogie: its onset is offered to the outgoing notice (R116). -/
def Pass.offerOutgoing (p : Pass) (m : Motor) (onset : Option Kind) : Pass :=
  match onset with
  | none => p
  | some kind =>
    match p.outgoing with
    | none => { p with outgoing := some (m, kind) }
    | some (held, _) =>
      if (p.records.get m.bogie).k ≤ (p.records.get held.bogie).k then { p with outgoing := some (m, kind) } else p

/-- The six steps of the pass (R105). -/
def State.passResult (s : State) (e : Evaluation) : Pass :=
  let r1 := s.ceilStep1 e
  let t := s.cfg.tun.ceiling
  let p2 := Pass.step2 { records := r1, queue := s.ceil.queue, outgoing := s.ceil.outgoing, rep := s.rep } t.floor
    e.ref.odometer
  let p3 : Pass :=
    { p2 with
      records := PerBogie.build fun y =>
        (p2.records.get y).step3 s.raiseStep e.ref.step (e.bogies.get y).blind (e.bogies.get y).inExcursion }
  let p5 := s.step5 e (s.step4 e r1 p3)
  (p5.offerOutgoing .a e.bogies.a.onset).offerOutgoing .b e.bogies.b.onset

/-- The ceiling unit handles an evaluation completion: the pass, and then one ceiling lowering, a recompute claim, for
each motor bogie whose K is now lower (R105). With both lower the claim on A is made first, which the manual leaves open
(log 39). -/
def ceilingPass (e : Evaluation) (s : State) : State :=
  let p := s.passResult e
  let s1 := { s with ceil := { records := p.records, queue := p.queue, outgoing := p.outgoing }, rep := p.rep }
  let s2 := if p.records.a.k < s.ceil.records.a.k then claim false .a s1 else s1
  if p.records.b.k < s.ceil.records.b.k then claim false .b s2 else s2

/-! ### Direction changes, tuning, part states (R108, R115, R119) -/

/-- The queue is emptied (R115). -/
def emptyNotices (s : State) : State := { s with ceil := { s.ceil with queue := [] } }

/-- A MODE taken event whose direction differs from the one before empties the queue (R115). -/
def ceilingModeTaken (before : Direction) (s : State) : State :=
  { s with
    ceil := { s.ceil with queue := if s.intent.accepted.direction = before then s.ceil.queue else [] } }

/-- The ceiling floor has been written: every K below it is set to it (R108). -/
def ceilingFloorWritten (s : State) : State :=
  { s with
    ceil :=
      { s.ceil with
        records := PerBogie.build fun y =>
          { s.ceil.records.get y with k := max s.cfg.tun.ceiling.floor (s.ceil.records.get y).k } } }

/-- RESTART: K is kept (R119). -/
def ceilingRestart (s : State) : State :=
  { s with
    ceil :=
      { records := PerBogie.build fun y => { CeilingRecord.reset with k := (s.ceil.records.get y).k }
        queue := [], outgoing := none } }

end Sys2Proof.Machine
end

