-- ==== Sys2Proof/Machine/Chain.lean ====
section
/-! DEFINITION. The unit chain link (chapter 9): receiver, receive buffer, link state, period alignment and
transmitter. -/

namespace Sys2Proof.Machine

/-! ### The receiver (R161 to R165) -/

/-- The receiver assembles frames in SETUP, ACTIVE and FALLBACK (R161, R169). -/
def State.receives (s : State) : Bool := s.ctl.part = .setup || s.inForce

/-- The instant at which the idle limit of a frame being received is reached: none while a new character is being received
that began in time (R161). A change of level that turns out a glitch (R159) is such a character until the middle of its
start bit, and leaves the limit as it was after that: the manual leaves it open (log 47). -/
def State.idleDue (s : State) : Timer :=
  if s.receives && s.chain.receiving.isSome && s.chain.bits.char.isNone then
    some (s.chain.lastEnd + Config.idleLimit)
  else none

/-- This unit is the LEAD (R158). -/
def State.lead (s : State) : Bool := s.cfg.str.position = 0

/-- The frame being received is discarded with a count and CHAIN_FAULT, and the receiver hunts again; at the LEAD the
count is CHAIN_UNEXPECTED (R161, R163). -/
def endFrame (c : Counter) (s : State) : State :=
  count (if s.lead then .chainUnexpected else c)
    (raise .chainFault { s with chain := { s.chain with receiving := none } })

/-- The silence length: 3 × the expected interval × the control period (R158). -/
def State.silenceLength (s : State) : Nat := 3 * s.cfg.tun.link.expectedInterval * s.controlPeriod

/-- A good frame acts on the link state in ACTIVE and FALLBACK (R164). -/
def linkUp (s : State) : State :=
  { s with
    chain :=
      { s.chain with
        link := if s.inForce && s.follower then .linked else s.chain.link
        silence := if s.inForce && s.follower then s.timer s.silenceLength else s.chain.silence } }

/-- Less than half of the running period has passed since the control-period timer's last expiry, start or restart
(R165; log 12). -/
def State.earlyInPeriod (s : State) : Bool :=
  match s.ev.period with
  | none => false
  | some d => decide (2 * (s.now + s.ev.length - d) < s.ev.length)

/-- Period alignment at a good frame: early in the period the control-period timer is restarted (R165). -/
def alignPeriod (s : State) : State :=
  let aligns := s.cfg.tun.link.alignment && s.follower && s.inForce && s.earlyInPeriod
  { s with
    ev :=
      { s.ev with
        period := if aligns then s.timer s.controlPeriod else s.ev.period
        length := if aligns then s.controlPeriod else s.ev.length } }

/-- A good frame is offered to the receive buffer: an empty buffer takes it, a full one loses it as an overrun (R162). -/
def bufferFrame (f : Frame) (s : State) : State :=
  let s1 := count .chainFrameGood s
  match s.chain.buffer with
  | none => { s1 with chain := { s.chain with buffer := some f } }
  | some _ => count .chainOverrun (raise .chainFault s1)

/-- Frame reception ends: the receiver hunts again (R161). -/
def hunt (s : State) : State := { s with chain := { s.chain with receiving := none } }

/-- A completed frame of eight bytes is judged (R161 to R165); at the LEAD it is unexpected (R163). -/
def completeFrame (bytes : List FrameByte) (s : State) : State :=
  if s.lead then endFrame .chainUnexpected s
  else
    match judgeFrame s.cfg.str.position bytes with
    | .error .check => endFrame .chainCheck s
    | .error .position => endFrame .chainPosition s
    | .ok f => alignPeriod (linkUp (bufferFrame f (hunt s)))

/-- A received byte: while hunting 0xA5 begins a frame; within a frame it is stored, and the eighth completes it
(R161). -/
def receiveByte (b : FrameByte) (s : State) : State :=
  if s.receives then
    match s.chain.receiving with
    | none =>
      if b = 0xA5 then { s with chain := { s.chain with receiving := some [b], lastEnd := s.now } } else s
    | some bytes =>
      if bytes.length < 7 then
        { s with chain := { s.chain with receiving := some (bytes ++ [b]), lastEnd := s.now } }
      else completeFrame (bytes ++ [b]) s
  else s

/-- A character with a framing error: within a frame it discards the frame as CHECK; while hunting it is discarded
(R161). -/
def framingError (s : State) : State :=
  if s.receives && s.chain.receiving.isSome then endFrame .chainCheck s else s

/-- The idle limit within a frame: the frame is discarded as INCOMPLETE (R161). -/
def frameIncomplete (s : State) : State :=
  if s.receives && s.chain.receiving.isSome then endFrame .chainIncomplete s else s

/-- The silence timer expires: the link goes LOST, CHAIN_FAULT is raised and the loss counted (R164). -/
def silenceEnd (s : State) : State :=
  count .chainLinkLost
    (raise .chainFault { s with chain := { s.chain with link := .lost, silence := none } })

/-! ### The transmitter (R166, R167) -/

/-- The frame as formed at a transmit start (R167). -/
def State.formFrame (s : State) : Frame :=
  { regime := s.intent.accepted.regime
    direction := s.intent.accepted.direction
    valid := s.ref.valid
    reference := s.ref.signed
    notice := s.ceil.outgoing.map fun (m, k) => (k, (s.ceil.records.get m.bogie).k / 4)
    sand := s.sandActive }

/-- The transmit interval (R166). -/
def State.transmitLength (s : State) : Nat := s.cfg.tun.link.chainInterval * s.controlPeriod

/-- A transmit start: the frame is formed and sent, the outgoing notice becomes none, the periodic timer is started
again, CHAIN_FRAME_SENT counts (R116, R166, R167). -/
def transmit (s : State) : State :=
  count .chainFrameSent
    { s with
      chain :=
        { s.chain with
          transmit := s.timer s.transmitLength
          sending := some { bytes := s.formFrame.encode s.cfg.str.position, start := s.now } }
      ceil := { s.ceil with outgoing := none } }

/-- The ten bits of a character, true at the active level: start bit, data bits least significant first, stop bit
(R159). A data bit of 1 stands at the idle level, as on an asynchronous serial line (log 36). -/
def characterBits (b : FrameByte) : List Bool :=
  true :: (List.range 8).map (fun i => !b.getLsbD i) ++ [false]

/-- The level of the chain output while a frame is being sent, by the time since its first start bit (R159). -/
def Sending.level (x : Sending) (now : Nat) : Bool :=
  ((x.bytes.flatMap characterBits)[(now - x.start) / 4]?).getD false

/-! ### Part states (R169, R170) -/

/-- The silence timer as started at a follower's entry to ACTIVE or FALLBACK. -/
def State.silenceStart (s : State) : Timer := if s.follower then s.timer s.silenceLength else none

/-- Entry to ACTIVE from SETUP (R169). -/
def chainEnterActive (s : State) : State :=
  { s with
    chain :=
      { s.chain with
        buffer := none, link := .searching, silence := s.silenceStart, transmit := s.timer s.transmitLength } }

/-- Entry to SETUP by GO_SETUP (R169). -/
def chainGoSetup (s : State) : State :=
  { s with chain := { s.chain with link := .searching, silence := none, transmit := none } }

/-- Entry to STANDBY (R169). -/
def chainStandby (s : State) : State :=
  { s with
    chain :=
      { s.chain with
        receiving := none, bits := { level := s.pins.chainIn, char := none }, buffer := none, silence := none
        transmit := none } }

/-- The end of WAKING; `serving` when the part enters ACTIVE or FALLBACK (R169). -/
def chainWake (serving : Bool) (s : State) : State :=
  { s with
    chain :=
      { s.chain with
        receiving := none, bits := { level := s.pins.chainIn, char := none }, link := .searching
        silence := if serving then s.silenceStart else none
        transmit := if serving then s.timer s.transmitLength else none } }

/-- RESTART: the frame being received is dropped and a frame being sent is finished; the character being received runs to
its end as a received byte, which the manual leaves open (R170; log 42). -/
def chainRestart (s : State) : State :=
  { s with
    chain :=
      { s.chain with
        receiving := none, buffer := none, link := .searching, silence := none, transmit := none, last := none } }

end Sys2Proof.Machine
end

