-- ==== Sys2Proof/Machine/Report.lean ====
section
/-! DEFINITION. The report writer's records as words (12.3, R192, R193) and the update it writes (11.3). -/

namespace Sys2Proof.Machine

/-! ### Codes of the report block (12.3) -/

/-- Part state code; RESET and PUBLISH have none, since no report is written there. -/
def PartState.code : PartState → Nat
  | .setup => 0 | .active => 1 | .fallback => 2 | .standby => 3 | .waking => 4 | .reset | .publish => 0

/-- Restart cause code. -/
def RestartCause.code : RestartCause → Nat
  | .power => 1 | .line => 2 | .command => 3

/-- Command outcome code. -/
def CommandOutcome.code : CommandOutcome → Nat
  | .none => 0 | .accepted => 1 | .badValue => 2 | .wrongState => 3 | .notReady => 4 | .setupInvalid => 5

/-- Validation fault code. -/
def SetupFault.code : SetupFault → Nat
  | .overlap => 1 | .configOverlap => 2 | .range => 3 | .badCode => 4 | .badLength => 5 | .roleTwice => 6
  | .roleMissing => 7 | .allocList => 8 | .channelParam => 9 | .positionRange => 10

/-- Reference source code. -/
def RefSource.code : RefSource → Nat
  | .own => 0 | .chain => 1 | .held => 2 | .lost => 3

/-- Travel sense code. -/
def Sense.code : Sense → Nat
  | .none => 0 | .forward => 1 | .reverse => 2

/-- Channel state code. -/
def ChannelState.code : ChannelState → Nat
  | .disabled => 0 | .settling => 1 | .valid => 2 | .still => 3 | .fault => 4

/-- Axle state code. -/
def SlipState.code : SlipState → Nat
  | .excluded => 0 | .adhering => 1 | .creep => 2 | .excursion => 3 | .recovery => 4

/-- Sander state code. -/
def SanderState.code : SanderState → Nat
  | .disabled => 0 | .idle => 1 | .pulsing => 2 | .empty => 3 | .unavailable => 4

/-- Trigger code; 0 for none. -/
def Trigger.code : Trigger → Nat
  | .manual => 1 | .excursion => 2 | .repeated => 3 | .emergency => 4 | .start => 5 | .poorRail => 6

/-- Hill-start state code. -/
def HillStart.code : HillStart → Nat
  | .off => 0 | .holding => 1 | .releasing => 2 | .rollbackHold => 3

/-- Link state code. -/
def LinkState.code : LinkState → Nat
  | .searching => 0 | .linked => 1 | .lost => 2

/-- Origin code of a part-owned role: 1 to 9 in the order TRACTION_A to FR_B. -/
def Role.code (r : Role) : Nat := r.windowCode.toNat

/-! ### The records (12.3) -/

/-- The eight HEADER words, which the page header repeats. The four bits of the fallback cause set stand in the order
in which 12.3 names them, from bit 8 up (log 15). -/
def State.headerWords (s : State) : List Word :=
  [ field 0 4 s.ctl.part.code ||| flagBit 8 s.ctl.causes.modeStale ||| flagBit 9 s.ctl.causes.referenceLost
      ||| flagBit 10 s.ctl.causes.memoryFault ||| flagBit 11 s.ctl.causes.rollaway,
    field 0 2 s.ctl.restartCause.code,
    field 0 8 s.ctl.commandValue.toNat ||| field 8 3 s.ctl.outcome.code,
    (match s.ctl.validation with
     | none => 0
     | some v => field 8 8 v.fault.code ||| field 0 8 v.place),
    s.rep.flags.setWidth 32,
    signedField 0 s.ref.signed,
    field 0 2 s.ref.source.code ||| field 4 2 s.ref.sense.code,
    s.ref.odometer ]

/-- The two AXLE words of an axle. -/
def State.axleWords (s : State) (i : Axle) : List Word :=
  let c := s.axle.channels.get i
  let r := s.ev.slips.get i
  [ field 0 3 c.state.code ||| field 4 3 r.state.code ||| field 8 4 r.repeats,
    signedField 0 (c.filtered.getD 0) ||| signedField 16 (r.slip.getD 0) ]

/-- The held effective traction shown for a bogie; 0 for T. -/
def State.shownTraction (s : State) : Bogie → Nat
  | .a => s.intent.held.a | .t => 0 | .b => s.intent.held.b

/-- The ED allocation shown for a bogie; T has none. -/
def State.shownElectric (s : State) : Bogie → Nat
  | .a => s.blend.alloc.edA | .t => 0 | .b => s.blend.alloc.edB

/-- The four BOGIE words of a bogie. -/
def State.bogieWords (s : State) (y : Bogie) : List Word :=
  let b := s.ev.bogies.get y
  let k := s.ceil.records.get y
  [ field 0 10 b.c ||| field 16 10 k.k,
    field 0 10 k.clean ||| flagBit 16 b.poor ||| flagBit 17 b.blind ||| flagBit 18 b.inExcursion,
    field 0 16 (s.shownTraction y),
    field 0 16 (s.shownElectric y) ||| field 16 16 (s.blend.alloc.get y.fr) ]

/-- The SANDER word of a sander. -/
def State.sanderWord (s : State) (i : SanderId) : Word :=
  let r := s.sand.sanders.get i
  field 0 3 (s.sanderState i).code ||| field 4 3 (r.last.elim 0 Trigger.code) ||| field 8 6 r.remaining
    ||| flagBit 14 (!s.sand.supplyGood) ||| flagBit 15 s.sand.trail ||| field 16 16 r.withheld

/-- The four BLEND words. -/
def State.blendWords (s : State) : List Word :=
  let b := s.blend
  [ field 0 16 b.dEff ||| field 16 16 b.deficit,
    field 0 2 b.hill.code ||| flagBit 4 b.lines ||| flagBit 5 b.assist ||| flagBit 8 b.shortfall.a
      ||| flagBit 9 b.shortfall.b,
    field 0 16 b.h ||| field 16 16 b.fhs,
    field 0 16 b.mtb ]

/-- The two QUEUES words. -/
def State.queueWords (s : State) : List Word :=
  [ field 0 4 s.ip.queue.length ||| field 4 4 (s.ip.inflight.elim 0 fun f => f.entry.origin.code)
      ||| field 8 4 (s.ip.lastAbandoned.elim 0 Role.code) ||| field 16 4 s.ceil.queue.length,
    BitVec.ofNat 32 (s.ceil.queue.head?.elim 0 (Notice.distance s.ref.odometer)) ]

/-- The two CHAIN words. -/
def State.chainWords (s : State) : List Word :=
  [ field 0 2 s.chain.link.code
      ||| (match s.chain.last with
           | none => 0
           | some l =>
             flagBit 8 true ||| field 12 3 l.regime.code.toNat ||| field 16 2 l.direction.code.toNat
               ||| flagBit 20 l.sand),
    (match s.ref.chainRef with
     | none => 0
     | some v => signedField 0 v ||| flagBit 16 true) ]

/-- The twenty COUNTERS words: counter 2k low, counter 2k + 1 high (R188). -/
def State.counterWords (s : State) : List Word :=
  (List.range 20).map fun k =>
    field 0 16 (s.rep.counters.toList.getD (2 * k) 0) ||| field 16 16 (s.rep.counters.toList.getD (2 * k + 1) 0)

/-! ### The update (R189, R190) -/

/-- The records of an update in order: the page header, HEADER, six AXLE, three BOGIE, four SANDER, BLEND, QUEUES, CHAIN,
COUNTERS. -/
def State.recordWords (s : State) (record : Nat) : List Word :=
  match record with
  | 0 | 1 => s.headerWords
  | 2 => s.axleWords .a1 | 3 => s.axleWords .a2 | 4 => s.axleWords .t1 | 5 => s.axleWords .t2
  | 6 => s.axleWords .b1 | 7 => s.axleWords .b2
  | 8 => s.bogieWords .a | 9 => s.bogieWords .t | 10 => s.bogieWords .b
  | 11 => [s.sanderWord .s1] | 12 => [s.sanderWord .s2] | 13 => [s.sanderWord .s3] | 14 => [s.sanderWord .s4]
  | 15 => s.blendWords
  | 16 => s.queueWords
  | 17 => s.chainWords
  | _ => s.counterWords

/-- The number of words of a record. -/
def recordLength (record : Nat) : Nat :=
  match record with
  | 0 | 1 => 8
  | 2 | 3 | 4 | 5 | 6 | 7 => 2
  | 8 | 9 | 10 | 15 => 4
  | 11 | 12 | 13 | 14 => 1
  | 16 | 17 => 2
  | _ => 20

/-- The REPORT window offset of a record's first word; the page header stands in the page instead. -/
def recordOffset (record : Nat) : Nat :=
  match record with
  | 0 | 1 => 0
  | 2 => 8 | 3 => 10 | 4 => 12 | 5 => 14 | 6 => 16 | 7 => 18
  | 8 => 20 | 9 => 24 | 10 => 28
  | 11 => 32 | 12 => 33 | 13 => 34 | 14 => 35
  | 15 => 36 | 16 => 40 | 17 => 42
  | _ => 44

/-- The record that holds a REPORT window offset below 64 (R31). -/
def recordOf (offset : Nat) : Nat :=
  if offset < 8 then 1
  else if offset < 20 then 2 + (offset - 8) / 2
  else if offset < 32 then 8 + (offset - 20) / 4
  else if offset < 36 then 11 + (offset - 32)
  else if offset < 40 then 15
  else if offset < 42 then 16
  else if offset < 44 then 17
  else 18

/-- The base of the REPORT window of the copy (R23). -/
def State.reportBase (s : State) : Option Addr := windowBase s.ip.copy.toList 12

/-- An update begun now: its window is the REPORT window if the copy is in force (R189). -/
def State.newUpdate (s : State) : Update :=
  { window := if s.inForce then s.reportBase else none, record := 0, word := 0, contents := none, stopping := false }

/-- The word address an update writes next (R189). -/
def Update.addr (u : Update) (pageBase : Addr) : Addr :=
  match u.record, u.window with
  | 0, _ | _, none => pageBase + 0xF8 + BitVec.ofNat 18 u.word
  | _, some b => b + BitVec.ofNat 18 (recordOffset u.record + u.word)

/-- The record being written: from the grant of its first word to the end of its last (R31). -/
def ReportWriter.writing (w : ReportWriter) : Option Nat :=
  w.update.bind fun u => if u.contents.isSome then some u.record else none

/-- What follows the end of an update's word write: the next word, the next record, or the end of the update; after the
page header only if the copy was in force at its begin (R189, R190). -/
def Update.next (u : Update) : Option Update :=
  if u.stopping then none
  else if u.word + 1 < recordLength u.record then some { u with word := u.word + 1 }
  else if u.record = 18 ∨ u.window = none then none
  else some { u with record := u.record + 1, word := 0, contents := none }

/-- The word of an update that is now due. -/
def Update.current (u : Update) : Word := (u.contents.getD []).getD u.word 0

/-- The report interval in µs (R189). -/
def State.reportLength (s : State) : Nat := s.cfg.tun.link.reportInterval * s.controlPeriod

/-- An update falls due: it begins, or is pending while another is being written (R189). -/
def updateDue (s : State) : State :=
  { s with
    rw :=
      match s.rw.update with
      | none => { s.rw with update := some s.newUpdate }
      | some _ => { s.rw with pendingUpdate := true } }

/-- The report timer expires: it is periodic, and an update falls due (R189). -/
def reportEnd (s : State) : State :=
  updateDue { s with rw := { s.rw with timer := s.timer s.reportLength } }

/-- A report word's write has ended: the writer goes on, and at the end of an update a pending one begins (R189). -/
def reportAdvance (s : State) : State :=
  { s with
    rw :=
      match s.rw.update.bind Update.next with
      | some u => { s.rw with update := some u }
      | none =>
        if s.rw.pendingUpdate then { s.rw with update := some s.newUpdate, pendingUpdate := false }
        else { s.rw with update := none } }

/-- The report timer started with its full length, and an update due (R189, R190). -/
def reportStart (s : State) : State := reportEnd s

/-- Entry to STANDBY: the timer is stopped and a pending update dropped; one in progress runs to its end (R190). -/
def reportStandby (s : State) : State :=
  { s with rw := { s.rw with timer := none, pendingUpdate := false } }

/-- RESTART: an update in progress is stopped, and the restart's own begins (R190). -/
def reportRestart (s : State) : State :=
  let onPort := s.ip.port.any fun p => p.claimant = .report
  { s with
    rw :=
      { timer := s.timer s.reportLength
        update :=
          match s.rw.update, onPort with
          | some u, true => some { u with stopping := true }
          | _, _ => some s.newUpdate
        pendingUpdate := onPort } }

end Sys2Proof.Machine
end

