-- ==== Sys2Proof/WellFormed.lean ====
section
/-! DEFINITION. The checks a command's operands meet on their own, whatever the state: a row that names a partial
write carries a partial write, and a host read carries no write data. -/

namespace Sys2Proof

/-- A write that carries all four lane strobes is a full write; any other write is a partial write
(00_scope, Words and the check nibble). -/
def fullLanes : BitVec 4 := 0xF

/-- A read carries no write data. -/
def HostTxn.wellFormed (t : HostTxn) : Bool := t.write || t.data == 0

/-- The operands of a command agree with the row it stands for. -/
def Instr.wellFormed : Instr → Bool
  | .partialWriteRefused _ _ lanes => lanes != fullLanes
  | .hostTransactionForwarded t => t.wellFormed
  | .hostTransactionHeld t => t.wellFormed
  | .busWake t => t.wellFormed
  | .powerOn | .resetLineAsserted | .resetReleased _ | .publishWordCompletion _ | .tractionOrBrakeWrite _ _
  | .modeWrite _ _ _ | .guardedWriteRefused _ _ _ | .hostRead _ _ | .configPageWrite _ _ _ | .forwardedCompletion _
  | .configWriteTaken | .goActive | .goSetup | .restart | .standby | .commandBadValue | .causeClear
  | .attentionMaskWrite | .intentTuningWrite | .correctionFloorWrite | .ceilingFloorWrite | .sanderTuningWrite
  | .channelStructureWrite | .writebackDone | .writebackFailed | .memoryPortTimeout | .fetcherTimerExpiry
  | .fetchReadCompletion _ | .refreshTimerExpiry _ | .countedEdge _ _ _ | .standstillTimerExpiry _
  | .controlPeriodExpiry | .evaluationCompletion _ | .excursionTimerExpiry _ | .holdTimerExpiry | .lagTimerExpiry _
  | .probeTimerExpiry _ | .deficitTimerExpiry | .pulseTimerExpiry _ | .sandLevelLow _ | .sandLevelHigh _
  | .levelTimerExpiry _ | .supplyLow _ | .supplyGood _ | .chainFrameComplete _ | .chainFramingError
  | .chainIncomplete | .silenceTimerExpiry | .transmitStart | .settleTimerExpiry | .reportTimerExpiry
  | .reportWordCompletion _ | .uncountedPhaseEdge _ _ _ _ | .receivedByte _ => true

end Sys2Proof
end

