-- ==== Sys2Proof/Machine/Interposer.lean ====
section
/-! DEFINITION. The interposer (chapter 2): targets, read holds, the arbiter and its grants, the feedback fetcher, and
the output lines that follow every command. -/

namespace Sys2Proof.Machine

/-! ### Targets (R24) -/

/-- Where a processor-port address falls (R24). -/
inductive Target where
  | page (offset : BitVec 8)
  | window (entry : WindowEntry)
  | outside
  deriving DecidableEq, Repr

/-- The offset of an address from the page base. -/
def State.pageOffset (s : State) (a : Addr) : Nat := (a - s.ctl.pageBase).toNat

/-- The entry's range contains the address; an entry of code 0 is unused and holds no window (R23; log 24). -/
def WindowEntry.contains (e : WindowEntry) (a : Addr) : Bool :=
  e.code != 0 && decide (e.base.toNat ≤ a.toNat) && decide (a.toNat < e.base.toNat + e.length)

/-- The target of an address: the page, then a window while the copy is in force, then outside (R24). -/
def State.target' (s : State) (a : Addr) : Target :=
  if s.pageOffset a < 256 then .page (BitVec.ofNat 8 (s.pageOffset a))
  else if s.inForce then
    match s.ip.copy.toList.find? fun e => e.contains a with
    | some e => .window e
    | none => .outside
  else .outside

/-! ### Read holds (R30, R31, R32, R39) -/

/-- The write-back in flight, unless a RESTART discards it. -/
def Interposer.flying (ip : Interposer) : Option QueueEntry :=
  match ip.inflight with
  | some f => if f.discarding then none else some f.entry
  | none => none

/-- The ids of the entries of a read's pending set that stand at its arrival (R30). -/
def Interposer.pendingIds (ip : Interposer) (a : Addr) : List Nat :=
  ((ip.flying.toList ++ ip.queue).filter fun e => e.addr = a).map (·.id)

/-- The in-flight entry whose flight may still bring in the third member of the pending set (R30). -/
def Interposer.watched (ip : Interposer) (a : Addr) : Option Nat :=
  match ip.flying with
  | some e => if e.addr = a ∧ ¬ (ip.queue.any fun q => q.addr = a) then some e.id else none
  | none => none

/-- The wait of a read that a write-back for its address holds, or else its claim (R30, R39). -/
def Interposer.readWait (ip : Interposer) (a : Addr) : HostWait :=
  match ip.pendingIds a with
  | [] => .claiming
  | ids => .onEntries ids (ip.watched a)

/-- Every entry id still queued or in flight. -/
def Interposer.ids (ip : Interposer) : List Nat :=
  (match ip.inflight with | some f => [f.entry.id] | none => []) ++ ip.queue.map (·.id)

/-- A hold that has ended becomes the pass-through claim (R30 to R32). -/
def HostWait.released (w : HostWait) (ids : List Nat) (writing : Option Nat) : HostWait :=
  match w with
  | .onEntries pending watch => if pending.any fun i => ids.contains i then .onEntries pending watch else .claiming
  | .onRecord r => if writing = some r then .onRecord r else .claiming
  | .untilServed => .untilServed
  | .claiming => .claiming
  | .onPort => .onPort

/-- The held read is checked again (R32, R36). -/
def releaseHolds (s : State) : State :=
  { s with
    ip :=
      { s.ip with
        host := s.ip.host.map fun h => { h with wait := h.wait.released s.ip.ids s.rw.writing } } }

/-! ### The arbiter (R41 to R43) -/

/-- The host's pass-through claim waits. -/
def Interposer.passClaims (ip : Interposer) : Bool := ip.host.any fun h => h.wait = .claiming

/-- A fetch read waits; one on the port has been granted. -/
def State.fetchClaims (s : State) : Bool :=
  s.ip.fetch.isSome && !(s.ip.port.any fun p => p.claimant = .fetcher)

/-- The claimant that the arbiter grants at a free port, if any waits (R42). -/
def State.chosen (s : State) : Option Claimant :=
  let q := !s.ip.queue.isEmpty
  if s.ctl.part = .reset then none
  else if s.ctl.part = .publish then some .publish
  else if q ∧ (4 ≤ s.ip.queue.length ∨ 8 ≤ s.ip.queueWait) then some .queue
  else if s.fetchClaims ∧ 16 ≤ s.ip.fetchWait then some .fetcher
  else if s.ip.passClaims then some .passThrough
  else if q then some .queue
  else if s.fetchClaims then some .fetcher
  else if s.rw.update.isSome then some .report
  else none

/-- The port transaction of a grant now, with its timeout started (R43). -/
def State.portTxn (s : State) (c : Claimant) (addr : Addr) (write : Bool) (lanes : BitVec 4) (data : Word) : PortTxn :=
  { claimant := c, addr := addr, write := write, lanes := lanes, data := data
    deadline := s.now + s.cfg.tun.link.portTimeout }

/-- The window base of a feedback word in the copy (R44). -/
def State.feedbackAddr (s : State) (second : Bool) : Addr :=
  (windowBase s.ip.copy.toList (if second then 11 else 10)).getD 0

/-- The wait counts after a grant (R42). -/
def State.waits (s : State) (c : Claimant) : Nat × Nat :=
  ( if c = .queue ∨ s.ip.queue.isEmpty then 0 else s.ip.queueWait + 1,
    if c = .fetcher then 0 else if s.fetchClaims then s.ip.fetchWait + 1 else s.ip.fetchWait )

/-- The publish writer is granted the port (R172). -/
def grantPublish (s : State) : State :=
  { s with
    ip :=
      { s.ip with
        port := some
          (s.portTxn .publish (s.ctl.pageBase + s.ctl.publishOffset.setWidth 18) true fullLanes
            (defaultWord s.ctl.publishOffset.toNat)) } }

/-- The pass-through claim is granted: the host's transaction with its address, lanes and data (R26). -/
def grantHost (s : State) : State :=
  match s.ip.host with
  | none => s
  | some h =>
    { s with
      ip :=
        { s.ip with
          port := some (s.portTxn .passThrough h.txn.addr h.txn.write h.txn.lanes h.txn.data)
          host := some { h with wait := .onPort }
          queueWait := (s.waits .passThrough).1
          fetchWait := (s.waits .passThrough).2 } }

/-- The queue is granted: its head moves to the in-flight slot (R35). -/
def grantQueue (s : State) : State :=
  match s.ip.queue with
  | [] => s
  | e :: rest =>
    { s with
      ip :=
        { s.ip with
          port := some (s.portTxn .queue e.addr true fullLanes e.word)
          queue := rest
          inflight := some { entry := e, discarding := false }
          queueWait := 0
          fetchWait := (s.waits .queue).2 } }

/-- The fetcher is granted a read of ACH_A or ACH_B (R44). -/
def grantFetch (s : State) : State :=
  match s.ip.fetch with
  | none => s
  | some f =>
    { s with
      ip :=
        { s.ip with
          port := some (s.portTxn .fetcher (s.feedbackAddr f.second) false fullLanes 0)
          queueWait := (s.waits .fetcher).1
          fetchWait := 0 } }

/-- The update with its record's contents taken, if this is the record's first word (R189). -/
def State.taken (s : State) (u : Update) : Update :=
  { u with contents := some (u.contents.getD (s.recordWords u.record)) }

/-- The report writer is granted its next word (R189). -/
def grantReport (s : State) : State :=
  match s.rw.update with
  | none => s
  | some u =>
    { s with
      ip :=
        { s.ip with
          port := some (s.portTxn .report (u.addr s.ctl.pageBase) true fullLanes (s.taken u).current)
          queueWait := (s.waits .report).1
          fetchWait := (s.waits .report).2 }
      rw := { s.rw with update := some (s.taken u) } }

/-- A grant (R41). -/
def grant (c : Claimant) (s : State) : State :=
  match c with
  | .publish => grantPublish s
  | .passThrough => grantHost s
  | .queue => grantQueue s
  | .fetcher => grantFetch s
  | .report => grantReport s

/-- A grant is made whenever the port is free and a claimant waits (R41). -/
def arbitrate (s : State) : State :=
  match s.ip.port, s.chosen with
  | none, some c => grant c s
  | _, _ => s

/-! ### The completions still owed (R43; log 44) -/

/-- A transaction of a claimant ends without the memory's completion, which may still come. -/
def MemoryAnswers.missed (a : MemoryAnswers) (c : Claimant) : MemoryAnswers :=
  { a with unanswered := c :: a.unanswered }

/-- A late completion of a claimant's transaction has come. -/
def MemoryAnswers.late (a : MemoryAnswers) (c : Claimant) : MemoryAnswers :=
  { a with unanswered := a.unanswered.erase c }

/-- The transaction in progress, if there is one, ends without the memory's completion. -/
def MemoryAnswers.dropped (a : MemoryAnswers) (port : Option PortTxn) : MemoryAnswers :=
  match port with
  | some p => a.missed p.claimant
  | none => a

/-! ### The output lines (00_scope, R136, R143, R159, R183, R187) -/

/-- The brake-hold output (R183). -/
def State.holdLine (s : State) : Bool :=
  s.ctl.part == .fallback || s.ctl.part == .standby || s.ctl.part == .waking
    || (s.ctl.part != .reset && s.rep.flag .rollaway)

/-- The output lines as the state forms them; all are deasserted in RESET. -/
def State.formLines (s : State) : Lines :=
  if s.ctl.part = .reset then Lines.reset
  else
    { sand := PerSander.build fun i => s.sanderState i == .pulsing
      track := s.blend.lines
      hold := s.holdLine
      attention := s.rep.attention
      chainOut := match s.chain.sending with | some x => x.level s.now | none => false }

/-- What follows every command: holds that have ended are released, a free port is granted, and the lines follow the
state. All words that the command hands have joined the queue by that grant, which the manual leaves open (log 46). -/
def finish (s : State) : State :=
  let s1 := arbitrate (releaseHolds s)
  { s1 with lines := s1.formLines }

/-! ### The fetcher (R44, R45) -/

/-- The fetcher's timer expires: a fetch begins, or is skipped if the last has not ended (R44). -/
def fetchEnd (s : State) : State :=
  countIf s.ip.fetch.isSome .fetchSkipped
    { s with
      ip :=
        { s.ip with
          fetchTimer := s.timer s.controlPeriod
          fetch :=
            if s.ip.fetch.isSome then s.ip.fetch else some { second := false, achA := none, withdrawn := false }
          fetchWait := if s.ip.fetch.isSome then s.ip.fetchWait else 0 } }

/-- The fetcher's timer is started (R44). -/
def fetchStart (s : State) : State := { s with ip := { s.ip with fetchTimer := s.timer s.controlPeriod } }

/-- The fetcher is stopped: a waiting read is withdrawn, one on the port runs on and delivers nothing (R44). -/
def fetchStop (s : State) : State :=
  { s with
    ip :=
      { s.ip with
        fetchTimer := none
        fetch := if s.fetchClaims then none else s.ip.fetch.map fun f => { f with withdrawn := true }
        fetchWait := if s.fetchClaims then 0 else s.ip.fetchWait } }

/-- The achieved effort of a word read, none when invalid (R45). -/
def achievedBy : MemEnd → Option Int
  | .done w => parseFeedback w
  | .fault => none

/-- A fetch read ends with `r`: an invalid word is counted; after ACH_A the ACH_B read is claimed, after ACH_B the feedback
delivery is made; a withdrawn fetch delivers nothing (R44, R45; log 19). -/
def fetchRead (r : MemEnd) (s : State) : State :=
  let s1 := countIf (achievedBy r).isNone .feedbackRejected { s with ip := { s.ip with port := none } }
  match s.ip.fetch with
  | none => s1
  | some f =>
    if f.withdrawn then { s1 with ip := { s1.ip with fetch := none } }
    else if f.second then
      feedbackDelivery ⟨f.achA, achievedBy r⟩ { s1 with ip := { s1.ip with fetch := none } }
    else
      { s1 with
        ip :=
          { s1.ip with
            fetch := some { second := true, achA := achievedBy r, withdrawn := false }, fetchWait := 0 } }

end Sys2Proof.Machine
end

