-- ==== Sys2Proof/Machine/Controller.lean ====
section
/-! DEFINITION. The state controller (chapter 10): validation, fallback, the commands of the run word, wakes, start-up
and resets. -/

namespace Sys2Proof.Machine

/-! ### Validation (R176) -/

/-- A validation fault at a place. -/
def faultAt (f : SetupFault) (place : Nat) : Option Validation := some { fault := f, place := place }

/-- The last address of a window entry, which may lie above the address space. -/
def WindowEntry.last (e : WindowEntry) : Nat := e.base.toNat + e.length - 1

/-- Two ranges of addresses meet. -/
def meets (lo₁ hi₁ lo₂ hi₂ : Nat) : Bool := lo₁ ≤ hi₂ && lo₂ ≤ hi₁

/-- The length suits the code: 1 for a role window, 64 or more for REPORT (R23, R176). A length field of 0 is length 1024
and so passes for REPORT and GUARD (R192); for a role window R176's test makes it BAD_LENGTH as any length but 1 (log 43). -/
def WindowEntry.lengthFits (e : WindowEntry) : Bool :=
  if e.code.toNat ≤ 11 then e.length = 1 else if e.code = 12 then 64 ≤ e.length else true

/-- The role stands in an earlier entry, or a GUARD entry is the fifth (R176). -/
def WindowEntry.again (e : WindowEntry) (earlier : List WindowEntry) : Bool :=
  if e.code.toNat ≤ 12 then earlier.any fun x => x.code = e.code
  else decide (4 ≤ (earlier.filter fun x => x.code = 13).length)

/-- The tests of one window entry that is used, against the used entries before it, in R176's order. -/
def WindowEntry.fault (e : WindowEntry) (pageBase : Nat) (earlier : List WindowEntry) : Option SetupFault :=
  if 14 ≤ e.code.toNat then some .badCode
  else if !e.lengthFits then some .badLength
  else if 262143 < e.last then some .range
  else if meets e.base.toNat e.last pageBase (pageBase + 255) then some .configOverlap
  else if earlier.any fun x => meets e.base.toNat e.last x.base.toNat x.last then some .overlap
  else if e.again earlier then some .roleTwice
  else none

/-- The window entries in index order; an entry of code 0 is skipped (R176). -/
def validateWindows (pageBase : Nat) : Nat → List WindowEntry → List WindowEntry → Option Validation
  | _, _, [] => none
  | i, earlier, e :: rest =>
    if e.code = 0 then validateWindows pageBase (i + 1) earlier rest
    else
      match e.fault pageBase earlier with
      | some f => faultAt f i
      | none => validateWindows pageBase (i + 1) (earlier ++ [e]) rest

/-- The lowest of the twelve role codes that stands in no entry (R176). -/
def validateRoles (ws : List WindowEntry) : Option Validation :=
  match ((List.range 12).map (· + 1)).find? fun c => !(ws.any fun e => e.code.toNat = c) with
  | some c => faultAt .roleMissing c
  | none => none

/-- The first place of the allocation list that repeats a source or names none; places count from 1 (R176). -/
def validateList : Nat → List Source → List (BitVec 3) → Option Validation
  | _, _, [] => none
  | place, seen, c :: rest =>
    match Source.ofCode c with
    | none => faultAt .allocList place
    | some x => if seen.contains x then faultAt .allocList place else validateList (place + 1) (seen ++ [x]) rest

/-- The first enabled axle channel with an item out of range; channels count from 0 (R176). -/
def validateChannels (x : PerAxle ChannelItems) : Option Validation :=
  match x.toList.findIdx? fun t => t.enabled && !t.inRange with
  | some i => faultAt .channelParam i
  | none => none

/-- A value lies in a range. -/
def within (lo hi v : Nat) : Bool := lo ≤ v && v ≤ hi

/-- The items of the bogie and chain section in page order, each with its page offset as place; of the chain word the
chain-forward direction first (R103, R110, R158, R176; log 37). -/
def validateSection (c : StructureConfig) : Option Validation :=
  if !within 1000 30000 c.nominal.a then faultAt .range 0x16
  else if !within 1000 30000 c.nominal.b then faultAt .range 0x17
  else if !within 100 3000 c.spacingAT then faultAt .range 0x19
  else if !within 200 6000 c.spacingAB ∨ c.spacingAB ≤ c.spacingAT then faultAt .range 0x1A
  else if !within 0 10000 c.chainOffset then faultAt .range 0x1B
  else if c.chainForward = 0 ∨ c.chainForward = 3 then faultAt .range 0x1D
  else if 3 < c.position then faultAt .positionRange 0x1D
  else none

/-- Validation of the structure configuration: the first fault in R176's order. -/
def validate (c : StructureConfig) (pageBase : Addr) : Option Validation :=
  (validateWindows pageBase.toNat 0 [] c.windows.toList).or
    ((validateRoles c.windows.toList).or
      ((validateList 1 [] c.allocation.toList).or
        ((validateChannels c.channels).or (validateSection c))))

/-! ### Fallback (R177) -/

/-- A cause joins the fallback cause set. -/
def CauseSet.join (x : CauseSet) : FallbackCause → CauseSet
  | .modeStale => { x with modeStale := true }
  | .referenceLost => { x with referenceLost := true }
  | .memoryFault => { x with memoryFault := true }
  | .rollaway => { x with rollaway := true }

/-- The controller's fields are changed. -/
def withCtl (f : Controller → Controller) (s : State) : State := { s with ctl := f s.ctl }

/-- The words of a change between ACTIVE and FALLBACK: a claim on both motor bogies and the MODE word, and then the
allocator's run with the BRAKE and output words (R11, R15, R20, R138; log 21). -/
def rewords (returning : Bool) (s : State) : State := run false returning (handMode (claimBoth false s))

/-- Entry to FALLBACK: FALLBACK is raised and every block acts (R20, R138, R177). -/
def enterFallback (s : State) : State :=
  rewords false (allocatorFallback (raise .fallback (withCtl (fun c => { c with part := .fallback }) s)))

/-- A fallback cause is delivered to the state controller (R177). -/
def deliverCause (x : FallbackCause) (s : State) : State :=
  match s.ctl.part with
  | .active => enterFallback (withCtl (fun c => { c with causes := c.causes.join x }) s)
  | .fallback => withCtl (fun c => { c with causes := c.causes.join x }) s
  | .standby | .waking =>
    withCtl (fun c => { c with fallbackPending := c.fallbackPending || x == .memoryFault }) s
  | .reset | .publish | .setup => s

/-! ### GO_ACTIVE (R175, R178) -/

/-- The configuration's window table is copied (R23). -/
def copyWindows (s : State) : State := { s with ip := { s.ip with copy := s.cfg.str.windows } }

/-- In ACTIVE with the source LOST, REFERENCE_LOST is raised again and delivered (R77). -/
def reportLost (s : State) : State :=
  if s.ref.source = .lost then deliverCause .referenceLost (raise .referenceLost s) else s

/-- Entry to ACTIVE from SETUP: every block's entry actions, the initial sweep, the allocator's first run, and then a
lost reference's fallback cause (R19, R23, R77, R155, R169, R175; log 22). -/
def enterActive (s : State) : State :=
  let s1 := withCtl (fun c => { c with part := .active, causes := {}, validation := none }) s
  let s2 := referenceModeTaken .neutral (prepareRecords (copyWindows s1))
  let s3 := restartHold (sandEnterActive (fetchStart (chainEnterActive (allocatorEnterActive s2))))
  reportLost (run false false (initialSweep (startRefresh s3)))

/-- The command result of the last command taken (R174). -/
def result (value : BitVec 8) (x : CommandOutcome) (s : State) : State :=
  withCtl (fun c => { c with commandValue := value, outcome := x }) s

/-- A command is declined: COMMAND_REFUSED is raised, no state changes (R174). -/
def decline (value : BitVec 8) (x : CommandOutcome) (s : State) : State := raise .commandRefused (result value x s)

/-- GO_ACTIVE taken in SETUP (R175). -/
def goActiveSetup (s : State) : State :=
  if !s.ip.queue.isEmpty || s.ip.inflight.isSome then decline 1 .notReady s
  else
    match validate s.cfg.str s.ctl.pageBase with
    | some v => decline 1 .setupInvalid (withCtl (fun c => { c with validation := some v }) s)
    | none => enterActive (result 1 .accepted s)

/-- The conditions of a return to ACTIVE (R178). -/
def State.mayReturn (s : State) : Bool :=
  s.intent.mode.fresh != .stale && s.ref.source != .lost && !s.rep.flag .memoryFault && !s.rep.flag .rollaway

/-- GO_ACTIVE taken in FALLBACK (R178). -/
def goActiveFallback (s : State) : State :=
  if s.mayReturn then rewords true (withCtl (fun c => { c with part := .active, causes := {} }) (result 1 .accepted s))
  else decline 1 .notReady s

/-- GO_ACTIVE taken (R175, R178). -/
def takeGoActive (s : State) : State :=
  match s.ctl.part with
  | .setup => goActiveSetup s
  | .fallback => goActiveFallback s
  | _ => decline 1 .wrongState s

/-! ### GO_SETUP (R179) -/

/-- Entry to SETUP by GO_SETUP, block by block (R21, R39, R44, R82, R101, R115, R139, R155, R169, R179). -/
def enterSetupByCommand (s : State) : State :=
  let s1 := withCtl (fun c => { c with part := .setup, causes := {}, fallbackPending := false }) s
  chainGoSetup (sandGoSetup (allocatorStop (emptyNotices (slipGoSetup (fetchStop (cancelRefresh s1))))))

/-- GO_SETUP taken (R179). -/
def takeGoSetup (s : State) : State :=
  if s.ctl.part = .active then
    if s.intent.accepted.regime = .hold ∧ s.ref.magnitude = 0 then enterSetupByCommand (result 2 .accepted s)
    else decline 2 .notReady s
  else decline 2 .wrongState s

/-! ### RESTART (R180) -/

/-- The interposer at RESTART: queued entries are discarded, a write in flight is left to finish, wait counts are 0 (R40,
R46). -/
def queueDiscard (s : State) : State :=
  { s with
    ip :=
      { s.ip with
        queue := []
        inflight := s.ip.inflight.map fun f => { f with discarding := true }
        queueWait := 0
        fetchWait := 0 } }

/-- RESTART taken: the RESTART column of every block's reset table (R22, R40, R46, R64, R78, R102, R119, R140, R157, R170,
R180, R184, R190). -/
def takeRestart (s : State) : State :=
  let s1 := withCtl
    (fun c =>
      { c with
        part := .setup, restartCause := .command, causes := {}, fallbackPending := false, previous := none
        movementMark := false, settle := none })
    (result 3 .accepted s)
  let s2 := axleRestart (intentRestart (queueDiscard (fetchStop s1)))
  let s3 := allocatorRestart (ceilingRestart (slipRestart (referenceRestart s2)))
  reportRestart (chainRestart (sandRestart s3))

/-! ### STANDBY and wakes (R181, R182) -/

/-- No usable channel moves: every usable one is STILL (R181). -/
def State.allStill (s : State) : Bool := !(s.axle.channels.toList.any fun c => c.state = .valid)

/-- The conditions of STANDBY: the reference magnitude is 0, every usable channel STILL, and in ACTIVE the regime HOLD
(R181). -/
def State.mayStandby (s : State) : Bool :=
  decide (s.ref.magnitude = 0) && s.allStill && (s.ctl.part == .setup || s.intent.accepted.regime == .hold)

/-- Entry to STANDBY, block by block (R21, R44, R62, R77, R101, R139, R155, R169, R181, R190). -/
def enterStandby (previous : Previous) (s : State) : State :=
  let s1 := withCtl (fun c => { c with part := .standby, previous := some previous }) s
  let s2 := referenceStandby (axleStandby (fetchStop (cancelRefresh s1)))
  reportStandby (chainStandby (sandStandby (allocatorStop (slipStandby s2))))

/-- STANDBY taken (R181). -/
def takeStandby (s : State) : State :=
  match s.ctl.part with
  | .setup => if s.mayStandby then enterStandby .setup (result 4 .accepted s) else decline 4 .notReady s
  | .active => if s.mayStandby then enterStandby .active (result 4 .accepted s) else decline 4 .notReady s
  | _ => decline 4 .wrongState s

/-- A command is judged by the low byte of the run word taken (R174). -/
def takeCommand (w : Word) (s : State) : State :=
  let v := w.extractLsb' 0 8
  match v.toNat with
  | 1 => takeGoActive s
  | 2 => takeGoSetup s
  | 3 => takeRestart s
  | 4 => takeStandby s
  | _ => decline v .badValue s

/-- A wake in STANDBY starts the settle timer and moves the part to WAKING (R182). -/
def startWaking (s : State) : State :=
  if s.ctl.part = .standby then
    withCtl (fun c => { c with part := .waking, settle := s.timer Config.settleLength }) s
  else s

/-- A movement wake: ROLLAWAY is raised and the movement mark set (R62, R182). -/
def movementWake (s : State) : State :=
  startWaking (withCtl (fun c => { c with movementMark := true }) (raise .rollaway s))

/-- The state entered when WAKING ends, by the movement mark and the previous state (R177, R182). -/
def Controller.wakeTo (c : Controller) : PartState :=
  match c.previous with
  | some .active => if c.movementMark || c.fallbackPending then .fallback else .active
  | some .setup | none => .setup

/-- The controller at the end of WAKING (R177, R182). -/
def Controller.woken (c : Controller) : Controller :=
  let served := c.previous = some .active
  { c with
    part := c.wakeTo, settle := none, movementMark := false, fallbackPending := false
    causes :=
      { c.causes with
        memoryFault := c.causes.memoryFault || (served && c.fallbackPending)
        rollaway := c.causes.rollaway || (served && c.movementMark) } }

/-- The blocks at a wake that leads to ACTIVE or FALLBACK; entry to FALLBACK raises FALLBACK, and one allocator run is
made (R20, R21, R44, R138, R139, R166, R169; log 23). -/
def wakeServing (s : State) : State :=
  let s1 := chainWake true (fetchStart (startRefresh s))
  if s.ctl.part = .fallback then rewords false (allocatorFallback (raise .fallback s1)) else run false false s1

/-- The blocks at a wake that leads to SETUP (R115, R155, R169). -/
def wakeSetup (s : State) : State := chainWake false (sandGoSetup (emptyNotices s))

/-- WAKING ends: the part enters the state that the mark and the previous state fix, and every block acts; a held host
transaction is decoded after this (R63, R77, R79, R101, R182, R190). -/
def endWaking (s : State) : State :=
  let s1 := restartHold (slipWake (axleWake (withCtl Controller.woken s)))
  reportStart (if s1.inForce then wakeServing s1 else wakeSetup s1)

/-! ### Resets and start-up (R171, R172) -/

/-- Entry to RESET: every operation in progress is dropped and every block takes its power-on values (R171; log 1). The
time base, the input lines and the model's own fields are kept; a transaction dropped may still be answered (log 44). -/
def resetPart (x : RestartCause) (s : State) : State :=
  { State.reset with
    now := s.now, pins := s.pins, memory := s.memory.dropped s.ip.port, draws := s.draws, pending := s.pending
    ctl := { Controller.reset with resetBy := x } }

/-- The page base of a strap code (R171). -/
def pageBaseOf (straps : BitVec 2) : Addr :=
  match straps.toNat with
  | 0 => 0x3FF00 | 1 => 0x1FF00 | 2 => 0x0FF00 | _ => 0x00000

/-- Reset ends: the page base is latched, the restart cause set, every configuration item at its default, and the part
enters PUBLISH (R171). -/
def startUp (straps : BitVec 2) (s : State) : State :=
  if s.ctl.part = .reset then
    { s with
      pins := { s.pins with straps := straps, resetLine := false }
      ctl :=
        { s.ctl with
          part := .publish, pageBase := pageBaseOf straps, restartCause := s.ctl.resetBy, publishOffset := 0
          publishAttempts := 0 }
      cfg := { str := StructureConfig.default, tun := TuningConfig.default } }
  else s

/-- Entry to SETUP from PUBLISH: the channels settle, the control-period and report timers start and an update falls due,
the chain receiver hunts (R64, R79, R169, R189; log 13). -/
def enterSetup (s : State) : State :=
  let s1 := withCtl (fun c => { c with part := .setup }) s
  let s2 : State :=
    { s1 with chain := { s1.chain with receiving := none, bits := { level := s1.pins.chainIn, char := none } } }
  reportStart (restartPeriod (axleSetupEntry s2))

/-- A write of the default image has ended: done, tried again up to three attempts, or skipped with MEMORY_FAULT; true
beside the state when offset 0xFF has ended (R172). -/
def publishEnd (ok : Bool) (s : State) : State :=
  let freed : State := { s with ip := { s.ip with port := none } }
  let skipped := !ok && decide (3 ≤ s.ctl.publishAttempts + 1)
  let s1 := raiseIf skipped .memoryFault freed
  if ok || skipped then
    if s.ctl.publishOffset = 0xFF then enterSetup s1
    else
      withCtl (fun c => { c with publishOffset := c.publishOffset + 1, publishAttempts := 0 }) s1
  else withCtl (fun c => { c with publishAttempts := c.publishAttempts + 1 }) s1

end Sys2Proof.Machine
end

