-- ==== Sys2Proof/Machine/HostPort.lean ====
section
/-! DEFINITION. The processor port (R24 to R32) and the configuration page (R173, R174): what becomes of a host
transaction, and what a page write that memory has accepted does. -/

namespace Sys2Proof.Machine

/-! ### Completions to the host -/

/-- The host transaction completes with a reply. -/
def reply (ok : Bool) (data : Word) (s : State) : State :=
  { s with ip := { s.ip with host := none, reply := some { ok := ok, data := data } } }

/-- The host transaction is refused: it completes FAULT and raises a cause (R27, R28, R29). -/
def refuse (c : Cause) (s : State) : State := reply false 0 (raise c s)

/-- The host transaction stands at the processor port with a wait. -/
def occupy (t : HostTxn) (w : HostWait) (page : Option (BitVec 8)) (s : State) : State :=
  { s with ip := { s.ip with host := some { txn := t, wait := w, page := page } } }

/-! ### Intent writes (R4, R5, R6) -/

/-- The five deliveries of a MODE taken event, in the order of R6; `before` is the direction before it. The intent table's
own is the claim on both bogies and then the MODE word, which the manual leaves open (log 45). -/
def modeDeliveries (before : Direction) : List (State → State) :=
  [ fun s => handMode (claimBoth false s), run false false, sandModeTaken, referenceModeTaken before,
    ceilingModeTaken before ]

/-- Deliveries made one after the other. -/
def deliver (l : List (State → State)) (s : State) : State := l.foldl (fun s f => f s) s

/-- A MODE taken event is delivered to its five blocks, in the order that `order` names (R6; log 10). -/
def modeTaken (order : Fin 120) (before : Direction) (s : State) : State :=
  deliver (permuted order.val (modeDeliveries before)) s

/-- A full write to a TRACTION or BRAKE window is taken; it is then a claim on that bogie, or an allocator run (R4). -/
def effortWrite (r : EffortRole) (w : Word) (s : State) : State :=
  let s1 := takeEffort r w s
  reply true 0
    (match r with
     | .tractionA => claim false .a s1
     | .tractionB => claim false .b s1
     | .brake => runServing s1)

/-- A full write to the MODE window: refused with INTENT_INVALID for an invalid regime or direction code, taken otherwise
(R5). -/
def modeWrite (w : Word) (order : Fin 120) (s : State) : State :=
  match parseMode w with
  | none => refuse .intentInvalid s
  | some (m, clipped, adjusted) =>
    reply true 0 (modeTaken order s.intent.accepted.direction (takeMode m clipped adjusted s))

/-- The effort channel of an intent window's code (R23). -/
def effortOfCode (c : BitVec 4) : Option EffortRole :=
  match c.toNat with
  | 1 => some .tractionA | 2 => some .tractionB | 3 => some .brake | _ => none

/-- A full write to an INTENT window, by the window's role (R27). -/
def intentWrite (code : BitVec 4) (t : HostTxn) (s : State) : State :=
  match effortOfCode code with
  | some r => effortWrite r t.data s
  | none => modeWrite t.data t.order s

/-! ### Configuration page: judging (R173) -/

/-- How a page write is judged: to be taken, or refused with a cause (R173). -/
def State.judgePage (s : State) (off : Nat) (t : HostTxn) : Option Cause :=
  if t.lanes ≠ fullLanes then some .partialWrite
  else if off < 0x30 then (if s.ctl.part = .setup then none else some .configCollision)
  else if 0x40 ≤ off ∧ off < 0xA0 then (if tuningInRange off t.data then none else some .guardedWrite)
  else if off = 0xC0 ∨ off = 0xC1 ∨ off = 0xC2 then none
  else some .guardedWrite

/-- A page write: refused, or forwarded to memory to be taken when memory completes it DONE (R29). -/
def pageWrite (off : BitVec 8) (t : HostTxn) (s : State) : State :=
  match s.judgePage off.toNat t with
  | some c => refuse c s
  | none => occupy t .claiming (some off) s

/-! ### Decoding (R24 to R28) -/

/-- A write to a window (R26 to R28): INTENT takes a full one, FEEDBACK forwards, OUTPUT, REPORT and GUARD refuse. -/
def windowWrite (e : WindowEntry) (t : HostTxn) (s : State) : State :=
  let code := e.code.toNat
  if code ≤ 4 then (if t.lanes = fullLanes then intentWrite e.code t s else refuse .partialWrite s)
  else if code = 10 ∨ code = 11 then occupy t .claiming none s
  else refuse .guardedWrite s

/-- The wait of a read of a window (R30, R31). -/
def State.windowReadWait (s : State) (e : WindowEntry) (a : Addr) : HostWait :=
  let code := e.code.toNat
  if code ≤ 9 then s.ip.readWait a
  else if code = 12 then
    let off := a.toNat - e.base.toNat
    if off < 64 ∧ s.rw.writing = some (recordOf off) then .onRecord (recordOf off) else .claiming
  else .claiming

/-- The transaction is decoded in a served state (R25, R26). -/
def decodeTxn (t : HostTxn) (s : State) : State :=
  match s.target' t.addr with
  | .page off => if t.write then pageWrite off t s else occupy t .claiming none s
  | .window e => if t.write then windowWrite e t s else occupy t (s.windowReadWait e t.addr) none s
  | .outside =>
    if !t.write && s.ctl.part == .setup then occupy t (s.ip.readWait t.addr) none s
    else occupy t .claiming none s

/-- A transaction arrives at the processor port (R25). In RESET the port does not respond; with a transaction
outstanding the bus allows no other (log 8). -/
def hostArrive (t : HostTxn) (s : State) : State :=
  if s.ip.host.isSome then s
  else
    match s.ctl.part with
    | .reset => s
    | .publish | .waking => occupy t .untilServed none s
    | .standby => startWaking (occupy t .untilServed none s)
    | .setup | .active | .fallback => decodeTxn t s

/-- A transaction held until the part is in a served state is decoded (R25, R182). -/
def serveHeld (s : State) : State :=
  match s.ip.host with
  | some h =>
    if h.wait = .untilServed then decodeTxn h.txn { s with ip := { s.ip with host := none } } else s
  | none => s

/-! ### Configuration page: taking (R174) -/

/-- A structure word is taken: its items are replaced, and an axle channel's word acts on its channel (R60, R174). -/
def takeStructure (off : Nat) (w : Word) (s : State) : State :=
  let s1 : State := { s with cfg := { s.cfg with str := s.cfg.str.setWord off w } }
  match Axle.ofOffset off with
  | some i => channelWritten i s1
  | none => s1

/-- The effort channel whose limits stand at an offset. -/
def limitsAt (off : Nat) : Option EffortRole :=
  match off with
  | 0x40 => some .tractionA | 0x41 => some .tractionB | 0x42 => some .brake | _ => none

/-- The effort channel whose refresh settings stand at an offset. -/
def refreshAt (off : Nat) : Option EffortRole :=
  match off with
  | 0x44 => some .tractionA | 0x45 => some .tractionB | 0x46 => some .brake | _ => none

/-- Changed limits act on a channel outside SETUP: the stored intent is clipped; then a traction channel's change is a
claim, and a changed brake intent an allocator run (R9; log 29). -/
def limitsChanged (r : EffortRole) (s : State) : State :=
  let s1 := clipStored r s
  match r with
  | .tractionA => claim false .a s1
  | .tractionB => claim false .b s1
  | .brake => if s1.intent.channels.brake.intent = s.intent.channels.brake.intent then s1 else runServing s1

/-- What the owning block does at the taking of a tuning word; `old` is the tuning before it (R9, R98, R108, R154). In
SETUP a channel's settings change alone. -/
def tuningActs (off : Nat) (old : TuningConfig) (s : State) : State :=
  match limitsAt off, refreshAt off, SanderId.ofOffset off with
  | some r, _, _ =>
    if s.inForce ∧ s.cfg.tun.intent.limits.get r ≠ old.intent.limits.get r then limitsChanged r s else s
  | none, some r, _ => if s.inForce then changeRefresh r (old.intent.refresh.get r) s else s
  | none, none, some i => sanderTuned i (old.sanders.get i) s
  | none, none, none => if off = 0x59 then floorWritten s else if off = 0x5D then ceilingFloorWritten s else s

/-- A tuning word is taken (R174). -/
def takeTuning (off : Nat) (w : Word) (s : State) : State :=
  tuningActs off s.cfg.tun { s with cfg := { s.cfg with tun := s.cfg.tun.setWord off w } }

/-- The cause-clear word is taken (R186). -/
def causeClear (w : Word) (s : State) : State := { s with rep := s.rep.clear w }

/-- The attention mask is taken (R187). -/
def setMask (w : Word) (s : State) : State := { s with rep := { s.rep with mask := w.setWidth 22 } }

/-- A page write that memory has accepted is taken (R174). -/
def takePage (off : BitVec 8) (w : Word) (s : State) : State :=
  let o := off.toNat
  if o = 0xC0 then takeCommand w s
  else if o = 0xC1 then causeClear w s
  else if o = 0xC2 then setMask w s
  else if o < 0x30 then takeStructure o w s
  else takeTuning o w s

end Sys2Proof.Machine
end

