-- ==== Sys2Proof/Machine/Completion.lean ====
section
/-! DEFINITION. How memory-port transactions end (R36 to R40, R43): for the host, the write-back queue, the fetcher, the
report writer and the publish writer, by completion or by timeout. -/

namespace Sys2Proof.Machine

/-- The port is free. -/
def freePort (s : State) : State := { s with ip := { s.ip with port := none } }

/-- Whether a claimant's transaction is on the port. -/
def State.onPort (s : State) (c : Claimant) : Bool := s.ip.port.any fun p => p.claimant = c

/-! ### Whose a completion is (R43; logs 7 and 44) -/

/-- A completion of a claimant's transaction can still come for one that has ended without it. -/
def State.owed (s : State) (c : Claimant) : Bool := s.memory.unanswered.contains c

/-- A claimant's transaction is in progress, and a completion of the claimant can be no other's. -/
def State.awaits (s : State) (c : Claimant) : Bool := s.onPort c && !s.owed c

/-- The state with a free value drawn for the completion. -/
def State.answerDrawn (s : State) : State := { s with memory := { s.memory with drawn := s.memory.drawn + 1 } }

/-- A late completion is ignored. -/
def State.lateAnswer (s : State) (c : Claimant) : State := { s with memory := s.memory.late c }

/-- A completion of a claimant's transaction, with its effect on the transaction that the row is about: it acts while
that transaction is in progress (`ours`); where one that has ended without its completion is owed it too, a free value
says which of the two the memory has completed (R43). -/
def completion (c : Claimant) (ours : Bool) (effect : State → State) (s : State) : State :=
  if s.owed c then
    if ours && !Config.answersLate s.memory.drawn then effect s.answerDrawn
    else if ours then s.answerDrawn.lateAnswer c
    else s.lateAnswer c
  else if ours then effect s
  else s

/-! ### Pass-through (R26, R29) -/

/-- The read data of a completion, for a read. -/
def readData (t : HostTxn) (d : Word) : Word := if t.write then 0 else d

/-- A pass-through transaction ends: as memory gives it to the host, FAULT counted; a page write completed DONE is
taken (R26, R29, R174). -/
def passEnd (r : MemEnd) (s : State) : State :=
  match s.ip.host with
  | none => freePort s
  | some h =>
    match r with
    | .fault => count .forwardFault (reply false 0 (freePort s))
    | .done d =>
      let s1 := reply true (readData h.txn d) (freePort s)
      match h.page with
      | some off => takePage off h.txn.data s1
      | none => s1

/-! ### Write-backs (R36 to R40) -/

/-- A watched flight has ended, so no third member joins a held read's pending set any more (R30). -/
def HostWait.unwatched : HostWait → HostWait
  | .onEntries ids _ => .onEntries ids none
  | .untilServed => .untilServed
  | .onRecord r => .onRecord r
  | .claiming => .claiming
  | .onPort => .onPort

/-- The in-flight slot empties and the port is free (R35). -/
def landFlight (s : State) : State :=
  { s with
    ip :=
      { s.ip with
        port := none, inflight := none
        host := s.ip.host.map fun h => { h with wait := h.wait.unwatched } } }

/-- The in-flight write completes DONE: the entry is gone (R36). -/
def writebackDone (s : State) : State := landFlight s

/-- An entry is abandoned: the role is kept, the abandonment counted, the role's last handed word is none again, and
MEMORY_FAULT is raised and delivered (R38). -/
def abandonEntry (e : QueueEntry) (s : State) : State :=
  let s1 : State :=
    { s with
      ip := { s.ip with lastAbandoned := some e.origin }
      intent := { s.intent with handed := s.intent.handed.set e.origin none } }
  deliverCause .memoryFault (raise .memoryFault (count .writebackAbandoned s1))

/-- A failed entry returns to the head of the queue, with the queue's wait count started again (R37, R42). -/
def returnEntry (e : QueueEntry) (s : State) : State :=
  count .writebackRetry { s with ip := { s.ip with queue := e :: s.ip.queue, queueWait := 0 } }

/-- The in-flight write has failed: abandoned at the third attempt, dropped as superseded if a newer word is queued,
else returned to the head; after a RESTART it is dropped and nothing counted (R37, R38, R40). -/
def writebackFailed (s : State) : State :=
  match s.ip.inflight with
  | none => freePort s
  | some f =>
    let s1 := landFlight s
    let e : QueueEntry := { f.entry with attempts := f.entry.attempts + 1 }
    if f.discarding then s1
    else if 3 ≤ e.attempts then abandonEntry e s1
    else if s.ip.queue.any fun q => q.addr = e.addr then count .writebackSuperseded s1
    else returnEntry e s1

/-! ### Report words (R189) -/

/-- A report word's write ends; a failed one is counted and not retried (R189). -/
def reportWordEnd (ok : Bool) (s : State) : State := reportAdvance (countIf (!ok) .reportWordFailed (freePort s))

/-! ### Start-up (R172) -/

/-- A default-image write ends; after offset 0xFF the part is in SETUP and a held transaction is decoded (R25, R172). -/
def publishWordEnd (ok : Bool) (s : State) : State :=
  let s1 := publishEnd ok s
  if s1.ctl.part = .setup then serveHeld s1 else s1

/-- Whether a completion is DONE. -/
def isDone : MemEnd → Bool
  | .done _ => true
  | .fault => false

/-! ### Timeout (R43) -/

/-- The transaction on the port times out: its claimant is told as for FAULT (R43). -/
def portTimeout (s : State) : State :=
  match s.ip.port with
  | none => s
  | some p =>
    let s1 : State := { s with now := max s.now p.deadline, memory := s.memory.missed p.claimant }
    match p.claimant with
    | .publish => publishWordEnd false s1
    | .passThrough => passEnd .fault s1
    | .queue => writebackFailed s1
    | .fetcher => fetchRead .fault s1
    | .report => reportWordEnd false s1

end Sys2Proof.Machine
end

