-- ==== Sys2Proof/Machine/HostRows.lean ====
section
/-! DEFINITION. The meanings of the host-transaction commands (R4, R5, R25 to R31, R173, R182). Each row says what its
transaction is; one decoder decides what becomes of it (log 6). -/

namespace Sys2Proof.Machine

/-- A full write. -/
def fullWrite (addr : Addr) (data : Word) (order : Fin 120) : HostTxn :=
  { addr := addr, write := true, lanes := fullLanes, data := data, order := order }

/-- A write with lane strobes. -/
def laneWrite (addr : Addr) (data : Word) (lanes : BitVec 4) : HostTxn :=
  { addr := addr, write := true, lanes := lanes, data := data, order := 0 }

/-- A read. -/
def hostReadTxn (addr : Addr) (lanes : BitVec 4) : HostTxn :=
  { addr := addr, write := false, lanes := lanes, data := 0, order := 0 }

/-- TRACTION_OR_BRAKE_WRITE (R4). -/
def execTractionOrBrakeWrite (addr : Addr) (data : Word) (s : State) : Host.Outcome State Fault Refusal :=
  .next (finish (hostArrive (fullWrite addr data 0) s))

/-- MODE_WRITE (R5). -/
def execModeWrite (addr : Addr) (data : Word) (order : Fin 120) (s : State) : Host.Outcome State Fault Refusal :=
  .next (finish (hostArrive (fullWrite addr data order) s))

/-- PARTIAL_WRITE_REFUSED (R27). -/
def execPartialWriteRefused (addr : Addr) (data : Word) (lanes : BitVec 4) (s : State) :
    Host.Outcome State Fault Refusal :=
  .next (finish (hostArrive (laneWrite addr data lanes) s))

/-- GUARDED_WRITE_REFUSED (R28). -/
def execGuardedWriteRefused (addr : Addr) (data : Word) (lanes : BitVec 4) (s : State) :
    Host.Outcome State Fault Refusal :=
  .next (finish (hostArrive (laneWrite addr data lanes) s))

/-- HOST_TRANSACTION_FORWARDED (R26). -/
def execHostTransactionForwarded (t : HostTxn) (s : State) : Host.Outcome State Fault Refusal :=
  .next (finish (hostArrive t s))

/-- HOST_READ (R30, R31). -/
def execHostRead (addr : Addr) (lanes : BitVec 4) (s : State) : Host.Outcome State Fault Refusal :=
  .next (finish (hostArrive (hostReadTxn addr lanes) s))

/-- HOST_TRANSACTION_HELD (R25). -/
def execHostTransactionHeld (t : HostTxn) (s : State) : Host.Outcome State Fault Refusal :=
  .next (finish (hostArrive t s))

/-- BUS_WAKE (R182). -/
def execBusWake (t : HostTxn) (s : State) : Host.Outcome State Fault Refusal := .next (finish (hostArrive t s))

/-- CONFIG_PAGE_WRITE, at an offset from the page base (R173). -/
def execConfigPageWrite (offset : BitVec 8) (data : Word) (lanes : BitVec 4) (s : State) :
    Host.Outcome State Fault Refusal :=
  .next (finish (hostArrive (laneWrite (s.ctl.pageBase + offset.setWidth 18) data lanes) s))

end Sys2Proof.Machine
end

