-- ==== Sys2Proof/Machine/MemoryRows.lean ====
section
/-! DEFINITION. The meanings of the commands by which memory-port transactions end (R26, R36, R37, R43, R45, R174,
R189). A completion whose transaction is not on the port is ignored, and so is a late one (R43; logs 7 and 44). -/

namespace Sys2Proof.Machine

/-- The page write on the port, by its offset and word, is one that the row names. -/
def State.pageOnPort (s : State) (p : Nat → Word → Bool) : Bool :=
  s.onPort .passThrough
    && s.ip.host.any fun h => match h.page with | some off => p off.toNat h.txn.data | none => false

/-- A page write on the port that the row names is completed DONE and taken (R29, R174). -/
def takenOnPort (p : Nat → Word → Bool) (s : State) : State :=
  completion .passThrough (s.pageOnPort p) (passEnd (.done 0)) s

/-- The run word with a command value in its low byte. -/
def runWord (p : Nat → Bool) (off : Nat) (w : Word) : Bool := off = 0xC0 && p (bits w 0 8)

/-- FORWARDED_COMPLETION (R26). -/
def execForwardedCompletion (r : MemEnd) (s : State) : Host.Outcome State Fault Refusal :=
  .next (finish (completion .passThrough (s.onPort .passThrough) (passEnd r) s))

/-- CONFIG_WRITE_TAKEN: a page write at any offset (R174). -/
def execConfigWriteTaken (s : State) : Host.Outcome State Fault Refusal :=
  .next (finish (takenOnPort (fun _ _ => true) s))

/-- GO_ACTIVE (R175, R178). -/
def execGoActive (s : State) : Host.Outcome State Fault Refusal :=
  .next (finish (takenOnPort (runWord (· = 1)) s))

/-- GO_SETUP (R179). -/
def execGoSetup (s : State) : Host.Outcome State Fault Refusal :=
  .next (finish (takenOnPort (runWord (· = 2)) s))

/-- RESTART (R180). -/
def execRestart (s : State) : Host.Outcome State Fault Refusal :=
  .next (finish (takenOnPort (runWord (· = 3)) s))

/-- STANDBY (R181). -/
def execStandby (s : State) : Host.Outcome State Fault Refusal :=
  .next (finish (takenOnPort (runWord (· = 4)) s))

/-- COMMAND_BAD_VALUE (R174). -/
def execCommandBadValue (s : State) : Host.Outcome State Fault Refusal :=
  .next (finish (takenOnPort (runWord fun v => v = 0 || 4 < v) s))

/-- CAUSE_CLEAR (R186). -/
def execCauseClear (s : State) : Host.Outcome State Fault Refusal :=
  .next (finish (takenOnPort (fun off _ => off = 0xC1) s))

/-- ATTENTION_MASK_WRITE (R187). -/
def execAttentionMaskWrite (s : State) : Host.Outcome State Fault Refusal :=
  .next (finish (takenOnPort (fun off _ => off = 0xC2) s))

/-- INTENT_TUNING_WRITE (R9): the limits and refresh words of the intent channels. -/
def execIntentTuningWrite (s : State) : Host.Outcome State Fault Refusal :=
  .next (finish (takenOnPort (fun off _ => 0x40 ≤ off && off ≤ 0x48) s))

/-- CORRECTION_FLOOR_WRITE (R98). -/
def execCorrectionFloorWrite (s : State) : Host.Outcome State Fault Refusal :=
  .next (finish (takenOnPort (fun off _ => off = 0x59) s))

/-- CEILING_FLOOR_WRITE (R108). -/
def execCeilingFloorWrite (s : State) : Host.Outcome State Fault Refusal :=
  .next (finish (takenOnPort (fun off _ => off = 0x5D) s))

/-- SANDER_TUNING_WRITE (R154). -/
def execSanderTuningWrite (s : State) : Host.Outcome State Fault Refusal :=
  .next (finish (takenOnPort (fun off _ => 0x72 ≤ off && off ≤ 0x75) s))

/-- CHANNEL_STRUCTURE_WRITE (R60). -/
def execChannelStructureWrite (s : State) : Host.Outcome State Fault Refusal :=
  .next (finish (takenOnPort (fun off _ => 0x10 ≤ off && off ≤ 0x15) s))

/-- WRITEBACK_DONE (R36). -/
def execWritebackDone (s : State) : Host.Outcome State Fault Refusal :=
  .next (finish (completion .queue (s.onPort .queue) writebackDone s))

/-- WRITEBACK_FAILED (R37, R38). -/
def execWritebackFailed (s : State) : Host.Outcome State Fault Refusal :=
  .next (finish (completion .queue (s.onPort .queue) writebackFailed s))

/-- MEMORY_PORT_TIMEOUT (R43). -/
def execMemoryPortTimeout (s : State) : Host.Outcome State Fault Refusal := .next (finish (portTimeout s))

/-- FETCH_READ_COMPLETION (R45). -/
def execFetchReadCompletion (r : MemEnd) (s : State) : Host.Outcome State Fault Refusal :=
  .next (finish (completion .fetcher (s.onPort .fetcher) (fetchRead r) s))

/-- REPORT_WORD_COMPLETION (R189). -/
def execReportWordCompletion (r : MemEnd) (s : State) : Host.Outcome State Fault Refusal :=
  .next (finish (completion .report (s.onPort .report) (reportWordEnd (isDone r)) s))

end Sys2Proof.Machine
end

