-- ==== Sys2Proof/Machine/StartUpRows.lean ====
section
/-! DEFINITION. The meanings of the reset and start-up commands (R171, R172). -/

namespace Sys2Proof.Machine

/-- POWER_ON: immediate entry to RESET from any state (R171). -/
def execPowerOn (s : State) : Host.Outcome State Fault Refusal := .next (finish (resetPart .power s))

/-- RESET_LINE_ASSERTED: immediate entry to RESET from any state (R171; log 31). -/
def execResetLineAsserted (s : State) : Host.Outcome State Fault Refusal :=
  .next (finish (resetPart .line { s with pins := { s.pins with resetLine := true } }))

/-- RESET_RELEASED: the straps are sampled, the page base latched, and the part enters PUBLISH (R171). -/
def execResetReleased (straps : BitVec 2) (s : State) : Host.Outcome State Fault Refusal :=
  .next (finish (startUp straps s))

/-- PUBLISH_WORD_COMPLETION: a default-image write on the port ends (R172). -/
def execPublishWordCompletion (r : MemEnd) (s : State) : Host.Outcome State Fault Refusal :=
  .next (finish (completion .publish (s.onPort .publish) (publishWordEnd (isDone r)) s))

end Sys2Proof.Machine
end

