-- ==== Sys2Proof/Machine/TimerRows.lean ====
section
/-! DEFINITION. The meanings of the timer expiries and of the evaluation completion (R8, R44, R53, R72, R80, R92, R99,
R132, R137, R149, R151, R164, R167, R182, R189). An expiry of a timer that does not run has no effect (log 4). -/

namespace Sys2Proof.Machine

/-! ### What the expiries do beyond one block -/

/-- A refresh timer expires; the channel acts by its role (R8). -/
def refreshEnd (c : IntentRole) (s : State) : State :=
  match c with
  | .effort .tractionA => claim false .a (staleEffort .tractionA s)
  | .effort .tractionB => claim false .b (staleEffort .tractionB s)
  | .effort .brake => runServing (staleEffort .brake s)
  | .mode => deliverCause .modeStale (staleMode s)

/-- The refresh timer of a channel. -/
def IntentTable.refreshTimer (t : IntentTable) : IntentRole → Timer
  | .effort r => (t.channels.get r).timer
  | .mode => t.mode.timer

/-- The hold timer expires: the reference is lost, REFERENCE_LOST is raised and delivered (R72). -/
def holdEnd (s : State) : State :=
  deliverCause .referenceLost (raise .referenceLost { s with ref := s.ref.lose })

/-- The four deliveries of a completion, in the order of R99. -/
def completionDeliveries (e : Evaluation) : List (State → State) :=
  [claimBoth true, ceilingPass e, evaluationRun e, sandCompletion e]

/-- An evaluation completes: its records are published, and in ACTIVE and FALLBACK its results are delivered, in the
order that `order` names (R99; log 9). -/
def completeEvaluation (order : Fin 24) (s : State) : State :=
  match s.ev.running with
  | none => s
  | some e =>
    let s1 := publishRecords e s
    if s.inForce then deliver (permuted order.val (completionDeliveries e)) s1 else s1

/-- WAKING ends, and then a held transaction is decoded (R182). -/
def settleEnd (s : State) : State := serveHeld (endWaking s)

/-! ### The rows -/

/-- FETCHER_TIMER_EXPIRY (R44). -/
def execFetcherTimerExpiry (s : State) : Host.Outcome State Fault Refusal :=
  .next (finish (onExpiry s.ip.fetchTimer fetchEnd s))

/-- REFRESH_TIMER_EXPIRY (R8). -/
def execRefreshTimerExpiry (c : IntentRole) (s : State) : Host.Outcome State Fault Refusal :=
  .next (finish (onExpiry (s.intent.refreshTimer c) (refreshEnd c) s))

/-- STANDSTILL_TIMER_EXPIRY (R53). -/
def execStandstillTimerExpiry (i : Axle) (s : State) : Host.Outcome State Fault Refusal :=
  .next (finish (onExpiry (s.axle.channels.get i).standstill (standstillEnd i) s))

/-- CONTROL_PERIOD_EXPIRY (R80). -/
def execControlPeriodExpiry (s : State) : Host.Outcome State Fault Refusal :=
  .next (finish (onExpiry s.ev.period periodEnd s))

/-- EVALUATION_COMPLETION (R99). -/
def execEvaluationCompletion (order : Fin 24) (s : State) : Host.Outcome State Fault Refusal :=
  .next (finish (completeEvaluation order s))

/-- EXCURSION_TIMER_EXPIRY (R92). -/
def execExcursionTimerExpiry (i : Axle) (s : State) : Host.Outcome State Fault Refusal :=
  .next (finish (onExpiry (s.ev.timers.get i) (excursionEnd i) s))

/-- HOLD_TIMER_EXPIRY (R72). -/
def execHoldTimerExpiry (s : State) : Host.Outcome State Fault Refusal :=
  .next (finish (onExpiry s.ref.hold holdEnd s))

/-- LAG_TIMER_EXPIRY (R132). -/
def execLagTimerExpiry (m : Motor) (s : State) : Host.Outcome State Fault Refusal :=
  .next (finish (onExpiry (s.blend.lag.get m) (lagEnd m) s))

/-- PROBE_TIMER_EXPIRY (R132). -/
def execProbeTimerExpiry (m : Motor) (s : State) : Host.Outcome State Fault Refusal :=
  .next (finish (onExpiry (s.blend.probe.get m) (probeEnd m) s))

/-- DEFICIT_TIMER_EXPIRY (R137). -/
def execDeficitTimerExpiry (s : State) : Host.Outcome State Fault Refusal :=
  .next (finish (onExpiry s.blend.deficitTimer deficitEnd s))

/-- PULSE_TIMER_EXPIRY (R149). -/
def execPulseTimerExpiry (i : SanderId) (s : State) : Host.Outcome State Fault Refusal :=
  .next (finish (onExpiry (s.sand.sanders.get i).pulse (pulseEnd i) s))

/-- LEVEL_TIMER_EXPIRY (R151). -/
def execLevelTimerExpiry (i : SanderId) (s : State) : Host.Outcome State Fault Refusal :=
  .next (finish (onExpiry (s.sand.sanders.get i).level (levelFull i) s))

/-- SILENCE_TIMER_EXPIRY (R164). -/
def execSilenceTimerExpiry (s : State) : Host.Outcome State Fault Refusal :=
  .next (finish (onExpiry s.chain.silence silenceEnd s))

/-- TRANSMIT_START (R167): an expiry of the transmit timer. -/
def execTransmitStart (s : State) : Host.Outcome State Fault Refusal :=
  .next (finish (onExpiry s.chain.transmit transmit s))

/-- SETTLE_TIMER_EXPIRY (R182). -/
def execSettleTimerExpiry (s : State) : Host.Outcome State Fault Refusal :=
  .next (finish (onExpiry s.ctl.settle settleEnd s))

/-- REPORT_TIMER_EXPIRY (R189). -/
def execReportTimerExpiry (s : State) : Host.Outcome State Fault Refusal :=
  .next (finish (onExpiry s.rw.timer reportEnd s))

end Sys2Proof.Machine
end

