-- ==== Sys2Proof/Machine/WiringRows.lean ====
section
/-! DEFINITION. The meanings of the events on the part's wiring: tachometer edges, sand levels, the actuator supply and
the chain input (R49, R51, R151, R153, R161). -/

namespace Sys2Proof.Machine

/-- A debounced edge arrives, with the movement wake that it may bring (R49, R51, R62). -/
def edge (i : Axle) (ph : Phase) (rising : Bool) (stamp : Nat) (s : State) : State :=
  if s.movementReached i ph rising then movementWake (phaseEdge i ph rising stamp s)
  else phaseEdge i ph rising stamp s

/-- The level input of a sander changes to a level. -/
def setLevel (i : SanderId) (high : Bool) (s : State) : State :=
  { s with pins := { s.pins with sandLevel := s.pins.sandLevel.set i high } }

/-- The supply stands at a voltage. -/
def setSupply (decivolts : Nat) (s : State) : State := { s with pins := { s.pins with supply := decivolts } }

/-- The idle limit of the frame being received is reached (R161); while a new character is being received it cannot be
(log 4). -/
def idleLimit (s : State) : State := onExpiry s.idleDue frameIncomplete s

/-- COUNTED_EDGE (R49). -/
def execCountedEdge (i : Axle) (rising : Bool) (stamp : Nat) (s : State) : Host.Outcome State Fault Refusal :=
  .next (finish (edge i .p rising stamp s))

/-- UNCOUNTED_PHASE_EDGE (R51). -/
def execUncountedPhaseEdge (i : Axle) (ph : Phase) (rising : Bool) (stamp : Nat) (s : State) :
    Host.Outcome State Fault Refusal :=
  .next (finish (edge i ph rising stamp s))

/-- SAND_LEVEL_LOW: a sample found low (R151). -/
def execSandLevelLow (i : SanderId) (s : State) : Host.Outcome State Fault Refusal :=
  .next (finish (levelLow i (setLevel i false s)))

/-- SAND_LEVEL_HIGH: a sample found high (R151). -/
def execSandLevelHigh (i : SanderId) (s : State) : Host.Outcome State Fault Refusal :=
  .next (finish (levelHigh i (setLevel i true s)))

/-- SUPPLY_LOW: a sample of the supply (R153). -/
def execSupplyLow (decivolts : Nat) (s : State) : Host.Outcome State Fault Refusal :=
  .next (finish (supplySample decivolts (setSupply decivolts s)))

/-- SUPPLY_GOOD: a sample of the supply (R153). -/
def execSupplyGood (decivolts : Nat) (s : State) : Host.Outcome State Fault Refusal :=
  .next (finish (supplySample decivolts (setSupply decivolts s)))

/-- CHAIN_FRAME_COMPLETE: the eighth byte of a frame is received (R161). -/
def execChainFrameComplete (b : FrameByte) (s : State) : Host.Outcome State Fault Refusal :=
  .next (finish (receiveByte b s))

/-- CHAIN_FRAMING_ERROR (R161). -/
def execChainFramingError (s : State) : Host.Outcome State Fault Refusal := .next (finish (framingError s))

/-- CHAIN_INCOMPLETE (R161). -/
def execChainIncomplete (s : State) : Host.Outcome State Fault Refusal := .next (finish (idleLimit s))

/-- RECEIVED_BYTE (R161). -/
def execReceivedByte (b : FrameByte) (s : State) : Host.Outcome State Fault Refusal :=
  .next (finish (receiveByte b s))

end Sys2Proof.Machine
end

