-- ==== Sys2Proof/Machine/Dispatch.lean ====
section
/-! DEFINITION. The meaning of every command: one direct call per constructor. -/

namespace Sys2Proof.Machine

def exec (i : Instr) (s : State) : Host.Outcome State Fault Refusal :=
  match i with
  | .powerOn => Sys2Proof.Machine.execPowerOn s
  | .resetLineAsserted => Sys2Proof.Machine.execResetLineAsserted s
  | .resetReleased straps => Sys2Proof.Machine.execResetReleased straps s
  | .publishWordCompletion r => Sys2Proof.Machine.execPublishWordCompletion r s
  | .tractionOrBrakeWrite addr data => Sys2Proof.Machine.execTractionOrBrakeWrite addr data s
  | .modeWrite addr data order => Sys2Proof.Machine.execModeWrite addr data order s
  | .partialWriteRefused addr data lanes => Sys2Proof.Machine.execPartialWriteRefused addr data lanes s
  | .guardedWriteRefused addr data lanes => Sys2Proof.Machine.execGuardedWriteRefused addr data lanes s
  | .hostTransactionForwarded t => Sys2Proof.Machine.execHostTransactionForwarded t s
  | .hostRead addr lanes => Sys2Proof.Machine.execHostRead addr lanes s
  | .hostTransactionHeld t => Sys2Proof.Machine.execHostTransactionHeld t s
  | .busWake t => Sys2Proof.Machine.execBusWake t s
  | .configPageWrite offset data lanes => Sys2Proof.Machine.execConfigPageWrite offset data lanes s
  | .forwardedCompletion r => Sys2Proof.Machine.execForwardedCompletion r s
  | .configWriteTaken => Sys2Proof.Machine.execConfigWriteTaken s
  | .goActive => Sys2Proof.Machine.execGoActive s
  | .goSetup => Sys2Proof.Machine.execGoSetup s
  | .restart => Sys2Proof.Machine.execRestart s
  | .standby => Sys2Proof.Machine.execStandby s
  | .commandBadValue => Sys2Proof.Machine.execCommandBadValue s
  | .causeClear => Sys2Proof.Machine.execCauseClear s
  | .attentionMaskWrite => Sys2Proof.Machine.execAttentionMaskWrite s
  | .intentTuningWrite => Sys2Proof.Machine.execIntentTuningWrite s
  | .correctionFloorWrite => Sys2Proof.Machine.execCorrectionFloorWrite s
  | .ceilingFloorWrite => Sys2Proof.Machine.execCeilingFloorWrite s
  | .sanderTuningWrite => Sys2Proof.Machine.execSanderTuningWrite s
  | .channelStructureWrite => Sys2Proof.Machine.execChannelStructureWrite s
  | .writebackDone => Sys2Proof.Machine.execWritebackDone s
  | .writebackFailed => Sys2Proof.Machine.execWritebackFailed s
  | .memoryPortTimeout => Sys2Proof.Machine.execMemoryPortTimeout s
  | .fetcherTimerExpiry => Sys2Proof.Machine.execFetcherTimerExpiry s
  | .fetchReadCompletion r => Sys2Proof.Machine.execFetchReadCompletion r s
  | .refreshTimerExpiry c => Sys2Proof.Machine.execRefreshTimerExpiry c s
  | .countedEdge axle rising stamp => Sys2Proof.Machine.execCountedEdge axle rising stamp s
  | .standstillTimerExpiry axle => Sys2Proof.Machine.execStandstillTimerExpiry axle s
  | .controlPeriodExpiry => Sys2Proof.Machine.execControlPeriodExpiry s
  | .evaluationCompletion order => Sys2Proof.Machine.execEvaluationCompletion order s
  | .excursionTimerExpiry axle => Sys2Proof.Machine.execExcursionTimerExpiry axle s
  | .holdTimerExpiry => Sys2Proof.Machine.execHoldTimerExpiry s
  | .lagTimerExpiry m => Sys2Proof.Machine.execLagTimerExpiry m s
  | .probeTimerExpiry m => Sys2Proof.Machine.execProbeTimerExpiry m s
  | .deficitTimerExpiry => Sys2Proof.Machine.execDeficitTimerExpiry s
  | .pulseTimerExpiry sander => Sys2Proof.Machine.execPulseTimerExpiry sander s
  | .sandLevelLow sander => Sys2Proof.Machine.execSandLevelLow sander s
  | .sandLevelHigh sander => Sys2Proof.Machine.execSandLevelHigh sander s
  | .levelTimerExpiry sander => Sys2Proof.Machine.execLevelTimerExpiry sander s
  | .supplyLow decivolts => Sys2Proof.Machine.execSupplyLow decivolts s
  | .supplyGood decivolts => Sys2Proof.Machine.execSupplyGood decivolts s
  | .chainFrameComplete byte => Sys2Proof.Machine.execChainFrameComplete byte s
  | .chainFramingError => Sys2Proof.Machine.execChainFramingError s
  | .chainIncomplete => Sys2Proof.Machine.execChainIncomplete s
  | .silenceTimerExpiry => Sys2Proof.Machine.execSilenceTimerExpiry s
  | .transmitStart => Sys2Proof.Machine.execTransmitStart s
  | .settleTimerExpiry => Sys2Proof.Machine.execSettleTimerExpiry s
  | .reportTimerExpiry => Sys2Proof.Machine.execReportTimerExpiry s
  | .reportWordCompletion r => Sys2Proof.Machine.execReportWordCompletion r s
  | .uncountedPhaseEdge axle phase rising stamp => Sys2Proof.Machine.execUncountedPhaseEdge axle phase rising stamp s
  | .receivedByte byte => Sys2Proof.Machine.execReceivedByte byte s

end Sys2Proof.Machine
end

