-- ==== Sys2Proof/Machine/Tick.lean ====
section
/-! DEFINITION. What happens while no command waits: the timers that are due, and else one microsecond of the time base
with the sampling of the input lines (R2, R48, R151, R153, R159; log 3, 5, 26, 27). -/

namespace Sys2Proof.Machine

/-! ### Tachometer inputs (R48) -/

/-- The raw level of a phase line. -/
def TachPins.level (x : TachPins) : Phase → Bool
  | .p => x.p
  | .q => x.q

/-- The debounce of a phase. -/
def Channel.filter (c : Channel) : Phase → PhaseFilter
  | .p => c.p
  | .q => c.q

/-- A phase's count of consecutive opposite samples. -/
def Channel.withRun (c : Channel) (ph : Phase) (n : Nat) : Channel :=
  match ph with
  | .p => { c with p := { c.p with run := n } }
  | .q => { c with q := { c.q with run := n } }

/-- An axle's channel is replaced. -/
def setChannel (i : Axle) (c : Channel) (s : State) : State :=
  { s with axle := { s.axle with channels := s.axle.channels.set i c } }

/-- One sample of a phase input: the level changes, as an edge stamped with the first sample that made it, once the raw
input has held the opposite level for the debounce length (R48). -/
def samplePhase (i : Axle) (ph : Phase) (s : State) : State :=
  let c := s.axle.channels.get i
  let length := (s.cfg.str.channels.get i).debounceLength
  let raw := (s.pins.tach.get i).level ph
  if raw = (c.filter ph).level then setChannel i (c.withRun ph 0) s
  else if length ≤ (c.filter ph).run + 1 then edge i ph raw (s.now - (length - 1)) s
  else setChannel i (c.withRun ph ((c.filter ph).run + 1)) s

/-- One sample of an axle's two inputs, Q before P (log 26). -/
def sampleAxle (i : Axle) (s : State) : State :=
  let c := s.axle.channels.get i
  if c.state = .disabled then s
  else if c.sync then setChannel i (c.synced (s.pins.tach.get i)) s
  else samplePhase i .p (samplePhase i .q s)

/-- One sample of all tachometer inputs. -/
def sampleAxles (s : State) : State :=
  sampleAxle .b2 (sampleAxle .b1 (sampleAxle .t2 (sampleAxle .t1 (sampleAxle .a2 (sampleAxle .a1 s)))))

/-! ### The chain input (R159) -/

/-- The byte of eight line levels, least significant bit first; a 1 stands at the idle level (log 36). -/
def byteOfLevels (l : List Bool) : FrameByte :=
  BitVec.ofNat 8 (l.foldr (fun active n => 2 * n + (!active).toNat) 0)

/-- What one sample of the chain input brings to the bit receiver: the character after it, and the byte or framing error
that ends one (R159). -/
inductive LineEvent where
  | nothing | byte (b : FrameByte) | framing
  deriving DecidableEq, Repr

/-- One sample of the line, `t` µs after the change that began the character (R159). -/
def BitReceiver.sample (r : BitReceiver) (level : Bool) : BitReceiver × LineEvent :=
  match r.char with
  | none => ({ level := level, char := if level && !r.level then some (0, []) else none }, .nothing)
  | some (t, bs) =>
    let now := t + 1
    if now = 2 ∧ level = false then ({ level := level, char := none }, .nothing)
    else if now = 38 then
      ({ level := level, char := none }, if level then .framing else .byte (byteOfLevels bs))
    else if 6 ≤ now ∧ now % 4 = 2 then ({ level := level, char := some (now, bs ++ [level]) }, .nothing)
    else ({ level := level, char := some (now, bs) }, .nothing)

/-- One sample of the chain input, while the receiver assembles frames (R159, R161). -/
def sampleChain (s : State) : State :=
  if s.receives then
    let (r, e) := s.chain.bits.sample s.pins.chainIn
    let s1 : State := { s with chain := { s.chain with bits := r } }
    match e with
    | .nothing => s1
    | .byte b => receiveByte b s1
    | .framing => framingError s1
  else s

/-! ### Levels and supply once per millisecond (R151, R153; log 27) -/

/-- One sample of a sander's level input. -/
def sampleLevel (i : SanderId) (s : State) : State := if s.pins.sandLevel.get i then levelHigh i s else levelLow i s

/-- One sample of the four level inputs and the supply. -/
def sampleSlow (s : State) : State :=
  if s.now % Config.sampleInterval = 0 then
    supplySample s.pins.supply
      (sampleLevel .s4 (sampleLevel .s3 (sampleLevel .s2 (sampleLevel .s1 s))))
  else s

/-! ### One microsecond -/

/-- A frame on the chain output ends after its eight characters (R159). -/
def endSending (s : State) : State :=
  { s with
    chain :=
      { s.chain with
        sending := s.chain.sending.filter fun x => decide (s.now < x.start + Config.frameLength) } }

/-- One microsecond of the time base (R2). -/
def tick (s : State) : State := sampleSlow (sampleChain (sampleAxles (endSending { s with now := s.now + 1 })))

/-! ### Timers that are due (log 5) -/

/-- An axle's timers. -/
def State.axleTimers (s : State) (i : Axle) : List (Timer × Instr) :=
  [ ((s.axle.channels.get i).standstill, .standstillTimerExpiry i), (s.ev.timers.get i, .excursionTimerExpiry i) ]

/-- A sander's timers. -/
def State.sanderTimers (s : State) (i : SanderId) : List (Timer × Instr) :=
  [ ((s.sand.sanders.get i).pulse, .pulseTimerExpiry i), ((s.sand.sanders.get i).level, .levelTimerExpiry i) ]

/-- A motor bogie's timers. -/
def State.motorTimers (s : State) (m : Motor) : List (Timer × Instr) :=
  [(s.blend.lag.get m, .lagTimerExpiry m), (s.blend.probe.get m, .probeTimerExpiry m)]

/-- The refresh timers. -/
def State.refreshTimers (s : State) : List (Timer × Instr) :=
  [.effort .tractionA, .effort .tractionB, .effort .brake, .mode].map fun c =>
    (s.intent.refreshTimer c, .refreshTimerExpiry c)

/-- The instant by which an evaluation has completed (R80). -/
def State.completionDue (s : State) : Timer := s.ev.running.map fun e => e.started + Config.evaluationBound

/-- Every timer with its expiry's command, in the order in which due ones are taken (log 5). -/
def State.timers (s : State) : List (Timer × Instr) :=
  [(s.ip.port.map (·.deadline), .memoryPortTimeout), (s.ip.fetchTimer, .fetcherTimerExpiry)] ++ s.refreshTimers
    ++ [(s.ref.hold, .holdTimerExpiry)] ++ allAxles.flatMap s.axleTimers ++ s.motorTimers .a ++ s.motorTimers .b
    ++ [(s.blend.deficitTimer, .deficitTimerExpiry)] ++ allSanders.flatMap s.sanderTimers
    ++ [(s.idleDue, .chainIncomplete), (s.chain.silence, .silenceTimerExpiry), (s.ctl.settle, .settleTimerExpiry),
        (s.completionDue, .evaluationCompletion (Config.deliveryOrder s.draws)), (s.ev.period, .controlPeriodExpiry),
        (s.chain.transmit, .transmitStart), (s.rw.timer, .reportTimerExpiry)]

/-- The first timer that is due. -/
def State.due (s : State) : Option Instr :=
  (s.timers.find? fun x => match x.1 with | none => false | some d => decide (d ≤ s.now)).map (·.2)

/-- No command waits: the expiry of a timer that is due, or else one microsecond (log 3). An edge, a byte or a sample of
one microsecond is therefore taken before a timer that is due at it; R53 and R55 give both outcomes (log 40). -/
def idle (s : State) : Host.Outcome State Fault Refusal :=
  match s.due with
  | some c => exec c { s with draws := s.draws + 1 }
  | none => .next (finish (tick s))

end Sys2Proof.Machine
end

