-- ==== Sys2Proof/Safety.lean ====
section
/-! DEFINITION. Words the statements are written with (where a transaction stands, what a host sees) and what every
step keeps: the counters' bound, the write-back queue's distinct addresses and check nibbles, the track-brake rule and
the bound on held traction. -/

namespace Sys2Proof.Machine

/-! ### Where a transaction stands -/

/-- A served state: SETUP, ACTIVE or FALLBACK (R25). -/
def State.served (s : State) : Bool := s.ctl.part = .setup || s.ctl.part = .active || s.ctl.part = .fallback

/-- A page write of `w` at an offset stands on the memory port for the host, which is owed no late completion (R29,
R43). -/
def State.pageStands (s : State) (off : BitVec 8) (w : Word) : Prop :=
  s.awaits .passThrough = true ∧ ∃ h, s.ip.host = some h ∧ h.page = some off ∧ h.txn.data = w

/-- The host's transaction on the port has completed with a reply (R26). -/
def State.completed (s : State) (ok : Bool) (data : Word) : State :=
  { s with ip := { s.ip with port := none, host := none, reply := some { ok := ok, data := data } } }

/-- The host's transaction has been answered at once, without the memory port (R27, R28). -/
def State.answered (s : State) (ok : Bool) : State :=
  { s with ip := { s.ip with host := none, reply := some { ok := ok, data := 0 } } }

/-- A block has raised a cause (R185). -/
def State.raised (s : State) (c : Cause) : State := { s with rep := s.rep.raise c }

/-- A block has counted an event (R188). -/
def State.counted (s : State) (c : Counter) : State := { s with rep := s.rep.bump c.number }

/-- A formed word of a role has been handed between `s` and `t`: it is the role's last handed word, and where it differs from
the last handed word of `s` it waits in the queue for the role's address, unless another role has that address (R18, R34). -/
def Handed (s t : State) (role : Role) (w : Word) : Prop :=
  ∀ a, s.intent.addrs.get role = some a →
    t.intent.handed.get role = some w
    ∧ (s.intent.handed.get role ≠ some w → (∀ r, r ≠ role → s.intent.addrs.get r ≠ some a) →
        ∃ e ∈ t.ip.queue, e.addr = a ∧ e.word = w)

/-- The exclusive-OR of all eight nibbles of a word (R16). -/
def nibbleSum (w : Word) : BitVec 4 := checkNibble w ^^^ w.extractLsb' 28 4

/-- The five source allocations added up (R128). -/
def PerSource.sum (x : PerSource Nat) : Nat := x.edA + x.edB + x.frA + x.frT + x.frB

/-- The five brake sources. -/
def allSources : List Source := [.edA, .edB, .frA, .frT, .frB]

/-! ### What every step keeps -/

/-- Every counter lies within 0..65,535 (R188). -/
def State.countersBounded (s : State) : Prop := ∀ i : Fin 40, s.rep.counter i ≤ 65535

/-- The write-back queue never holds two entries for the same word address (R33). -/
def State.queueDistinct (s : State) : Prop := (s.ip.queue.map (·.addr)).Nodup

/-- Every word in the write-back queue and in flight carries its check nibble (R16). -/
def State.queueChecked (s : State) : Prop :=
  (∀ e ∈ s.ip.queue, nibbleSum e.word = 0) ∧ ∀ f, s.ip.inflight = some f → nibbleSum f.entry.word = 0

/-- The publish writer works in PUBLISH alone (R172), and the settle timer runs in WAKING alone (R182). -/
structure State.stagesAgree (s : State) : Prop where
  publishing : s.onPort .publish = true → s.ctl.part = .publish
  settling : s.ctl.settle ≠ none → s.ctl.part = .waking

/-- The track-brake lines are asserted above 50 mm/s of the seen reference alone, and in ACTIVE and FALLBACK alone
(R136). -/
def State.trackRule (s : State) : Prop := s.blend.lines = true → 50 < s.blend.seenMagnitude ∧ s.inForce = true

/-- The held effective traction of a motor bogie is at most its intent, its channel maximum and its ceiling effort
(R10). -/
def State.tractionBound (s : State) (m : Motor) : Prop :=
  s.intent.held.get m ≤ s.intent.value m.role ∧ s.intent.held.get m ≤ (s.cfg.tun.intent.limits.get m.role).max
    ∧ s.intent.held.get m ≤ s.ceilingEffort m

/-- The part is ACTIVE under the accepted regime TRACTION. -/
def State.driving (s : State) : Prop := s.ctl.part = .active ∧ s.intent.accepted.regime = .traction

/-- An ACTIVE or FALLBACK part, or one that was ACTIVE before it went to STANDBY. -/
def State.keepsIntents (s : State) : Prop :=
  s.inForce = true ∨ ((s.ctl.part = .standby ∨ s.ctl.part = .waking) ∧ s.ctl.previous = some .active)

/-- A page write outstanding at the processor port has been judged to be taken, in a served state (R173). -/
def State.pageJudged (s : State) : Prop :=
  ∀ h off, s.ip.host = some h → h.page = some off →
    s.served = true ∧ (off.toNat < 0x30 → s.ctl.part = .setup)
      ∧ (0x40 ≤ off.toNat → off.toNat < 0xA0 → tuningInRange off.toNat h.txn.data = true)

/-- Every correction factor is at most 1000, in the published records and in the copy of an evaluation in progress, and
the tuning items that form it are at most 1000 (R95, R96). -/
structure State.factorsBounded (s : State) : Prop where
  published : ∀ y : Bogie, (s.ev.bogies.get y).c ≤ 1000
  copied : ∀ (e : Evaluation) (y : Bogie), s.ev.running = some e → (e.bogies.get y).c ≤ 1000
  floor : s.cfg.tun.slip.floor ≤ 1000
  drop : s.cfg.tun.slip.drop ≤ 1000

/-- What keeps the held traction within its bounds, whatever happens: outside driving it is 0, the bounds of R10 hold,
taken intents lie within their channel's maximum, limits keep min ≤ max (R3), page writes are judged, correction
factors are at most 1000, and the part's stages agree. -/
structure State.tractionSafe (s : State) : Prop where
  stages : s.stagesAgree
  factors : s.factorsBounded
  zero : ¬ s.driving → ∀ m : Motor, s.intent.held.get m = 0
  bound : ∀ m : Motor, s.tractionBound m
  intents : s.keepsIntents → ∀ (m : Motor) (v : Nat), (s.intent.channels.get m.role).intent = some v →
    v ≤ (s.cfg.tun.intent.limits.get m.role).max
  limits : ∀ r : EffortRole, (s.cfg.tun.intent.limits.get r).min ≤ (s.cfg.tun.intent.limits.get r).max
  pages : s.pageJudged

end Sys2Proof.Machine
end

