-- ==== Sys2Proof/Certificates/Slice0/Obligations.lean ====
section
/-! DEFINITION. The statements: what the rules of spec/ say each command does, what the shared operations do, and what
every step keeps. -/

open Sys2Proof Sys2Proof.Machine

/-! ### The step and what follows every command -/

/-- A step takes the command at the front of the queue and runs it with the queue's rest. -/
def Obligations.StepRunsTheFrontCommand : Prop :=
  ∀ (c : Instr) (rest : List Instr) (s : State), s.pending = c :: rest → step s = exec c { s with pending := rest }

/-- With no command waiting, a step runs the expiry of the first timer that is due, or else takes the time base 1 µs
on (R2; the model's choice, log 3). In that µs a frame on the chain output ends 320 µs after its start, then the six
axles' tachometer inputs are sampled, then the chain input, and, once per ms, the four level inputs and the supply
(R48, R159, R151, R153; the order and the phase of the ms are the model's, logs 26, 27, 40). An axle's sample: a
DISABLED channel takes none, the first one sets both debounced levels without an edge, and any other samples Q and
then P. A sample at the debounced level ends the run of opposite samples, one at the other level lengthens it, and the
one that makes it as long as the debounce length is an edge stamped with the first of them, which acts as the edge's
command does (R48). The chain input is read in SETUP, ACTIVE and FALLBACK. A change to the active level begins a
character; an idle level 2 µs after it was a glitch; the data bits are read at 6, 10, ..., 34 µs and the stop bit at
38 µs, where an active level is a framing error and an idle one a received byte, each acting as its command does
(R159, R161). A data bit of 1 stands at the idle level (log 36, PRESUMED). While a frame is sent the chain output
stands at the level of the bit sent, 4 µs a bit and 40 µs a byte: the start bit active, the data bits least
significant first, the stop bit idle (R159). Such a character is received as its byte (R159). A sample of a level
input or of the supply at a ms acts as the command of what it finds does (R151, R153). -/
def Obligations.EmptyQueueLetsTimePass : Prop :=
  (∀ s : State, s.pending = [] →
     (∀ c, s.due = some c → step s = exec c { s with draws := s.draws + 1 })
     ∧ (s.due = none →
         let next : State :=
           { s with
             now := s.now + 1
             chain :=
               { s.chain with
                 sending :=
                   match s.chain.sending with
                   | some x => if s.now + 1 < x.start + 320 then some x else none
                   | none => none } }
         let tachs := [Axle.a1, .a2, .t1, .t2, .b1, .b2].foldl (fun x i => sampleAxle i x) next
         let line := sampleChain tachs
         let t :=
           if line.now % 1000 = 0 then
             supplySample line.pins.supply ([SanderId.s1, .s2, .s3, .s4].foldl (fun x i => sampleLevel i x) line)
           else line
         step s = .next (finish t) ∧ s.now + 1 ≤ t.now ∧ t.pending = [] ∧ t.draws = s.draws))
  ∧ (∀ (i : Axle) (s : State),
     let c := s.axle.channels.get i
     let pins := s.pins.tach.get i
     let length := 2 ^ (s.cfg.str.channels.get i).debounce.toNat
     let with' (n : Channel) : State := { s with axle := { s.axle with channels := s.axle.channels.set i n } }
     (c.state = .disabled → sampleAxle i s = s)
     ∧ (c.state ≠ .disabled → c.sync = true →
         sampleAxle i s
           = with' { c with
               p := { c.p with level := pins.p, run := 0 }, q := { c.q with level := pins.q, run := 0 }
               sync := false })
     ∧ (c.state ≠ .disabled → c.sync = false → sampleAxle i s = samplePhase i .p (samplePhase i .q s))
     ∧ ∀ ph : Phase,
         let filter := match ph with | .p => c.p | .q => c.q
         let raw := match ph with | .p => pins.p | .q => pins.q
         let runs (n : Nat) : Channel :=
           match ph with
           | .p => { c with p := { c.p with run := n } }
           | .q => { c with q := { c.q with run := n } }
         (raw = filter.level → samplePhase i ph s = with' (runs 0))
         ∧ (raw ≠ filter.level → filter.run + 1 < length → samplePhase i ph s = with' (runs (filter.run + 1)))
         ∧ (raw ≠ filter.level → length ≤ filter.run + 1 →
             samplePhase i ph s = edge i ph raw (s.now - (length - 1)) s)
         ∧ ∀ rising stamp,
             exec (.uncountedPhaseEdge i ph rising stamp) s = .next (finish (edge i ph rising stamp s))
             ∧ (ph = .p → exec (.countedEdge i rising stamp) s = .next (finish (edge i ph rising stamp s))))
  ∧ (∀ s : State,
     let level := s.pins.chainIn
     let reads (char : Option (Nat × List Bool)) : State :=
       { s with chain := { s.chain with bits := { level := level, char := char } } }
     (s.ctl.part ≠ .setup → s.inForce = false → sampleChain s = s)
     ∧ (s.ctl.part = .setup ∨ s.inForce = true →
         (s.chain.bits.char = none →
           sampleChain s = reads (if level = true ∧ s.chain.bits.level = false then some (0, []) else none))
         ∧ ∀ t read, s.chain.bits.char = some (t, read) →
             let middle := 6 ≤ t + 1 ∧ t + 1 ≤ 34 ∧ (t + 1) % 4 = 2
             (t = 1 → level = false → sampleChain s = reads none)
             ∧ (middle → sampleChain s = reads (some (t + 1, read ++ [level])))
             ∧ (t < 37 → ¬ middle → (t ≠ 1 ∨ level = true) → sampleChain s = reads (some (t + 1, read)))
             ∧ (t = 37 → level = true → sampleChain s = framingError (reads none))
             ∧ (t = 37 → level = false → ∃ byte : FrameByte,
                 (∀ k, k < 8 → byte.getLsbD k = (read[k]? == some false))
                 ∧ sampleChain s = receiveByte byte (reads none)))
     ∧ (∀ byte, exec (.receivedByte byte) s = .next (finish (receiveByte byte s)))
     ∧ exec .chainFramingError s = .next (finish (framingError s)))
  ∧ ((∀ (x : Sending) (n k d : Nat) (b : FrameByte) (s : State),
     s.ctl.part ≠ .reset → s.chain.sending = some x → x.bytes[n]? = some b → k < 10 → d < 4 →
     s.now = x.start + 40 * n + 4 * k + d →
     ((finish s).lines.chainOut = true ↔ k = 0 ∨ 1 ≤ k ∧ k ≤ 8 ∧ b.getLsbD (k - 1) = false))
   ∧ ∀ b : FrameByte,
     let levels := (characterBits b).flatMap fun l => [l, l, l, l]
     let received :=
       levels.foldl
         (fun (x : BitReceiver × List LineEvent) l => ((x.1.sample l).1, x.2 ++ [(x.1.sample l).2]))
         ({ level := false, char := none }, [])
     received.2.filter (· ≠ .nothing) = [.byte b])
  ∧ (∀ (i : SanderId) (s : State),
     (s.pins.sandLevel.get i = true → exec (.sandLevelHigh i) s = .next (finish (sampleLevel i s)))
     ∧ (s.pins.sandLevel.get i = false → exec (.sandLevelLow i) s = .next (finish (sampleLevel i s)))
     ∧ exec (.supplyLow s.pins.supply) s = .next (finish (supplySample s.pins.supply s))
     ∧ exec (.supplyGood s.pins.supply) s = .next (finish (supplySample s.pins.supply s)))

/-- Every command completes, leaves the waiting commands alone, and leaves the output lines as the state forms them:
no command of this block stops it. -/
def Obligations.EveryCommandCompletes : Prop :=
  ∀ (c : Instr) (s : State), ∃ t, exec c s = .next t ∧ t.pending = s.pending ∧ t.draws = s.draws
    ∧ t.lines = t.formLines

/-- What follows every command changes the host's wait, the port, the queue's head, the wait counts, the contents of
the report record and the lines, and nothing else; a busy port grants nothing, and the report writer's place stands,
its record's contents too unless the grant goes to the report writer (R35, R41). -/
def Obligations.FinishOnlyGrantsAndReleases : Prop :=
  ∀ s : State,
    let t := finish s
    t = { s with ip := t.ip, rw := t.rw, lines := t.lines }
    ∧ t.lines = t.formLines
    ∧ t.ip.copy = s.ip.copy ∧ t.ip.lastAbandoned = s.ip.lastAbandoned ∧ t.ip.reply = s.ip.reply
    ∧ t.ip.fetchTimer = s.ip.fetchTimer ∧ t.ip.fetch = s.ip.fetch ∧ t.ip.nextId = s.ip.nextId
    ∧ t.ip.host.map (fun h => (h.txn, h.page)) = s.ip.host.map (fun h => (h.txn, h.page))
    ∧ ((t.ip.queue = s.ip.queue ∧ t.ip.inflight = s.ip.inflight)
        ∨ ∃ e, s.ip.queue = e :: t.ip.queue ∧ t.ip.inflight = some { entry := e, discarding := false })
    ∧ t.rw.timer = s.rw.timer ∧ t.rw.pendingUpdate = s.rw.pendingUpdate
    ∧ t.rw.update.map (fun x => (x.window, x.record, x.word, x.stopping))
        = s.rw.update.map (fun x => (x.window, x.record, x.word, x.stopping))
    ∧ ((∀ p, t.ip.port = some p → p.claimant ≠ .report) → t.rw = s.rw)
    ∧ (s.ip.port ≠ none → t.ip.port = s.ip.port ∧ t.ip.queue = s.ip.queue ∧ t.ip.inflight = s.ip.inflight
        ∧ t.ip.queueWait = s.ip.queueWait ∧ t.ip.fetchWait = s.ip.fetchWait ∧ t.rw = s.rw)

/-- At a free port the arbiter grants the first claimant of R42's list; the publish writer is the one claimant in
PUBLISH, and none is granted in RESET; the timeout of R43 starts at the grant. A grant to the queue issues the head
entry's word to its address with all four lanes and moves the entry to the in-flight slot; the next entry becomes the
head (R35). A grant to the pass-through claim issues the host's transaction with its own address, lane strobes and
data (R26). A grant to another claimant adds one to the wait count of a queue that is not empty and to that of a fetch
that waits; a grant to the queue or the fetcher sets its own count to 0, an empty queue has 0, and a grant in PUBLISH
or none at all counts nothing (R42). -/
def Obligations.ArbiterGrantsInOrder : Prop :=
  (∀ s : State, s.ip.port = none →
     let hostClaims := (releaseHolds s).ip.host.any fun h => h.wait = .claiming
     let waits := !s.ip.queue.isEmpty
     let granted : Option Claimant :=
       if s.ctl.part = .reset then none
       else if s.ctl.part = .publish then some .publish
       else if waits ∧ (4 ≤ s.ip.queue.length ∨ 8 ≤ s.ip.queueWait) then some .queue
       else if s.ip.fetch ≠ none ∧ 16 ≤ s.ip.fetchWait then some .fetcher
       else if hostClaims then some .passThrough
       else if waits then some .queue
       else if s.ip.fetch ≠ none then some .fetcher
       else if s.rw.update ≠ none then some .report
       else none
     (finish s).ip.port.map (·.claimant) = granted
     ∧ ∀ p, (finish s).ip.port = some p → p.deadline = s.now + s.cfg.tun.link.portTimeout)
  ∧ (∀ (e : QueueEntry) (rest : List QueueEntry) (s : State), s.ip.queue = e :: rest →
     let t := grant .queue s
     t.ip.queue = rest ∧ t.ip.inflight = some { entry := e, discarding := false } ∧ t.ip.queueWait = 0
     ∧ ∃ p, t.ip.port = some p ∧ p.claimant = .queue ∧ p.addr = e.addr ∧ p.write = true ∧ p.lanes = 0xF
         ∧ p.data = e.word)
  ∧ (∀ (h : HostSlot) (s : State), s.ip.host = some h →
     let t := grant .passThrough s
     t.ip.host = some { h with wait := .onPort }
     ∧ ∃ p, t.ip.port = some p ∧ p.claimant = .passThrough ∧ p.addr = h.txn.addr ∧ p.write = h.txn.write
         ∧ p.lanes = h.txn.lanes ∧ p.data = h.txn.data)
  ∧ (∀ s : State,
     let t := finish s
     (∀ p, s.ip.port = none → t.ip.port = some p → p.claimant ≠ .publish →
       t.ip.queueWait = (if p.claimant = .queue ∨ s.ip.queue = [] then 0 else s.ip.queueWait + 1)
       ∧ t.ip.fetchWait
           = (if p.claimant = .fetcher then 0
              else if s.ip.fetch ≠ none then s.ip.fetchWait + 1
              else s.ip.fetchWait))
     ∧ ((t.ip.port = s.ip.port ∨ s.ctl.part = .publish) →
       t.ip.queueWait = s.ip.queueWait ∧ t.ip.fetchWait = s.ip.fetchWait))

/-! ### Resets and start-up -/

/-- POWER_ON and RESET_LINE_ASSERTED take the part to RESET from any state with every block at its power-on values
(R22, R46, R64, R78, R102, R119, R140, R157, R170, R171, R184, R191). Choices of the model: time and input levels are
kept (log 1); the line asserted within a power-on reset makes it a line reset (log 31, DEDUCED); State.reset holds
FULL level indicators and a GOOD supply (log 14) and clear, HOLD and NEUTRAL as remembered MODE values (log 49); the
memory may still answer the transaction dropped (log 44). What the reset tables give for power-on (R22, R46, R78,
R102, R119, R140, R157, R170, R184, R191). -/
def Obligations.ResetTakesPowerOnValues : Prop :=
  (∀ s : State,
     exec .powerOn s
       = .next
           { State.reset with
             now := s.now, pins := s.pins,
             memory := s.memory.dropped s.ip.port, draws := s.draws, pending := s.pending }
     ∧ exec .resetLineAsserted s
       = .next
           { State.reset with
             now := s.now, memory := s.memory.dropped s.ip.port, draws := s.draws, pending := s.pending
             pins := { s.pins with resetLine := true }
             ctl := { Controller.reset with resetBy := .line } })
  ∧ (let s := State.reset
   s.ctl.part = .reset ∧ s.ctl.causes = {} ∧ s.ctl.fallbackPending = false ∧ s.ctl.validation = none
   ∧ s.ctl.outcome = .none ∧ s.ctl.previous = none ∧ s.ctl.movementMark = false ∧ s.ctl.settle = none
   ∧ s.ip.queue = [] ∧ s.ip.inflight = none ∧ s.ip.lastAbandoned = none ∧ s.ip.port = none ∧ s.ip.host = none
   ∧ s.ip.queueWait = 0 ∧ s.ip.fetchWait = 0 ∧ s.ip.fetchTimer = none
   ∧ (∀ r, s.intent.channels.get r = { intent := none, fresh := .absent, timer := none })
   ∧ s.intent.mode = { intent := none, fresh := .absent, timer := none }
   ∧ s.intent.accepted
       = { regime := .hold, direction := .neutral, gradient := 0, mass := 0, rail := .dry, sand := false }
   ∧ (∀ m, s.intent.held.get m = 0) ∧ (∀ r, s.intent.handed.get r = none) ∧ (∀ r, s.intent.addrs.get r = none)
   ∧ s.ref.magnitude = 0 ∧ s.ref.sense = .none ∧ s.ref.source = .held ∧ s.ref.hold = none ∧ s.ref.odometer = 0
   ∧ s.ref.remainder = 0 ∧ s.ref.chainRef = none ∧ s.ref.rollback = 0
   ∧ (∀ i, (s.ev.slips.get i).state = .excluded) ∧ (∀ y, (s.ev.bogies.get y).c = 1000) ∧ s.ev.running = none
   ∧ (∀ y, (s.ceil.records.get y).k = 1000 ∧ (s.ceil.records.get y).clean = 0) ∧ s.ceil.queue = []
   ∧ s.ceil.outgoing = none
   ∧ s.blend.h = 0 ∧ s.blend.d = 0 ∧ s.blend.dEff = 0 ∧ (∀ x, s.blend.alloc.get x = 0) ∧ s.blend.mtb = 0
   ∧ s.blend.deficit = 0 ∧ s.blend.hill = .off ∧ s.blend.lines = false ∧ s.blend.assist = false
   ∧ (∀ i, (s.sand.sanders.get i).remaining = 6 ∧ (s.sand.sanders.get i).pulse = none
       ∧ (s.sand.sanders.get i).withheld = 0 ∧ (s.sand.sanders.get i).last = none)
   ∧ s.sand.trail = false ∧ s.sand.trailMark = none
   ∧ s.chain.receiving = none ∧ s.chain.buffer = none ∧ s.chain.link = .searching ∧ s.chain.silence = none
   ∧ s.chain.transmit = none ∧ s.chain.last = none
   ∧ (∀ c, s.rep.flag c = false) ∧ s.rep.mask = 0x3FFFFF ∧ (∀ i, s.rep.counter i = 0) ∧ s.rw.timer = none
   ∧ s.rw.update = none ∧ s.lines = Lines.reset ∧ s.pending = [])

/-- RESET_RELEASED latches the page base from the straps, sets the restart cause and the default configuration, enters
PUBLISH, and the first word of the default image goes to the port (R171, R172). Outside RESET, where this event cannot
occur, it changes nothing but what follows every command: the model's choice, log 35. -/
def Obligations.ResetReleaseStartsPublish : Prop :=
  ∀ (straps : BitVec 2) (s : State),
    (s.ctl.part = .reset → s.ip.port = none →
      ∃ t, exec (.resetReleased straps) s = .next t
        ∧ t.ctl =
            { s.ctl with
              part := .publish, restartCause := s.ctl.resetBy, publishOffset := 0, publishAttempts := 0
              pageBase :=
                if straps = 0 then 0x3FF00 else if straps = 1 then 0x1FF00 else if straps = 2 then 0x0FF00 else 0 }
        ∧ t.cfg = { str := StructureConfig.default, tun := TuningConfig.default }
        ∧ t.pins.straps = straps ∧ t.pins.resetLine = false
        ∧ (∃ p, t.ip.port = some p ∧ p.claimant = .publish ∧ p.addr = t.ctl.pageBase ∧ p.data = 0x00040000)
        ∧ t = { s with ctl := t.ctl, cfg := t.cfg, pins := t.pins, ip := t.ip, lines := t.lines })
    ∧ (s.ctl.part ≠ .reset → exec (.resetReleased straps) s = .next (finish s))

/-- A write of the default image that is done goes on to the next offset; one that fails is tried again, offset 0xFF
too, and skipped with MEMORY_FAULT at its third attempt; the word at the offset then due goes to the port (R172). When
the write of offset 0xFF has ended, done or skipped with MEMORY_FAULT, the part is in SETUP: the channels settle
(R64), the control-period and report timers run (R79, R189), and a transaction held through PUBLISH is decoded under
that SETUP (R25, R172). That a report update is due as well is the model's choice, read from R191's table (log 13,
DEDUCED). -/
def Obligations.PublishWritesTheImage : Prop :=
  (∀ (r : MemEnd) (s : State), s.awaits .publish = true → s.ctl.part = .publish →
     (s.ctl.publishOffset ≠ 0xFF ∨ isDone r = false ∧ s.ctl.publishAttempts < 2) →
     ∃ t, exec (.publishWordCompletion r) s = .next t
       ∧ (if isDone r = true ∨ 2 ≤ s.ctl.publishAttempts then
           t.ctl = { s.ctl with publishOffset := s.ctl.publishOffset + 1, publishAttempts := 0 }
          else t.ctl = { s.ctl with publishAttempts := s.ctl.publishAttempts + 1 })
       ∧ t.rep = (if isDone r = false ∧ 2 ≤ s.ctl.publishAttempts then s.rep.raise .memoryFault else s.rep)
       ∧ (∃ p, t.ip.port = some p ∧ p.claimant = .publish ∧ p.write = true
           ∧ p.addr = s.ctl.pageBase + t.ctl.publishOffset.setWidth 18 ∧ p.data = defaultWord t.ctl.publishOffset.toNat)
       ∧ t = { s with ctl := t.ctl, rep := t.rep, ip := t.ip, lines := t.lines })
  ∧ (∀ (r : MemEnd) (s : State), s.awaits .publish = true → s.ctl.part = .publish → s.ctl.publishOffset = 0xFF →
     (isDone r = true ∨ 2 ≤ s.ctl.publishAttempts) →
     ∃ u : State,
       ((∀ h, s.ip.host = some h → h.wait ≠ .untilServed) →
         exec (.publishWordCompletion r) s = .next (finish u))
       ∧ (∀ h, s.ip.host = some h → h.wait = .untilServed →
           exec (.publishWordCompletion r) s
             = .next (finish (decodeTxn h.txn { u with ip := { u.ip with host := none } })))
       ∧ u.ctl = { s.ctl with part := .setup }
       ∧ (∀ i, u.axle.channels.get i
           = Channel.start (s.cfg.str.channels.get i) (some (s.now + s.cfg.tun.speed.standstillTimeout * 1000)))
       ∧ u.axle.held = s.axle.held
       ∧ u.ev = { s.ev with
           period := some (s.now + s.cfg.tun.slip.controlPeriod * 1000), length := s.cfg.tun.slip.controlPeriod * 1000 }
       ∧ u.rw =
           { s.rw with
             timer := some (s.now + s.cfg.tun.link.reportInterval * (s.cfg.tun.slip.controlPeriod * 1000))
             update := u.rw.update, pendingUpdate := u.rw.pendingUpdate }
       ∧ (s.rw.update = none →
           u.rw.update = some { window := none, record := 0, word := 0, contents := none, stopping := false }
           ∧ u.rw.pendingUpdate = s.rw.pendingUpdate)
       ∧ (s.rw.update ≠ none → u.rw.update = s.rw.update ∧ u.rw.pendingUpdate = true)
       ∧ u.chain = { s.chain with receiving := none, bits := { level := s.pins.chainIn, char := none } }
       ∧ u.rep = (if isDone r then s.rep else s.rep.raise .memoryFault)
       ∧ u.ip = { s.ip with port := none }
       ∧ u = { s with
           ctl := u.ctl, rep := u.rep, axle := u.axle, ev := u.ev, chain := u.chain, ip := u.ip, rw := u.rw })

/-- The words of the default image, taken one by one, make any configuration the default one, and each lies in its
range (R172, 12.2). A tuning write is in range when every item of its word lies in the range its chapter gives, and
limits keep min ≤ max ≤ 65534; a word with no item, and one whose bits have no range, always is (R173; R3, R43, R47,
R65, R79, R87, R92, R93, R95, R103, R120, R142, R158, R189 for the items). A taken tuning word sets the items its
layout names, from the bits it names, and no other; a word at an offset with no item sets none (12.2, R174). A taken
structure word sets the items its layout names, from the bits it names, and no other: a window entry, an axle channel,
or an item of the bogie and chain section; a length field of 0 stands for 1024 (12.2, R174, R192). -/
def Obligations.PageWordsFollowTheirLayout : Prop :=
  ((∀ c : StructureConfig, (List.range 48).foldl (fun c off => c.setWord off (defaultWord off)) c
         = StructureConfig.default)
   ∧ (∀ c : TuningConfig,
       (List.range 96).foldl (fun c k => c.setWord (0x40 + k) (defaultWord (0x40 + k))) c = TuningConfig.default)
   ∧ (List.range 96).all (fun k => tuningInRange (0x40 + k) (defaultWord (0x40 + k))) = true
   ∧ defaultWord 0xC0 = 0 ∧ defaultWord 0xC1 = 0 ∧ defaultWord 0xC2 = 0x003FFFFF)
  ∧ (∀ w : Word,
     let v := bits w 0 16
     let speed : List (Nat × Nat × Nat) :=
       [(0x4A, 100, 2000), (0x4B, 1000, 30000), (0x4C, 100, 4000), (0x4D, 100, 4000)]
     let slip : List (Nat × Nat × Nat) :=
       [(0x4E, 5, 50), (0x4F, 50, 2000), (0x50, 5, 300), (0x51, 50, 2000),
        (0x52, 5, 300), (0x53, 50, 2000), (0x54, 5, 300)]
       ++ [(0x55, 500, 20000), (0x56, 200, 10000), (0x57, 5, 200), (0x58, 2, 10)]
       ++ [(0x59, 100, 900), (0x5A, 100, 900), (0x5B, 1, 200), (0x5C, 1, 200)]
     let ceiling : List (Nat × Nat × Nat) := [(0x5D, 200, 1000), (0x5E, 0, 500), (0x5F, 1, 100), (0x60, 0, 1000)]
     let blend : List (Nat × Nat × Nat) :=
       [(0x61, 0, 500), (0x62, 0, 120), (0x63, 0, 255), (0x64, 0, 30000), (0x65, 0, 30000), (0x66, 1, 1000)]
       ++ [(0x67, 0, 20000), (0x68, 0, 20000), (0x69, 0, 20000), (0x6A, 0, 20000), (0x6B, 0, 20000), (0x6C, 0, 20000)]
       ++ [(0x6D, 0, 5000), (0x6E, 100, 5000), (0x6F, 50, 2000), (0x70, 500, 10000), (0x71, 50, 1000)]
     let others : List (Nat × Nat × Nat) := [(0x48, 1, 1000), (0x49, 2, 255),
       (0x77, 1, 50), (0x78, 1, 50), (0x7A, 1, 255)]
     (∀ off lo hi, (off, lo, hi) ∈ speed ++ slip ++ ceiling ++ blend ++ others →
       (tuningInRange off w = true ↔ lo ≤ v ∧ v ≤ hi))
     ∧ (∀ off, off = 0x40 ∨ off = 0x41 ∨ off = 0x42 →
       (tuningInRange off w = true ↔ bits w 0 16 ≤ bits w 16 16 ∧ bits w 16 16 ≤ 65534))
     ∧ (∀ off, 0x44 ≤ off → off ≤ 0x47 → (tuningInRange off w = true ↔ 1 ≤ bits w 0 8))
     ∧ (∀ off, 0x72 ≤ off → off ≤ 0x75 →
       (tuningInRange off w = true
         ↔ 1 ≤ bits w 22 6 ∧ bits w 22 6 ≤ 50 ∧ 10 ≤ bits w 13 9 ∧ bits w 13 9 ≤ 500 ∧ 100 ≤ bits w 0 13
           ∧ bits w 0 13 ≤ 5000))
     ∧ (∀ off, off = 0x43 ∨ off = 0x76 ∨ off = 0x79 ∨ 0x7B ≤ off → tuningInRange off w = true))
  ∧ (∀ (c : TuningConfig) (w : Word),
     let set (off : Nat) := c.setWord off w
     let v := bits w 0 16
     let limits : Limits := { min := bits w 0 16, max := bits w 16 16 }
     let refresh : Refresh := { budget := bits w 0 8, continuous := w.getLsbD 8 }
     let sander : SanderTuning :=
       { enabled := w.getLsbD 30, endB := w.getLsbD 29, forReverse := w.getLsbD 28, budget := bits w 22 6
         window := bits w 13 9, pulse := bits w 0 13 }
     set 0x40 = { c with intent.limits.tractionA := limits } ∧ set 0x41 = { c with intent.limits.tractionB := limits }
     ∧ set 0x42 = { c with intent.limits.brake := limits }
     ∧ set 0x44 = { c with intent.refresh.tractionA := refresh }
     ∧ set 0x45 = { c with intent.refresh.tractionB := refresh }
     ∧ set 0x46 = { c with intent.refresh.brake := refresh } ∧ set 0x47 = { c with intent.modeBudget := bits w 0 8 }
     ∧ set 0x48 = { c with intent.riseStep := v } ∧ set 0x49 = { c with link.portTimeout := v }
     ∧ set 0x4A = { c with speed.standstillTimeout := v } ∧ set 0x4B = { c with speed.plausibilityJump := v }
     ∧ set 0x4C = { c with speed.riseLimit := v } ∧ set 0x4D = { c with speed.fallLimit := v }
     ∧ set 0x4E = { c with slip.controlPeriod := v } ∧ set 0x4F = { c with slip.creepAbs := v }
     ∧ set 0x50 = { c with slip.creepRel := v } ∧ set 0x51 = { c with slip.excursionAbs := v }
     ∧ set 0x52 = { c with slip.excursionRel := v } ∧ set 0x53 = { c with slip.recoveryAbs := v }
     ∧ set 0x54 = { c with slip.recoveryRel := v } ∧ set 0x55 = { c with slip.accelerationLimit := v }
     ∧ set 0x56 = { c with slip.excursionTime := v } ∧ set 0x57 = { c with slip.repeatWindow := v }
     ∧ set 0x58 = { c with slip.repeatLimit := v } ∧ set 0x59 = { c with slip.floor := v }
     ∧ set 0x5A = { c with slip.drop := v } ∧ set 0x5B = { c with slip.decay := v }
     ∧ set 0x5C = { c with slip.recoveryStep := v } ∧ set 0x5D = { c with ceiling.floor := v }
     ∧ set 0x5E = { c with ceiling.margin := v } ∧ set 0x5F = { c with ceiling.raiseStep := v }
     ∧ set 0x60 = { c with ceiling.mergeDistance := v } ∧ set 0x61 = { c with blend.holdMargin := v }
     ∧ set 0x62 = { c with blend.maxGradient := v } ∧ set 0x63 = { c with blend.maxMass := v }
     ∧ set 0x64 = { c with blend.emergencyDemand := v } ∧ set 0x65 = { c with blend.fallbackBrake := v }
     ∧ set 0x66 = { c with blend.releaseStep := v } ∧ set 0x67 = { c with blend.edCap.a := v }
     ∧ set 0x68 = { c with blend.edCap.b := v } ∧ set 0x69 = { c with blend.frCap.a := v }
     ∧ set 0x6A = { c with blend.frCap.t := v } ∧ set 0x6B = { c with blend.frCap.b := v }
     ∧ set 0x6C = { c with blend.mtbEffort := v } ∧ set 0x6D = { c with blend.deficitThreshold := v }
     ∧ set 0x6E = { c with blend.deficitTime := v } ∧ set 0x6F = { c with blend.edLag := v }
     ∧ set 0x70 = { c with blend.probeInterval := v } ∧ set 0x71 = { c with blend.rollbackLimit := v }
     ∧ set 0x77 = { c with link.chainInterval := v } ∧ set 0x78 = { c with link.expectedInterval := v }
     ∧ set 0x7A = { c with link.reportInterval := v }
     ∧ set 0x72 = { c with sanders.s1 := sander } ∧ set 0x73 = { c with sanders.s2 := sander }
     ∧ set 0x74 = { c with sanders.s3 := sander } ∧ set 0x75 = { c with sanders.s4 := sander }
     ∧ set 0x76 = { c with supplyCode := w.extractLsb' 0 2 } ∧ set 0x79 = { c with link.alignment := w.getLsbD 0 }
     ∧ (∀ off, off = 0x43 ∨ 0x7B ≤ off → set off = c))
  ∧ (∀ (c : StructureConfig) (w : Word),
     let set (off : Nat) := c.setWord off w
     let v := bits w 0 16
     let entry : WindowEntry :=
       { code := w.extractLsb' 28 4,
         length := if bits w 18 10 = 0 then 1024 else bits w 18 10, base := w.extractLsb' 0 18 }
     let channel : ChannelItems :=
       { enabled := w.getLsbD 28, reversed := w.getLsbD 27, debounce := w.extractLsb' 25 2,
         prescaler := w.extractLsb' 23 2
         countedEdge := w.extractLsb' 21 2, ppr := bits w 13 8, diameter := bits w 0 13 }
     (∀ i : Fin 16, set i.val = { c with windows := c.windows.set i entry })
     ∧ set 0x10 = { c with channels.a1 := channel } ∧ set 0x11 = { c with channels.a2 := channel }
     ∧ set 0x12 = { c with channels.t1 := channel } ∧ set 0x13 = { c with channels.t2 := channel }
     ∧ set 0x14 = { c with channels.b1 := channel } ∧ set 0x15 = { c with channels.b2 := channel }
     ∧ set 0x16 = { c with nominal.a := v } ∧ set 0x17 = { c with nominal.b := v }
     ∧ set 0x18 = { c with
         driveIsolated := ⟨w.getLsbD 0, w.getLsbD 1⟩, frictionIsolated := ⟨w.getLsbD 2, w.getLsbD 3, w.getLsbD 4⟩ }
     ∧ set 0x19 = { c with spacingAT := v } ∧ set 0x1A = { c with spacingAB := v }
     ∧ set 0x1B = { c with chainOffset := v }
     ∧ set 0x1C = { c with
         allocation :=
           #v[w.extractLsb' 0 3, w.extractLsb' 3 3, w.extractLsb' 6 3, w.extractLsb' 9 3, w.extractLsb' 12 3] }
     ∧ set 0x1D = { c with position := bits w 0 8, chainForward := w.extractLsb' 8 2 }
     ∧ (∀ off, 0x1E ≤ off → set off = c))

/-! ### Host transactions -/

/-- A full write to a TRACTION window: the clipped effort becomes the intent, the channel is LIVE, its timer is
restarted in REFRESHED mode and stopped in CONTINUOUS mode, a changed value is counted; the write is then a claim that
can only lower T_X, the TRACTION_X word with its tag by R13 is handed, and the host sees DONE (R4, R10, R11, R13,
R27). A full write to the BRAKE window is taken in the same way; the allocator then runs on the new intent, and the
host sees DONE (R4, R27). -/
def Obligations.EffortWritesAreTaken : Prop :=
  (∀ (m : Motor) (addr : Addr) (data : Word) (e : WindowEntry) (s : State),
     s.ip.host = none → s.inForce = true → s.target' addr = .window e →
     e.code = (Role.intent m.role).windowCode →
     let effort := bits data 0 16
     let limits := s.cfg.tun.intent.limits.get m.role
     let refresh := s.cfg.tun.intent.refresh.get m.role
     let taken := if limits.max < effort then limits.max else if effort < limits.min then limits.min else effort
     let goal :=
       if s.intent.accepted.regime = .traction ∧ s.intent.accepted.direction ≠ .neutral ∧ s.ctl.part ≠ .fallback
           ∧ s.cfg.str.driveIsolated.get m = false then
         min taken ((s.ceil.records.get m.bogie).k * s.cfg.str.nominal.get m / 1000)
           * (s.ev.bogies.get m.bogie).c / 1000
       else 0
     let held := min (s.intent.held.get m) goal
     let word :=
       if s.cfg.str.driveIsolated.get m then setpointWord 65535 .void
       else if s.ctl.part = .fallback then setpointWord held .fallback
       else if taken = held then setpointWord held .effective
       else setpointWord held .corrected
     let s1 : State :=
       { s with
         intent :=
           { s.intent with
             channels := s.intent.channels.set m.role
               { intent := some taken, fresh := .live
                 timer := if refresh.continuous then none else some (s.now + refresh.budget * 10 * 1000) }
             held := s.intent.held.set m held }
         rep := if taken = effort then s.rep else s.rep.bump 0 }
     exec (.tractionOrBrakeWrite addr data) s = .next (finish ((hand (.intent m.role) word s1).answered true)))
  ∧ (∀ (addr : Addr) (data : Word) (e : WindowEntry) (s : State),
     s.ip.host = none → s.inForce = true → s.target' addr = .window e → e.code = Role.windowCode (.intent .brake) →
     let effort := bits data 0 16
     let limits := s.cfg.tun.intent.limits.brake
     let refresh := s.cfg.tun.intent.refresh.brake
     let taken := if limits.max < effort then limits.max else if effort < limits.min then limits.min else effort
     let s1 : State :=
       { s with
         intent :=
           { s.intent with
             channels := s.intent.channels.set .brake
               { intent := some taken, fresh := .live
                 timer := if refresh.continuous then none else some (s.now + refresh.budget * 10 * 1000) } }
         rep := if taken = effort then s.rep else s.rep.bump 0 }
     s1.brakeIntent = taken
     ∧ exec (.tractionOrBrakeWrite addr data) s = .next (finish ((run false false s1).answered true)))

/-- A full write to the MODE window with a valid regime and direction is taken: the record replaces the intent and the
accepted MODE, the channel is LIVE with a restarted timer, both held tractions are claimed, a changed direction
empties the rail condition queue, a clipped gradient is counted, the MODE word is handed with its tag by R15 (FALLBACK
there, CORRECTED for a clipped gradient or hint code 3, else EFFECTIVE), and the host sees DONE. The taken event is
delivered once to each of its five blocks, intent table, allocator's run, sanding, reference and ceilings, in the
order that `order` names, R6 fixing none (log 10; claims and MODE word: log 45), and the rest holds in every order
(R5, R6, R11, R15, R18, R115). -/
def Obligations.ModeWriteIsTaken : Prop :=
  ∀ (addr : Addr) (data : Word) (order : Fin 120) (e : WindowEntry) (regime : Regime) (direction : Direction)
    (s : State),
    s.ip.host = none → s.inForce = true → s.target' addr = .window e → e.code = Role.windowCode .mode →
    data.extractLsb' 25 3 = regime.code → data.extractLsb' 23 2 = direction.code →
    let gradient := (data.extractLsb' 8 8).toInt
    let record : ModeRecord :=
      { regime := regime, direction := direction, gradient := max (-120) (min 120 gradient), mass := bits data 0 8
        rail := if bits data 21 2 = 0 then .dry else if bits data 21 2 = 1 then .wet else .poor
        sand := data.getLsbD 20 }
    let goal (m : Motor) : Nat :=
      if regime = .traction ∧ direction ≠ .neutral ∧ s.ctl.part ≠ .fallback ∧ s.cfg.str.driveIsolated.get m = false then
        min (s.intent.value m.role) ((s.ceil.records.get m.bogie).k * s.cfg.str.nominal.get m / 1000)
          * (s.ev.bogies.get m.bogie).c / 1000
      else 0
    let before := s.intent.accepted.direction
    let taken : State :=
      { s with
        intent :=
          { s.intent with
            mode :=
              { intent := some record, fresh := .live
                timer := some (s.now + s.cfg.tun.intent.modeBudget * 10 * 1000) }
            accepted := record
            adjusted := decide (gradient < -120) || decide (120 < gradient) || bits data 21 2 == 3 }
        rep := if gradient < -120 ∨ 120 < gradient then s.rep.bump Counter.rangeClipped.number else s.rep }
    let blocks : List (State → State) :=
      [fun x => handMode (claimBoth false x), run false false, sandModeTaken, referenceModeTaken before,
       ceilingModeTaken before]
    ∃ u, exec (.modeWrite addr data order) s = .next (finish u)
      ∧ (permuted order.val blocks).Perm blocks
      ∧ u = ((permuted order.val blocks).foldl (fun x f => f x) taken).answered true
      ∧ u.intent.accepted = record ∧ u.intent.mode = taken.intent.mode
      ∧ u.intent.adjusted = taken.intent.adjusted
      ∧ Handed s u .mode
          (modeWord record
            (if s.ctl.part = .fallback then .fallback
             else if gradient < -120 ∨ 120 < gradient ∨ bits data 21 2 = 3 then .corrected
             else .effective))
      ∧ u.rep.counter Counter.rangeClipped.number
          = ((if gradient < -120 ∨ 120 < gradient then s.rep.bump Counter.rangeClipped.number else s.rep).counter
              Counter.rangeClipped.number)
      ∧ (∀ m, u.intent.held.get m = min (s.intent.held.get m) (goal m))
      ∧ u.ceil = { s.ceil with queue := if direction = s.intent.accepted.direction then s.ceil.queue else [] }
      ∧ (direction = .neutral ∨ direction ≠ s.intent.accepted.direction → u.ref.rollback = 0)
      ∧ u.intent = { s.intent with
          mode := u.intent.mode, accepted := u.intent.accepted, adjusted := u.intent.adjusted
          held := u.intent.held, handed := u.intent.handed }
      ∧ u.ref = { s.ref with rollback := u.ref.rollback }
      ∧ u.ip.host = none ∧ u.ip.reply = some { ok := true, data := 0 }
      ∧ u.ip.port = s.ip.port ∧ u.ip.inflight = s.ip.inflight
      ∧ u = { s with
          intent := u.intent, ref := u.ref, ceil := u.ceil, ev := u.ev, blend := u.blend, sand := u.sand
          ip := u.ip, rep := u.rep }

/-- A full MODE write with a regime code 5 to 7 or a direction code 3 is refused: it completes FAULT, INTENT_INVALID
is raised, and nothing else changes (R5). A partial write to an INTENT window is refused before the table sees it:
FAULT, PARTIAL_WRITE, nothing else changes (R27). -/
def Obligations.RefusedIntentWritesChangeNothing : Prop :=
  (∀ (addr : Addr) (data : Word) (order : Fin 120) (e : WindowEntry) (s : State),
     s.ip.host = none → s.inForce = true → s.target' addr = .window e → e.code = Role.windowCode .mode →
     (5 ≤ bits data 25 3 ∨ bits data 23 2 = 3) →
     exec (.modeWrite addr data order) s = .next (finish ((s.raised .intentInvalid).answered false)))
  ∧ (∀ (addr : Addr) (data : Word) (lanes : BitVec 4) (e : WindowEntry) (s : State),
     s.ip.host = none → s.inForce = true → s.target' addr = .window e → e.code.toNat ≤ 4 → lanes ≠ 0xF →
     exec (.partialWriteRefused addr data lanes) s = .next (finish ((s.raised .partialWrite).answered false)))

/-- A write, full or partial, to an OUTPUT, REPORT or GUARD window is refused: FAULT, GUARDED_WRITE, nothing else
changes, and no claim for it reaches the arbiter; the same holds of a configuration-page write that is refused
(R28). -/
def Obligations.GuardedWriteIsRefused : Prop :=
  ∀ (addr : Addr) (data : Word) (lanes : BitVec 4) (s : State), s.ip.host = none →
    (∀ e, s.inForce = true → s.target' addr = .window e →
      (5 ≤ e.code.toNat ∧ e.code.toNat ≤ 9 ∨ e.code.toNat = 12 ∨ e.code.toNat = 13) →
      exec (.guardedWriteRefused addr data lanes) s = .next (finish ((s.raised .guardedWrite).answered false))
      ∧ ((s.raised .guardedWrite).answered false).ip.passClaims = false)
    ∧ (∀ off c, s.served = true → s.target' addr = .page off →
      s.judgePage off.toNat { addr := addr, write := true, lanes := lanes, data := data, order := 0 } = some c →
      exec (.guardedWriteRefused addr data lanes) s = .next (finish ((s.raised c).answered false))
      ∧ ((s.raised c).answered false).ip.passClaims = false)

/-- A transaction outside every window (a read in SETUP apart, which R39 may hold), a transaction with a FEEDBACK
window, a read of a GUARD window and a read of the page are forwarded: each becomes the pass-through claim (R26). A
transaction that arrives in PUBLISH or WAKING is held and changes nothing else; one that arrives in STANDBY is held
too, and wakes the part: WAKING with the settle timer at 256 µs (R25, R182). In RESET none is answered and none is
kept (R25). -/
def Obligations.TransactionsClaimOrAreHeld : Prop :=
  (∀ (t : HostTxn) (s : State), s.ip.host = none → s.served = true →
     (s.target' t.addr = .outside ∧ (t.write = true ∨ s.ctl.part ≠ .setup)
       ∨ (∃ e, s.target' t.addr = .window e ∧ (e.code.toNat = 10 ∨ e.code.toNat = 11))
       ∨ (∃ e, s.target' t.addr = .window e ∧ e.code.toNat = 13 ∧ t.write = false)
       ∨ (∃ off, s.target' t.addr = .page off ∧ t.write = false)) →
     exec (.hostTransactionForwarded t) s
       = .next (finish { s with ip := { s.ip with host := some { txn := t, wait := .claiming, page := none } } }))
  ∧ (∀ (t : HostTxn) (s : State), s.ip.host = none →
     let held : State := { s with ip := { s.ip with host := some { txn := t, wait := .untilServed, page := none } } }
     ((s.ctl.part = .publish ∨ s.ctl.part = .waking) → exec (.hostTransactionHeld t) s = .next (finish held))
     ∧ (s.ctl.part = .standby →
         exec (.busWake t) s
           = .next (finish { held with ctl := { s.ctl with part := .waking, settle := some (s.now + 256) } }))
     ∧ (s.ctl.part = .reset → ∀ addr data lanes order off row,
         row ∈ [Instr.hostTransactionForwarded t, .hostTransactionHeld t, .busWake t, .hostRead addr lanes,
           .tractionOrBrakeWrite addr data, .modeWrite addr data order, .partialWriteRefused addr data lanes,
           .guardedWriteRefused addr data lanes, .configPageWrite off data lanes] →
         exec row s = .next (finish s)))

/-- A read of an INTENT or OUTPUT window, or outside every window in SETUP, waits for the write-backs of its address
that are in flight or queued, and claims the port at once when there is none (R30, R39). With a flight alone it also
waits for the first entry for the address that joins during that flight. A write in flight that a RESTART discards
holds no read: the model's reading (log 20, DEDUCED). A read of the REPORT window waits while the record that holds
its offset is being written, at offsets 0 to 63; any other read of it claims the port at once (R31). A hold ends when
none of its entries is queued or in flight any more, or when its record is no longer being written; the read then
becomes the pass-through claim, and no other wait changes (R30, R31, R32). -/
def Obligations.ReadsWaitForWhatIsBeingWritten : Prop :=
  (∀ (addr : Addr) (lanes : BitVec 4) (s : State), s.ip.host = none → s.served = true →
     ((∃ e, s.target' addr = .window e ∧ e.code.toNat ≤ 9) ∨ (s.target' addr = .outside ∧ s.ctl.part = .setup)) →
     let flying := s.ip.flying.toList.filter fun e => e.addr = addr
     let queued := s.ip.queue.filter fun e => e.addr = addr
     let ids := (flying ++ queued).map (·.id)
     let wait : HostWait :=
       if flying ++ queued = [] then .claiming
       else .onEntries ids (if queued = [] then flying.head?.map (·.id) else none)
     exec (.hostRead addr lanes) s
       = .next (finish
           { s with
             ip :=
               { s.ip with
                 host := some
                   { txn := { addr := addr, write := false, lanes := lanes, data := 0, order := 0 }, wait := wait
                     page := none } } }))
  ∧ (∀ (addr : Addr) (lanes : BitVec 4) (e : WindowEntry) (s : State), s.ip.host = none → s.served = true →
     s.target' addr = .window e → e.code.toNat = 12 →
     let off := addr.toNat - e.base.toNat
     let wait : HostWait :=
       if off < 64 ∧ s.rw.writing = some (recordOf off) then .onRecord (recordOf off) else .claiming
     exec (.hostRead addr lanes) s
       = .next (finish
           { s with
             ip :=
               { s.ip with
                 host := some
                   { txn := { addr := addr, write := false, lanes := lanes, data := 0, order := 0 }, wait := wait
                     page := none } } }))
  ∧ (∀ (h : HostSlot) (s : State), s.ip.host = some h →
     let wait : HostWait :=
       match h.wait with
       | .onEntries ids watch => if ∃ i ∈ ids, i ∈ s.ip.ids then .onEntries ids watch else .claiming
       | .onRecord r => if s.rw.writing = some r then .onRecord r else .claiming
       | .untilServed => .untilServed
       | .claiming => .claiming
       | .onPort => .onPort
     releaseHolds s = { s with ip := { s.ip with host := some { h with wait := wait } } })

/-- A write to the configuration page is judged at its arrival by R173's table: refused with PARTIAL_WRITE,
CONFIG_COLLISION or GUARDED_WRITE, or made the pass-through claim, to be taken at its completion (R29, R173). -/
def Obligations.PageWriteIsJudged : Prop :=
  ∀ (off : BitVec 8) (data : Word) (lanes : BitVec 4) (s : State), s.ip.host = none → s.served = true →
    let refused (c : Cause) := (s.raised c).answered false
    let claimed : State :=
      { s with
        ip :=
          { s.ip with
            host := some
              { txn :=
                  { addr := s.ctl.pageBase + off.setWidth 18, write := true, lanes := lanes, data := data, order := 0 }
                wait := .claiming, page := some off } } }
    let o := off.toNat
    exec (.configPageWrite off data lanes) s
      = .next (finish
          (if lanes ≠ 0xF then refused .partialWrite
           else if o < 0x30 then (if s.ctl.part = .setup then claimed else refused .configCollision)
           else if 0x40 ≤ o ∧ o < 0xA0 then (if tuningInRange o data then claimed else refused .guardedWrite)
           else if 0xC0 ≤ o ∧ o ≤ 0xC2 then claimed
           else refused .guardedWrite))

/-! ### Completions of host transactions and page writes taken -/

/-- A forwarded transaction's completion is given to the host as memory gives it: DONE with the data of a read, or
FAULT, counted in FORWARD_FAULT; a page write that ends FAULT is not taken (R26, R29). A page write taken replaces the
items of its word and the host sees DONE; no other block acts at the words named here (R174). For the other offsets
see the statements on their commands. Each row of a page write taken acts as CONFIG_WRITE_TAKEN does at its own words
(R174). -/
def Obligations.HostCompletionsAreGivenAndTaken : Prop :=
  (∀ (h : HostSlot) (s : State), s.awaits .passThrough = true → s.ip.host = some h →
     (∀ d, h.page = none →
       exec (.forwardedCompletion (.done d)) s
         = .next (finish (s.completed true (if h.txn.write then 0 else d))))
     ∧ exec (.forwardedCompletion .fault) s = .next (finish ((s.completed false 0).counted .forwardFault)))
  ∧ (∀ (off : BitVec 8) (w : Word) (s : State), s.pageStands off w →
     (off.toNat < 0x10 ∨ 0x16 ≤ off.toNat ∧ off.toNat < 0x30 →
       exec .configWriteTaken s
         = .next (finish
             { s.completed true 0 with cfg := { s.cfg with str := s.cfg.str.setWord off.toNat w } }))
     ∧ ((off.toNat = 0x43 ∨ 0x47 ≤ off.toNat ∧ off.toNat < 0x72 ∨ 0x76 ≤ off.toNat ∧ off.toNat < 0xA0) →
       off.toNat ≠ 0x59 → off.toNat ≠ 0x5D →
       exec .configWriteTaken s
         = .next (finish
             { s.completed true 0 with cfg := { s.cfg with tun := s.cfg.tun.setWord off.toNat w } })))
  ∧ (∀ (off : BitVec 8) (w : Word) (s : State), s.pageStands off w →
     (off = 0xC0 → bits w 0 8 = 1 → exec .goActive s = exec .configWriteTaken s)
     ∧ (off = 0xC0 → bits w 0 8 = 2 → exec .goSetup s = exec .configWriteTaken s)
     ∧ (off = 0xC0 → bits w 0 8 = 3 → exec .restart s = exec .configWriteTaken s)
     ∧ (off = 0xC0 → bits w 0 8 = 4 → exec .standby s = exec .configWriteTaken s)
     ∧ (off = 0xC0 → bits w 0 8 = 0 ∨ 4 < bits w 0 8 → exec .commandBadValue s = exec .configWriteTaken s)
     ∧ (off = 0xC1 → exec .causeClear s = exec .configWriteTaken s)
     ∧ (off = 0xC2 → exec .attentionMaskWrite s = exec .configWriteTaken s)
     ∧ (0x40 ≤ off.toNat → off.toNat ≤ 0x48 → exec .intentTuningWrite s = exec .configWriteTaken s)
     ∧ (off = 0x59 → exec .correctionFloorWrite s = exec .configWriteTaken s)
     ∧ (off = 0x5D → exec .ceilingFloorWrite s = exec .configWriteTaken s)
     ∧ (0x72 ≤ off.toNat → off.toNat ≤ 0x75 → exec .sanderTuningWrite s = exec .configWriteTaken s)
     ∧ (0x10 ≤ off.toNat → off.toNat ≤ 0x15 → exec .channelStructureWrite s = exec .configWriteTaken s))

/-! ### Commands of the run word -/

/-- GO_ACTIVE in SETUP with an empty queue and slot and a valid structure is accepted: the window table is copied, the
part is ACTIVE with an empty cause set, the channels are ABSENT with running refresh timers, T_A and T_B are 0, the
accepted MODE is the default, the fetcher, transmitter and a follower's silence timer start, the hold timer starts
afresh in HELD, and the allocator's first run finds D_eff = 0 (R6, R7, R10, R19, R23, R44, R77, R139, R155, R169,
R175). With the reference source LOST, GO_ACTIVE in a valid SETUP is accepted and the blocks enter ACTIVE; then
REFERENCE_LOST is raised again and delivered, and the part is in FALLBACK with that one cause in its set: both
tractions are 0, H is of the maximum mass and gradient, D is the larger of it and the fallback brake, which D_eff
takes at once, and the MODE word carries tag FALLBACK (R15, R20, R77, R122, R123, R124, R138, R175, R177). -/
def Obligations.GoActiveEntersActive : Prop :=
  (∀ (w : Word) (s : State), s.pageStands 0xC0 w → bits w 0 8 = 1 → s.ctl.part = .setup → s.ip.queue = [] →
     s.ip.inflight = none → validate s.cfg.str s.ctl.pageBase = none → s.ref.source ≠ .lost →
     let period := s.cfg.tun.slip.controlPeriod * 1000
     let follower := 1 ≤ s.cfg.str.position ∧ s.cfg.str.position ≤ 3
     ∃ u, exec .goActive s = .next (finish u)
       ∧ u.ctl = { s.ctl with
           part := .active, causes := {}, validation := none, commandValue := 1, outcome := .accepted }
       ∧ u.ip.copy = s.cfg.str.windows ∧ u.ip.reply = some { ok := true, data := 0 } ∧ u.ip.host = none
       ∧ (∀ r, u.intent.channels.get r =
           { intent := none, fresh := .absent
             timer :=
               if (s.cfg.tun.intent.refresh.get r).continuous then none
               else some (s.now + (s.cfg.tun.intent.refresh.get r).budget * 10 * 1000) })
       ∧ u.intent.mode =
           { intent := none, fresh := .absent, timer := some (s.now + s.cfg.tun.intent.modeBudget * 10 * 1000) }
       ∧ u.intent.accepted = ModeRecord.default ∧ (∀ m, u.intent.held.get m = 0)
       ∧ u.ip.fetchTimer = some (s.now + period)
       ∧ u.ref = { s.ref with
           rollback := u.ref.rollback
           hold := if s.ref.source = .held then some (s.now + 200000) else s.ref.hold }
       ∧ u.blend.dEff = 0 ∧ u.blend.hill = .off ∧ u.blend.lines = false ∧ u.blend.deficit = 0
       ∧ u.chain.link = .searching ∧ u.chain.buffer = none
       ∧ u.chain.transmit = some (s.now + s.cfg.tun.link.chainInterval * period)
       ∧ u.chain.silence
           = (if follower then some (s.now + 3 * s.cfg.tun.link.expectedInterval * period) else none)
       ∧ (∀ i, (s.cfg.tun.sanders.get i).enabled = true →
           (u.sand.sanders.get i).remaining = (s.cfg.tun.sanders.get i).budget
             ∧ (u.sand.sanders.get i).windowStart = s.ref.odometer)
       ∧ u = { s with
           ctl := u.ctl, ip := u.ip, intent := u.intent, ref := u.ref, blend := u.blend, sand := u.sand
           chain := u.chain, ev := u.ev, rep := u.rep })
  ∧ (∀ (w : Word) (s : State), s.pageStands 0xC0 w → bits w 0 8 = 1 → s.ctl.part = .setup → s.ip.queue = [] →
     s.ip.inflight = none → validate s.cfg.str s.ctl.pageBase = none → s.ref.source = .lost →
     let period := s.cfg.tun.slip.controlPeriod * 1000
     let tun := s.cfg.tun.blend
     ∃ u, exec .goActive s = .next (finish u)
       ∧ u.ctl = { s.ctl with
           part := .fallback, causes := { referenceLost := true }, validation := none, commandValue := 1
           outcome := .accepted }
       ∧ u.rep.flag .referenceLost = true ∧ u.rep.flag .fallback = true
       ∧ u.ip.copy = s.cfg.str.windows ∧ u.ip.reply = some { ok := true, data := 0 } ∧ u.ip.host = none
       ∧ (∀ r, (u.intent.channels.get r).fresh = .absent) ∧ u.intent.mode.fresh = .absent
       ∧ u.intent.accepted = ModeRecord.default ∧ (∀ m, u.intent.held.get m = 0)
       ∧ u.intent.handed.get .mode = some (modeWord ModeRecord.default .fallback)
       ∧ u.ip.fetchTimer = some (s.now + period)
       ∧ u.chain.transmit = some (s.now + s.cfg.tun.link.chainInterval * period)
       ∧ u.blend.h = tun.maxMass * 250 * 981 * tun.maxGradient / 1000000 * (1000 + tun.holdMargin) / 1000
       ∧ u.blend.d = min 65534 (max u.blend.h tun.fallbackBrake) ∧ u.blend.dEff = u.blend.d
       ∧ u.blend.hill = .off ∧ u.ref = { s.ref with rollback := u.ref.rollback }
       ∧ u = { s with
           ctl := u.ctl, ip := u.ip, intent := u.intent, ref := u.ref, blend := u.blend, sand := u.sand
           chain := u.chain, ev := u.ev, rep := u.rep })

/-- After GO_ACTIVE from SETUP the queue holds the nine swept words, oldest first, in the order TRACTION_A,
TRACTION_B, BRAKE, MODE, ED_A, ED_B, FR_A, FR_T, FR_B, each for its window's base (R19, R34). -/
def Obligations.SweepQueuesNineWords : Prop :=
  ∀ (w : Word) (s : State), s.pageStands 0xC0 w → bits w 0 8 = 1 → s.ctl.part = .setup → s.ip.queue = [] →
    s.ip.inflight = none → validate s.cfg.str s.ctl.pageBase = none → s.ref.source ≠ .lost →
    ∃ u, exec .goActive s = .next (finish u)
      ∧ u.ip.queue.map (·.origin) =
          [.intent .tractionA, .intent .tractionB, .intent .brake, .mode, .output .edA, .output .edB, .output .frA,
            .output .frT, .output .frB]
      ∧ u.ip.queue.map (·.word) =
          [sweptWord s.cfg.str.driveIsolated.a, sweptWord s.cfg.str.driveIsolated.b, setpointWord 0 .default,
            modeWord ModeRecord.default .default, sweptWord s.cfg.str.driveIsolated.a,
            sweptWord s.cfg.str.driveIsolated.b, sweptWord s.cfg.str.frictionIsolated.a,
            sweptWord s.cfg.str.frictionIsolated.t, sweptWord s.cfg.str.frictionIsolated.b]
      ∧ (∀ e ∈ u.ip.queue, windowBase s.cfg.str.windows.toList e.origin.windowCode = some e.addr ∧ e.attempts = 0)

/-- GO_ACTIVE is declined, with COMMAND_REFUSED and its outcome, where its rules say so: NOT_READY while words drain,
SETUP_INVALID with the validation fault, NOT_READY in FALLBACK while a condition stands, WRONG_STATE in ACTIVE;
nothing else changes (R174, R175, R178). Validation answers the first fault in R176's order, with its place: the
window entries by index, each by the six tests in their order; the lowest role code that stands in no entry; the first
place of the allocation list that names no source or one that stands before it; the first enabled channel out of
range; the items of the bogie and chain section. A length field of 0 is length 1024, which passes for REPORT and GUARD
and is BAD_LENGTH for a role window (R23, R176, R192; log 43, DEDUCED), and an item of the section is named by its
page offset, the direction before the position (log 37). A run word with another value is declined with BAD_VALUE:
COMMAND_REFUSED is raised, the value is kept, the host sees DONE, and nothing else changes (R174). -/
def Obligations.CommandsAreDeclined : Prop :=
  (∀ (w : Word) (s : State), s.pageStands 0xC0 w → bits w 0 8 = 1 →
     let declined (x : CommandOutcome) (v : Option Validation) : State :=
       { (s.completed true 0).raised .commandRefused with
         ctl := { s.ctl with commandValue := 1, outcome := x, validation := v } }
     (s.ctl.part = .setup → (s.ip.queue ≠ [] ∨ s.ip.inflight ≠ none) →
       exec .goActive s = .next (finish (declined .notReady s.ctl.validation)))
     ∧ (∀ v, s.ctl.part = .setup → s.ip.queue = [] → s.ip.inflight = none →
       validate s.cfg.str s.ctl.pageBase = some v →
       exec .goActive s = .next (finish (declined .setupInvalid (some v))))
     ∧ (s.ctl.part = .fallback →
       (s.intent.mode.fresh = .stale ∨ s.ref.source = .lost ∨ s.rep.flag .memoryFault = true
         ∨ s.rep.flag .rollaway = true) →
       exec .goActive s = .next (finish (declined .notReady s.ctl.validation)))
     ∧ (s.ctl.part = .active → exec .goActive s = .next (finish (declined .wrongState s.ctl.validation))))
  ∧ (∀ (c : StructureConfig) (pageBase : Addr),
     let last (e : WindowEntry) : Nat := e.base.toNat + e.length - 1
     let page := pageBase.toNat
     let entryFault (earlier : List WindowEntry) (e : WindowEntry) : Option SetupFault :=
       let code := e.code.toNat
       if code = 0 then none
       else if 14 ≤ code then some .badCode
       else if code ≤ 11 ∧ e.length ≠ 1 ∨ code = 12 ∧ e.length < 64 then some .badLength
       else if 262143 < last e then some .range
       else if e.base.toNat ≤ page + 255 ∧ page ≤ last e then some .configOverlap
       else if ∃ x ∈ earlier, x.code ≠ 0 ∧ e.base.toNat ≤ last x ∧ x.base.toNat ≤ last e then some .overlap
       else if code ≤ 12 ∧ (∃ x ∈ earlier, x.code = e.code)
         ∨ code = 13 ∧ 4 ≤ earlier.countP (·.code = 13) then some .roleTwice
       else none
     let entriesPass := ∀ before e after, c.windows.toList = before ++ e :: after → entryFault before e = none
     let rolesPass := ∀ k, 1 ≤ k → k ≤ 12 → ∃ e ∈ c.windows.toList, e.code.toNat = k
     let badPlace (earlier : List (BitVec 3)) (x : BitVec 3) : Prop := 5 ≤ x.toNat ∨ x ∈ earlier
     let listPasses := ∀ before x after, c.allocation.toList = before ++ x :: after → ¬ badPlace before x
     let badChannel (t : ChannelItems) : Prop := t.enabled = true ∧
       ¬ (4500 ≤ t.diameter ∧ t.diameter ≤ 7200 ∧ 20 ≤ t.ppr ∧ t.ppr ≤ 200 ∧ t.countedEdge ≠ 3)
     let answers (f : SetupFault) (place : Nat) := validate c pageBase = some { fault := f, place := place }
     (∀ before e after f, c.windows.toList = before ++ e :: after → entryFault before e = some f →
       (∀ b x a, before = b ++ x :: a → entryFault b x = none) → answers f before.length)
     ∧ (∀ k, entriesPass → 1 ≤ k → k ≤ 12 → (∀ e ∈ c.windows.toList, e.code.toNat ≠ k) →
       (∀ j, 1 ≤ j → j < k → ∃ e ∈ c.windows.toList, e.code.toNat = j) → answers .roleMissing k)
     ∧ (∀ before x after, entriesPass → rolesPass → c.allocation.toList = before ++ x :: after → badPlace before x →
       (∀ b y a, before = b ++ y :: a → ¬ badPlace b y) → answers .allocList (before.length + 1))
     ∧ (∀ before t after, entriesPass → rolesPass → listPasses →
       c.channels.toList = before ++ t :: after → badChannel t →
       (∀ x ∈ before, ¬ badChannel x) → answers .channelParam before.length)
     ∧ (entriesPass → rolesPass → listPasses → (∀ t ∈ c.channels.toList, ¬ badChannel t) →
       validate c pageBase =
         if c.nominal.a < 1000 ∨ 30000 < c.nominal.a then some { fault := .range, place := 0x16 }
         else if c.nominal.b < 1000 ∨ 30000 < c.nominal.b then some { fault := .range, place := 0x17 }
         else if c.spacingAT < 100 ∨ 3000 < c.spacingAT then some { fault := .range, place := 0x19 }
         else if c.spacingAB < 200 ∨ 6000 < c.spacingAB ∨ c.spacingAB ≤ c.spacingAT then
           some { fault := .range, place := 0x1A }
         else if 10000 < c.chainOffset then some { fault := .range, place := 0x1B }
         else if c.chainForward = 0 ∨ c.chainForward = 3 then some { fault := .range, place := 0x1D }
         else if 3 < c.position then some { fault := .positionRange, place := 0x1D }
         else none))
  ∧ (∀ (w : Word) (s : State), s.pageStands 0xC0 w → (bits w 0 8 = 0 ∨ 4 < bits w 0 8) →
     exec .commandBadValue s
       = .next (finish
           { (s.completed true 0).raised .commandRefused with
             ctl := { s.ctl with commandValue := w.extractLsb' 0 8, outcome := .badValue } }))

/-- GO_ACTIVE in FALLBACK with MODE not STALE, the reference not LOST and MEMORY_FAULT and ROLLAWAY clear returns to
ACTIVE: the cause set is emptied, both tractions stand at most where they stood, the refresh timers run on, and one
run by the ACTIVE rules is made: D by R123, D_eff at once up and not down, the lines by R136, and a hill start that
stood OFF RELEASING under TRACTION below 50 mm/s with H above 0 and its F_hs by R134; the MODE word is handed with its
ACTIVE tag (R11, R15, R18, R20, R123, R124, R133, R134, R136, R138, R178). Choices of the model: the claims come
first, A's before B's, then the MODE word and then the run (logs 21 and 45, DESIGN CHOICE), and the hill start reads
the H of this run (log 48, DEDUCED). -/
def Obligations.GoActiveReturnsFromFallback : Prop :=
  ∀ (w : Word) (s : State), s.pageStands 0xC0 w → bits w 0 8 = 1 → s.ctl.part = .fallback →
    s.intent.mode.fresh ≠ .stale → s.ref.source ≠ .lost → s.rep.flag .memoryFault = false →
    s.rep.flag .rollaway = false →
    let returned : State :=
      { s.completed true 0 with
        ctl := { s.ctl with part := .active, causes := {}, commandValue := 1, outcome := .accepted } }
    let accepted := s.intent.accepted
    let standstill := s.blend.seenMagnitude < 50
    let brake := if s.intent.channels.brake.fresh = .live then s.intent.channels.brake.intent.getD 0 else 0
    let h := accepted.mass * 250 * 981 * accepted.gradient.natAbs / 1000000 * (1000 + s.cfg.tun.blend.holdMargin) / 1000
    let pull := (s.blend.achieved.a.getD 0).toNat + (s.blend.achieved.b.getD 0).toNat
    ∃ u, exec .goActive s = .next (finish u)
      ∧ u = run false true (handMode (claimBoth false returned))
      ∧ Handed s u .mode
          (modeWord accepted
            (if s.intent.mode.fresh = .absent then .default
             else if s.intent.adjusted = true then .corrected
             else .effective))
      ∧ u.ctl = { s.ctl with part := .active, causes := {}, commandValue := 1, outcome := .accepted }
      ∧ (∀ m, u.intent.held.get m = min (s.intent.held.get m) (returned.target m))
      ∧ (∀ m, u.intent.held.get m ≤ s.intent.held.get m)
      ∧ u.intent = { s.intent with held := u.intent.held, handed := u.intent.handed }
      ∧ u.blend.h = h
      ∧ u.blend.d = min 65534
          (match accepted.regime with
           | .hold => max brake h
           | .serviceBrake => if standstill then max brake h else brake
           | .coast => if standstill then h else 0
           | .traction => u.blend.fhs
           | .emergency => max brake s.cfg.tun.blend.emergencyDemand)
      ∧ u.blend.dEff = max s.blend.dEff u.blend.d
      ∧ (u.blend.lines = true ↔ 50 < s.blend.seenMagnitude
          ∧ (accepted.regime = .emergency ∨ s.blend.assist = true ∧ accepted.regime = .serviceBrake))
      ∧ (s.blend.hill = .off →
          u.blend.hill =
            (if accepted.regime = .coast ∨ accepted.regime = .emergency ∨ h = 0 ∨ ¬ standstill then .off
             else if accepted.regime = .traction then .releasing else .holding)
          ∧ u.blend.fhs = match u.blend.hill with
            | .off => 0 | .holding | .rollbackHold => h | .releasing => h - pull)
      ∧ (s.blend.hill = .off → u.sand = s.sand)
      ∧ u.ip.reply = some { ok := true, data := 0 } ∧ u.ip.fetchTimer = s.ip.fetchTimer
      ∧ u = { s with
          ctl := u.ctl, ip := u.ip, intent := u.intent, ref := u.ref, blend := u.blend, sand := u.sand, ev := u.ev
          rep := u.rep }

/-- GO_SETUP in ACTIVE under HOLD at rest is accepted: SETUP with the cause set emptied, refresh timers and fetcher
stopped, the evaluation abandoned, the rail condition queue emptied, the lines and pulses released, the link
SEARCHING; the configuration, the queue and the odometer stand (R21, R39, R44, R82, R101, R115, R139, R155, R169,
R179). That deficit assist is cleared is the model's reading of R139 (log 33, DEDUCED). Otherwise it is declined and
nothing else changes. -/
def Obligations.GoSetupLeavesActive : Prop :=
  ∀ (w : Word) (s : State), s.pageStands 0xC0 w → bits w 0 8 = 2 →
    let declined (x : CommandOutcome) : State :=
      { (s.completed true 0).raised .commandRefused with ctl := { s.ctl with commandValue := 2, outcome := x } }
    (s.ctl.part ≠ .active → exec .goSetup s = .next (finish (declined .wrongState)))
    ∧ (s.ctl.part = .active → (s.intent.accepted.regime ≠ .hold ∨ s.ref.magnitude ≠ 0) →
      exec .goSetup s = .next (finish (declined .notReady)))
    ∧ (s.ctl.part = .active → s.intent.accepted.regime = .hold → s.ref.magnitude = 0 →
      ∃ u, exec .goSetup s = .next (finish u)
        ∧ u.ctl = { s.ctl with
            part := .setup, causes := {}, fallbackPending := false, commandValue := 2, outcome := .accepted }
        ∧ (∀ r, (u.intent.channels.get r) = { s.intent.channels.get r with timer := none })
        ∧ u.intent.mode = { s.intent.mode with timer := none } ∧ u.intent.held = s.intent.held
        ∧ u.ip.fetchTimer = none ∧ u.ip.queue = s.ip.queue ∧ u.ip.inflight = s.ip.inflight
        ∧ u.ev.running = none ∧ (∀ y, u.ev.bogies.get y = BogieRecord.reset) ∧ (∀ i, u.ev.timers.get i = none)
        ∧ (∀ i, (u.ev.slips.get i).repeats = 0 ∧ (u.ev.slips.get i).mark = none)
        ∧ u.ceil = { s.ceil with queue := [] }
        ∧ u.blend.lines = false ∧ u.blend.assist = false ∧ u.blend.deficitTimer = none
        ∧ (∀ m, u.blend.lag.get m = none ∧ u.blend.probe.get m = none)
        ∧ (∀ i, (u.sand.sanders.get i).pulse = none) ∧ u.sand.trail = false ∧ u.sand.trailMark = none
        ∧ u.chain.link = .searching ∧ u.chain.silence = none ∧ u.chain.transmit = none
        ∧ u.rep = (if s.ev.running = none then s.rep else s.rep.bump Counter.evaluationAbandoned.number)
        ∧ u = { s with
            ctl := u.ctl, ip := u.ip, intent := u.intent, ev := u.ev, ceil := u.ceil, blend := u.blend, sand := u.sand
            chain := u.chain, rep := u.rep })

/-- RESTART in a served state takes the part to SETUP at once with restart cause COMMAND, and the RESTART column of
every reset table applies: the queue is discarded, a write in flight marked to be dropped, the fetch withdrawn, the
report update begun anew; the configuration, the window table copy, the odometer and its remainder, every K, the
flags, the counters and the mask are kept (R22, R40, R46, R64, R78, R102, R119, R140, R157, R170, R180, R184, R190,
R191). Choices of the model, on which R157 and R170 are silent: the sanding controller's remembered MODE values stand
(log 49, DESIGN CHOICE), and the character being received runs to its end (log 42, DESIGN CHOICE). -/
def Obligations.RestartResetsEveryBlock : Prop :=
  ∀ (w : Word) (s : State), s.pageStands 0xC0 w → bits w 0 8 = 3 → s.served = true →
    ∃ u, exec .restart s = .next (finish u)
      ∧ u.ctl = { s.ctl with
          part := .setup, restartCause := .command, causes := {}, fallbackPending := false, previous := none
          movementMark := false, settle := none, commandValue := 3, outcome := .accepted }
      ∧ u.ip = { s.ip with
          queue := [], inflight := s.ip.inflight.map fun f => { f with discarding := true }
          queueWait := 0, fetchWait := 0, fetchTimer := none, fetch := none
          port := none, host := none, reply := some { ok := true, data := 0 } }
      ∧ u.ip.copy = s.ip.copy ∧ u.ip.lastAbandoned = s.ip.lastAbandoned
      ∧ u.intent = { IntentTable.reset with addrs := s.intent.addrs }
      ∧ (∀ i, (s.axle.channels.get i).state ≠ .disabled →
          (u.axle.channels.get i).state = .settling ∧ (u.axle.channels.get i).positive = true
          ∧ (u.axle.channels.get i).history = none ∧ (u.axle.channels.get i).lastRaw = none
          ∧ (u.axle.channels.get i).filtered = none ∧ (u.axle.channels.get i).acceleration = none
          ∧ (u.axle.channels.get i).period = none ∧ (u.axle.channels.get i).settleCount = 0
          ∧ (u.axle.channels.get i).movement = 0 ∧ (u.axle.channels.get i).still = false
          ∧ (u.axle.channels.get i).standstill = some (s.now + s.cfg.tun.speed.standstillTimeout * 1000))
      ∧ (∀ i, (s.axle.channels.get i).state = .disabled → u.axle.channels.get i = s.axle.channels.get i)
      ∧ u.axle.held = false
      ∧ u.ref = { Reference.reset with odometer := s.ref.odometer, remainder := s.ref.remainder }
      ∧ u.ev = { Evaluator.reset with
          period := some (s.now + s.cfg.tun.slip.controlPeriod * 1000), length := s.cfg.tun.slip.controlPeriod * 1000 }
      ∧ (∀ y, u.ceil.records.get y = { CeilingRecord.reset with k := (s.ceil.records.get y).k })
      ∧ u.ceil.queue = [] ∧ u.ceil.outgoing = none
      ∧ u.blend = Allocator.reset
      ∧ (∀ i, u.sand.sanders.get i =
          { s.sand.sanders.get i with
            pulse := none, remaining := (s.cfg.tun.sanders.get i).budget, windowStart := s.ref.odometer })
      ∧ u.sand = { s.sand with
          sanders := u.sand.sanders, trail := false, trailMark := none, seenMagnitude := 0
          seenOdometer := s.ref.odometer, poorSeen := false }
      ∧ u.chain = { s.chain with
          receiving := none, buffer := none, link := .searching, silence := none, transmit := none, last := none }
      ∧ u.rep = (if s.ev.running = none then s.rep else s.rep.bump Counter.evaluationAbandoned.number)
      ∧ u.rw =
          { timer := some (s.now + s.cfg.tun.link.reportInterval * (s.cfg.tun.slip.controlPeriod * 1000))
            update := some { window := none, record := 0, word := 0, contents := none, stopping := false }
            pendingUpdate := false }
      ∧ u = { s with
          ctl := u.ctl, ip := u.ip, intent := u.intent, axle := u.axle, ref := u.ref, ev := u.ev, ceil := u.ceil
          blend := u.blend, sand := u.sand, chain := u.chain, rep := u.rep, rw := u.rw }

/-- STANDBY is accepted at rest with every usable channel STILL, in SETUP and, under HOLD, in ACTIVE: the previous
state is recorded; refresh timers, fetcher, control-period, hold, standstill, every excursion, deficit, lag, probe,
silence, transmit and report timers stop; the track-brake lines fall, deficit assist and the shortfalls are cleared,
the pulses stop and set the trail mark if one led; intents, words, C, K and the configuration stand (R21, R44, R62,
R77, R79, R82, R101, R139, R152, R155, R169, R181, R190). Otherwise it is declined and nothing else changes. -/
def Obligations.StandbyStopsTheBlocks : Prop :=
  ∀ (w : Word) (s : State), s.pageStands 0xC0 w → bits w 0 8 = 4 →
    let declined (x : CommandOutcome) : State :=
      { (s.completed true 0).raised .commandRefused with ctl := { s.ctl with commandValue := 4, outcome := x } }
    let ready := s.ref.magnitude = 0 ∧ (∀ i, (s.axle.channels.get i).state ≠ .valid)
      ∧ (s.ctl.part = .setup ∨ s.intent.accepted.regime = .hold)
    (s.ctl.part = .fallback → exec .standby s = .next (finish (declined .wrongState)))
    ∧ ((s.ctl.part = .setup ∨ s.ctl.part = .active) → ¬ ready → exec .standby s = .next (finish (declined .notReady)))
    ∧ ((s.ctl.part = .setup ∨ s.ctl.part = .active) → ready →
      ∃ u, exec .standby s = .next (finish u)
        ∧ u.ctl = { s.ctl with
            part := .standby, previous := some (if s.ctl.part = .setup then .setup else .active), commandValue := 4
            outcome := .accepted }
        ∧ (∀ r, (u.intent.channels.get r) = { s.intent.channels.get r with timer := none })
        ∧ u.intent.mode = { s.intent.mode with timer := none } ∧ u.intent.held = s.intent.held
        ∧ u.intent.accepted = s.intent.accepted ∧ u.intent.handed = s.intent.handed
        ∧ (∀ i, (s.axle.channels.get i).state ≠ .disabled →
            u.axle.channels.get i = { s.axle.channels.get i with standstill := none, movement := 0 })
        ∧ u.axle.held = false ∧ u.ref = { s.ref with hold := none }
        ∧ u.ev.period = none ∧ u.ev.running = none ∧ u.ev.bogies = s.ev.bogies ∧ u.ev.slips = s.ev.slips
        ∧ (∀ i, u.ev.timers.get i = none)
        ∧ u.ceil = s.ceil
        ∧ u.blend = { s.blend with
            lines := false, assist := false, deficitTimer := none
            shortfall := ⟨false, false⟩, lag := ⟨none, none⟩, probe := ⟨none, none⟩ }
        ∧ (∀ i, u.sand.sanders.get i = { s.sand.sanders.get i with pulse := none })
        ∧ ((∃ i, (s.sand.sanders.get i).pulse ≠ none ∧ s.leads i = true) →
            u.sand.trailMark = some (s.sand.seenOdometer + 2000))
        ∧ ((∀ i, s.leads i = true → (s.sand.sanders.get i).pulse = none) → u.sand.trailMark = s.sand.trailMark)
        ∧ u.chain.silence = none ∧ u.chain.transmit = none ∧ u.chain.link = s.chain.link
        ∧ u.rw = { s.rw with timer := none, pendingUpdate := false }
        ∧ u.ip.fetchTimer = none ∧ u.ip.fetch = none ∧ u.ip.queue = s.ip.queue ∧ u.ip.inflight = s.ip.inflight
        ∧ u.sand = { s.sand with sanders := u.sand.sanders, trailMark := u.sand.trailMark }
        ∧ u.rep = (if s.ev.running = none then s.rep else s.rep.bump Counter.evaluationAbandoned.number)
        ∧ u = { s with
            ctl := u.ctl, ip := u.ip, intent := u.intent, axle := u.axle, ref := u.ref, ev := u.ev, blend := u.blend
            sand := u.sand, chain := u.chain, rep := u.rep, rw := u.rw })

/-! ### Other page writes with an effect of their own -/

/-- A cause-clear word clears each flag whose bit among 21..0 is 1, keeps the others, and with bit 31 sets all forty
counters to 0. A cleared flag is set again at the next raise of its cause; a raise before the clear is cleared with
it; a raise counts only when it finds the flag clear (R186). -/
def Obligations.CauseClearClearsItsFlags : Prop :=
  (∀ (w : Word) (s : State), s.pageStands 0xC1 w →
     ∃ u, exec .causeClear s = .next (finish u)
       ∧ (∀ c, u.rep.flag c = (s.rep.flag c && !w.getLsbD c.number))
       ∧ (∀ i, u.rep.counter i = if w.getLsbD 31 then 0 else s.rep.counter i)
       ∧ u.rep.mask = s.rep.mask
       ∧ u = { s.completed true 0 with rep := u.rep })
  ∧ (∀ (r : Reporter) (c : Cause) (w : Word),
     ((r.clear w).raise c).flag c = true
     ∧ (w.getLsbD c.number = true → ((r.raise c).clear w).flag c = false)
     ∧ (r.flag c = true → r.raise c = r)
     ∧ (∀ i, r.flag c = false → c.latchCounter = some i →
         (r.raise c).counter i = if r.counter i < 65535 then r.counter i + 1 else r.counter i))

/-- An attention mask word replaces the whole mask with its bits 21..0, and the attention line then stands exactly
while some flag is set whose mask bit is set, at once; after every command it stands so in every state but RESET, and
is down in RESET (R187). -/
def Obligations.AttentionMaskActsAtOnce : Prop :=
  (∀ (w : Word) (s : State), s.pageStands 0xC2 w → s.ctl.part ≠ .reset →
     ∃ t, exec .attentionMaskWrite s = .next t
       ∧ t.rep = { s.rep with mask := w.extractLsb' 0 22 }
       ∧ (t.lines.attention = true ↔ ∃ c : Cause, s.rep.flag c = true ∧ w.getLsbD c.number = true)
       ∧ t.ip.host = none ∧ t.ip.reply = some { ok := true, data := 0 }
       ∧ t = { s with rep := t.rep, ip := t.ip, rw := t.rw, lines := t.lines })
  ∧ (∀ (c : Instr) (s : State), ∃ t, exec c s = .next t
     ∧ (t.lines.attention = true
         ↔ t.ctl.part ≠ .reset ∧ ∃ c : Cause, t.rep.flag c = true ∧ t.rep.mask.getLsbD c.number = true))

/-- A change of limits outside SETUP clips the stored intent at once, counting a change, and is then a claim on that
bogie; a word with the limits as they were changes nothing but the configuration, which R9 leaves open and log 29
(DEDUCED) fixes (R9). In SETUP the settings change alone. Changed BRAKE limits clip the brake intent, and a changed
intent leads to a run (R9). A change to CONTINUOUS cancels the refresh timer, one to REFRESHED starts it with the full
budget, and a change of budget alone leaves a running timer as it is; in SETUP nothing is started (R9). -/
def Obligations.IntentTuningActsAtItsTaking : Prop :=
  (∀ (m : Motor) (w : Word) (off : BitVec 8) (s : State), s.pageStands off w →
     off = (match m with | .a => 0x40 | .b => 0x41) →
     let old := s.cfg.tun.intent.limits.get m.role
     let new : Limits := { min := bits w 0 16, max := bits w 16 16 }
     let c := s.intent.channels.get m.role
     let clipped := c.intent.map fun v => if new.max < v then new.max else if v < new.min then new.min else v
     let s1 : State := { s.completed true 0 with cfg := { s.cfg with tun := s.cfg.tun.setWord off.toNat w } }
     s1.cfg.tun.intent.limits.get m.role = new
     ∧ (s.inForce = false ∨ new = old → exec .intentTuningWrite s = .next (finish s1))
     ∧ (s.inForce = true → new ≠ old →
         exec .intentTuningWrite s
           = .next (finish
               (claim false m
                 { s1 with
                   intent := { s.intent with channels := s.intent.channels.set m.role { c with intent := clipped } }
                   rep := if clipped = c.intent then s.rep else s.rep.bump 0 }))))
  ∧ (∀ (w : Word) (s : State), s.pageStands 0x42 w →
     let old := s.cfg.tun.intent.limits.brake
     let new : Limits := { min := bits w 0 16, max := bits w 16 16 }
     let c := s.intent.channels.brake
     let clipped := c.intent.map fun v => if new.max < v then new.max else if v < new.min then new.min else v
     let s1 : State := { s.completed true 0 with cfg := { s.cfg with tun := s.cfg.tun.setWord 0x42 w } }
     (s.inForce = false ∨ new = old ∨ clipped = c.intent → exec .intentTuningWrite s = .next (finish s1))
     ∧ (s.inForce = true → new ≠ old → clipped ≠ c.intent →
         exec .intentTuningWrite s
           = .next (finish
               (run false false
                 { s1 with
                   intent := { s.intent with
                       channels := { s.intent.channels with brake := { c with intent := clipped } } }
                   rep := s.rep.bump 0 }))))
  ∧ (∀ (r : EffortRole) (w : Word) (off : BitVec 8) (s : State), s.pageStands off w →
     off = (match r with | .tractionA => 0x44 | .tractionB => 0x45 | .brake => 0x46) →
     let old := s.cfg.tun.intent.refresh.get r
     let c := s.intent.channels.get r
     let timer : Timer :=
       if w.getLsbD 8 then none
       else if old.continuous then some (s.now + bits w 0 8 * 10 * 1000)
       else c.timer
     let s1 : State := { s.completed true 0 with cfg := { s.cfg with tun := s.cfg.tun.setWord off.toNat w } }
     (s.inForce = false → exec .intentTuningWrite s = .next (finish s1))
     ∧ (s.inForce = true →
         exec .intentTuningWrite s
           = .next (finish
               { s1 with
                 intent := { s.intent with channels := s.intent.channels.set r { c with timer := timer } } })))

/-- A correction floor word sets every C below it to it, in the published records and in the copy of an evaluation in
progress, and delivers no claim; a lower floor leaves every C (R98). A ceiling floor word sets every K below it to it,
delivers no ceiling lowering, and leaves the clean distances and the queue; a lower floor leaves every K (R108). -/
def Obligations.FloorWordsLiftTheFactors : Prop :=
  (∀ (w : Word) (s : State), s.pageStands 0x59 w →
     ∃ u, exec .correctionFloorWrite s = .next (finish u)
       ∧ u.cfg.tun = { s.cfg.tun with slip := { s.cfg.tun.slip with floor := bits w 0 16 } }
       ∧ (∀ y, u.ev.bogies.get y = { s.ev.bogies.get y with c := max (bits w 0 16) (s.ev.bogies.get y).c })
       ∧ (∀ e, s.ev.running = some e → ∃ e', u.ev.running = some e'
           ∧ (∀ y, (e'.bogies.get y).c = max (bits w 0 16) (e.bogies.get y).c) ∧ e'.slips = e.slips)
       ∧ u = { s.completed true 0 with cfg := u.cfg, ev := u.ev })
  ∧ (∀ (w : Word) (s : State), s.pageStands 0x5D w →
     ∃ u, exec .ceilingFloorWrite s = .next (finish u)
       ∧ u.cfg.tun = { s.cfg.tun with ceiling := { s.cfg.tun.ceiling with floor := bits w 0 16 } }
       ∧ (∀ y, u.ceil.records.get y = { s.ceil.records.get y with k := max (bits w 0 16) (s.ceil.records.get y).k })
       ∧ u.ceil.queue = s.ceil.queue ∧ u.ceil.outgoing = s.ceil.outgoing
       ∧ u = { s.completed true 0 with cfg := u.cfg, ceil := u.ceil })

/-- A sander word acts on its sander: disabling stops its pulse and level timer; enabling gives it the budget and a
window from the seen odometer; a smaller budget cuts what remains; a sander that stops leading stops its pulse; the
other sanders stand (R154). -/
def Obligations.SanderWordActsOnItsSander : Prop :=
  ∀ (i : SanderId) (w : Word) (off : BitVec 8) (s : State), s.pageStands off w →
    off = (match i with | .s1 => 0x72 | .s2 => 0x73 | .s3 => 0x74 | .s4 => 0x75) →
    let old := s.cfg.tun.sanders.get i
    let new := SanderTuning.ofWord w
    let r := s.sand.sanders.get i
    let leads := new.enabled ∧
      (s.intent.accepted.direction = .forward ∧ new.forReverse = false
        ∨ s.intent.accepted.direction = .reverse ∧ new.forReverse = true)
    let enabling := old.enabled = false ∧ new.enabled = true
    ∃ u, exec .sanderTuningWrite s = .next (finish u)
      ∧ u.cfg.tun = { s.cfg.tun with sanders := s.cfg.tun.sanders.set i new }
      ∧ (u.sand.sanders.get i) =
          { r with
            pulse := if leads then r.pulse else none
            level := if new.enabled then r.level else none
            levelFresh := r.levelFresh || decide enabling
            remaining := if enabling then new.budget else min r.remaining new.budget
            windowStart := if enabling then s.sand.seenOdometer else r.windowStart }
      ∧ (∀ j, j ≠ i → u.sand.sanders.get j = s.sand.sanders.get j)
      ∧ u.sand = { s.sand with sanders := u.sand.sanders, trailMark := u.sand.trailMark }
      ∧ u = { s.completed true 0 with cfg := u.cfg, sand := u.sand }

/-- A structure word of an axle channel, taken in SETUP, replaces the channel's items: a channel not enabled or out of
range becomes DISABLED with everything cleared; any other enters SETTLING with its standstill timer started and its
history, last raw sample, period and counts cleared (R60). -/
def Obligations.ChannelWordSendsItToSettling : Prop :=
  ∀ (i : Axle) (w : Word) (off : BitVec 8) (s : State), s.pageStands off w →
    off = (match i with | .a1 => 0x10 | .a2 => 0x11 | .t1 => 0x12 | .t2 => 0x13 | .b1 => 0x14 | .b2 => 0x15) →
    let items := ChannelItems.ofWord w
    let inRange := 4500 ≤ items.diameter ∧ items.diameter ≤ 7200 ∧ 20 ≤ items.ppr ∧ items.ppr ≤ 200
      ∧ items.countedEdge ≠ 3
    ∃ u, exec .channelStructureWrite s = .next (finish u)
      ∧ u.cfg.str = { s.cfg.str with channels := s.cfg.str.channels.set i items } ∧ u.cfg.tun = s.cfg.tun
      ∧ (¬ (items.enabled = true ∧ inRange) → u.axle.channels.get i = Channel.reset)
      ∧ (items.enabled = true ∧ inRange →
          (u.axle.channels.get i).state = .settling ∧ (u.axle.channels.get i).positive = true
          ∧ (u.axle.channels.get i).history = none ∧ (u.axle.channels.get i).lastRaw = none
          ∧ (u.axle.channels.get i).period = none ∧ (u.axle.channels.get i).illegal = 0
          ∧ (u.axle.channels.get i).settleCount = 0 ∧ (u.axle.channels.get i).cleanCount = 0
          ∧ (u.axle.channels.get i).still = false
          ∧ (u.axle.channels.get i).standstill = some (s.now + s.cfg.tun.speed.standstillTimeout * 1000))
      ∧ (∀ j, j ≠ i → u.axle.channels.get j = s.axle.channels.get j)
      ∧ u = { s.completed true 0 with cfg := u.cfg, axle := u.axle }

/-! ### The write-back queue and the memory port -/

/-- A formed word that differs from the role's last handed word, or finds none, is handed to the queue for the role's
address and becomes the last handed word; an equal one is not handed (R18). A word handed for a queued address
replaces that entry's word in place; any other word joins at the tail with attempts 0 and a number of its own; the
in-flight write is never changed (R34). The first entry that joins for the address of a held read's in-flight write,
while that is in flight, becomes the last member of the read's pending set; no other entry changes the set (R30). -/
def Obligations.DifferingWordsJoinTheQueue : Prop :=
  (∀ (role : Role) (w : Word) (s : State),
     (s.intent.handed.get role = some w → hand role w s = s)
     ∧ (∀ a, s.intent.handed.get role ≠ some w → s.intent.addrs.get role = some a →
         hand role w s
           = { s with
               intent := { s.intent with handed := s.intent.handed.set role (some w) }
               ip := s.ip.enqueue role a w }))
  ∧ (∀ (origin : Role) (addr : Addr) (word : Word) (ip : Interposer),
     let ip' := ip.enqueue origin addr word
     ip'.inflight = ip.inflight ∧ ip'.port = ip.port ∧ ip'.copy = ip.copy ∧ ip'.reply = ip.reply
     ∧ ((∃ e ∈ ip.queue, e.addr = addr) →
         ip'.queue = ip.queue.map (fun e => if e.addr = addr then { e with word := word } else e)
         ∧ ip'.host = ip.host ∧ ip'.queueWait = ip.queueWait)
     ∧ ((∀ e ∈ ip.queue, e.addr ≠ addr) →
         ∃ e, ip'.queue = ip.queue ++ [e] ∧ e.addr = addr ∧ e.word = word ∧ e.origin = origin ∧ e.attempts = 0
           ∧ (ip.queue = [] → ip'.queueWait = 0) ∧ (ip.queue ≠ [] → ip'.queueWait = ip.queueWait)
           ∧ e.id = ip.nextId ∧ ip'.nextId = ip.nextId + 1
           ∧ ip'.host = ip.host.map fun h =>
               match h.wait, ip.inflight with
               | .onEntries ids (some flight), some f =>
                 if f.entry.id = flight ∧ f.entry.addr = addr then
                   { h with wait := .onEntries (ids ++ [e.id]) none }
                 else h
               | _, _ => h))

/-- WRITEBACK_DONE: the entry is gone, the in-flight slot is empty and the port free; a read whose pending set held
the entry is checked again, and claims the port when nothing of its set is left (R36, R30). -/
def Obligations.WriteBackDoneEmptiesTheSlot : Prop :=
  ∀ s : State, s.awaits .queue = true →
    ∃ u, exec .writebackDone s = .next (finish u)
      ∧ u.ip.inflight = none ∧ u.ip.port = none ∧ u.ip.queue = s.ip.queue
      ∧ (∀ h ids watch, s.ip.host = some h → h.wait = .onEntries ids watch →
          (releaseHolds u).ip.host
            = some { h with
                wait := if ∃ i ∈ ids, i ∈ s.ip.queue.map (·.id) then .onEntries ids none else .claiming })
      ∧ u = { s with ip := { s.ip with port := none, inflight := none, host := u.ip.host } }

/-- WRITEBACK_FAILED: below the third attempt the entry returns to the head with its attempts raised, counted as a
retry, or is dropped as superseded when a newer word is queued; a discarded one is dropped and nothing is counted
(R37, R40). At the third failed attempt the entry is abandoned: its role is kept, the abandonment counted,
MEMORY_FAULT raised, and the role's last handed word is none; from ACTIVE the part enters FALLBACK with MEMORY_FAULT
in the cause set, where the words of that entry are handed and the role's own, found none, is handed whatever it is;
in FALLBACK the set takes it, and in STANDBY and WAKING fallback is pending (R18, R38, R177). -/
def Obligations.FailedWriteBacksRetryThenAreAbandoned : Prop :=
  (∀ (f : InFlight) (s : State), s.awaits .queue = true → s.ip.inflight = some f →
     let e : QueueEntry := { f.entry with attempts := f.entry.attempts + 1 }
     ∃ u, exec .writebackFailed s = .next (finish u)
       ∧ u.ip.inflight = none
       ∧ (f.discarding = true → u.ip.queue = s.ip.queue ∧ u.rep = s.rep ∧ u.intent = s.intent ∧ u.ctl = s.ctl)
       ∧ (f.discarding = false → f.entry.attempts < 2 → (∃ q ∈ s.ip.queue, q.addr = e.addr) →
           u.ip.queue = s.ip.queue ∧ u.rep = s.rep.bump Counter.writebackSuperseded.number ∧ u.intent = s.intent
           ∧ u.ctl = s.ctl)
       ∧ (f.discarding = false → f.entry.attempts < 2 → (∀ q ∈ s.ip.queue, q.addr ≠ e.addr) →
           u.ip.queue = e :: s.ip.queue ∧ u.ip.queueWait = 0
           ∧ u.rep = s.rep.bump Counter.writebackRetry.number ∧ u.intent = s.intent ∧ u.ctl = s.ctl)
       ∧ (f.discarding = true ∨ f.entry.attempts < 2 → u = { s with ip := u.ip, rep := u.rep }))
  ∧ (∀ (f : InFlight) (s : State), s.awaits .queue = true → s.ip.inflight = some f → f.discarding = false →
     2 ≤ f.entry.attempts →
     ∃ u, exec .writebackFailed s = .next (finish u)
       ∧ u.ip.inflight = none ∧ u.ip.lastAbandoned = some f.entry.origin
       ∧ u.rep.flag .memoryFault = true
       ∧ u.rep.counter Counter.writebackAbandoned.number
           = (s.rep.bump Counter.writebackAbandoned.number).counter Counter.writebackAbandoned.number
       ∧ (s.ctl.part ≠ .active →
           u.rep = (s.rep.bump Counter.writebackAbandoned.number).raise .memoryFault
           ∧ u.intent = { s.intent with handed := s.intent.handed.set f.entry.origin none }
           ∧ u.ip.queue = s.ip.queue)
       ∧ (s.ctl.part = .active → ∀ a, s.intent.addrs.get f.entry.origin = some a →
           ∃ w, u.intent.handed.get f.entry.origin = some w
             ∧ ((∀ r, r ≠ f.entry.origin → s.intent.addrs.get r ≠ some a) →
                 ∃ e ∈ u.ip.queue, e.addr = a ∧ e.word = w))
       ∧ (s.inForce = true →
           u.ctl = { s.ctl with part := .fallback, causes := { s.ctl.causes with memoryFault := true } })
       ∧ ((s.ctl.part = .standby ∨ s.ctl.part = .waking) → u.ctl = { s.ctl with fallbackPending := true })
       ∧ u.intent = { s.intent with held := u.intent.held, handed := u.intent.handed }
       ∧ u = { s with
           ctl := u.ctl, ip := u.ip, intent := u.intent, ref := u.ref, ev := u.ev, blend := u.blend, sand := u.sand
           rep := u.rep })

/-- A memory-port timeout ends the transaction as a FAULT completion ends it, for every claimant, and the completion
that the memory has not given may still come (R43; log 44). The timeout of a host transaction, in full: the port is
free, the host sees FAULT and FORWARD_FAULT counts (R26, R43). A late completion of a transaction that has timed out
is ignored and completes no later one: with none of the claimant on the port it leaves only the record that it has
come; with one on the port, a completion is either the late one, ignored, or that transaction's own, and a free value
says which, as the rows name no transaction (R43; log 44, DESIGN CHOICE). A completion of no transaction at all, of a
page write where none is on the port, or of no evaluation, and an expiry of any timer that does not run, change
nothing but what follows every command: the model's choices for events that cannot occur (logs 7 and 4). -/
def Obligations.TimeoutEndsAsFault : Prop :=
  (∀ (p : PortTxn) (s : State), s.ip.port = some p →
     let late : State :=
       { s with
         now := max s.now p.deadline
         memory := { s.memory with unanswered := p.claimant :: s.memory.unanswered } }
     let endsAs (row : Instr) (effect : State → State) : Prop :=
       exec .memoryPortTimeout s = .next (finish (effect late))
       ∧ ∀ x : State, x.awaits p.claimant = true → exec row x = .next (finish (effect x))
     (p.claimant = .publish → endsAs (.publishWordCompletion .fault) (publishWordEnd false))
     ∧ (p.claimant = .passThrough → endsAs (.forwardedCompletion .fault) (passEnd .fault))
     ∧ (p.claimant = .queue → endsAs .writebackFailed writebackFailed)
     ∧ (p.claimant = .fetcher → endsAs (.fetchReadCompletion .fault) (fetchRead .fault))
     ∧ (p.claimant = .report → endsAs (.reportWordCompletion .fault) (reportWordEnd false)))
  ∧ (∀ (p : PortTxn) (h : HostSlot) (s : State), s.ip.port = some p → p.claimant = .passThrough → s.ip.host = some h →
     let late : State :=
       { s with
         now := max s.now p.deadline, memory := { s.memory with unanswered := .passThrough :: s.memory.unanswered } }
     exec .memoryPortTimeout s = .next (finish ((late.completed false 0).counted .forwardFault)))
  ∧ (∀ (r : MemEnd) (s : State),
     let pageRows : List Instr :=
       [.configWriteTaken, .goActive, .goSetup, .restart, .standby, .commandBadValue, .causeClear, .attentionMaskWrite]
       ++ [.intentTuningWrite, .correctionFloorWrite, .ceilingFloorWrite, .sanderTuningWrite, .channelStructureWrite]
     let idle (row : Instr) : Prop := exec row s = .next (finish s)
     let still (t : Timer) (row : Instr) : Prop := t = none → idle row
     (let ignored (x : State) (c : Claimant) : State :=
       { x with memory := { x.memory with unanswered := x.memory.unanswered.erase c } }
      let drawn : State := { s with memory := { s.memory with drawn := s.memory.drawn + 1 } }
      let judged (c : Claimant) (row : Instr) (effect : State → State) : Prop :=
       (s.owed c = true → s.onPort c = false → exec row s = .next (finish (ignored s c)))
       ∧ (s.owed c = true → s.onPort c = true →
           exec row s = .next (finish (ignored drawn c)) ∨ exec row s = .next (finish (effect drawn)))
      judged .publish (.publishWordCompletion r) (publishWordEnd (isDone r))
      ∧ judged .passThrough (.forwardedCompletion r) (passEnd r)
      ∧ judged .queue .writebackDone writebackDone ∧ judged .queue .writebackFailed writebackFailed
      ∧ judged .fetcher (.fetchReadCompletion r) (fetchRead r)
      ∧ judged .report (.reportWordCompletion r) (reportWordEnd (isDone r))
      ∧ (s.owed .passThrough = true → s.onPort .passThrough = false → ∀ row,
          row ∈ pageRows → exec row s = .next (finish (ignored s .passThrough))))
     ∧ (s.onPort .publish = false → s.owed .publish = false → idle (.publishWordCompletion r))
     ∧ (s.onPort .passThrough = false → s.owed .passThrough = false → idle (.forwardedCompletion r))
     ∧ (s.owed .passThrough = false → (s.onPort .passThrough = false ∨ ∀ h, s.ip.host = some h → h.page = none) →
         ∀ row, row ∈ pageRows → idle row)
     ∧ (s.onPort .queue = false → s.owed .queue = false → idle .writebackDone ∧ idle .writebackFailed)
     ∧ (s.onPort .fetcher = false → s.owed .fetcher = false → idle (.fetchReadCompletion r))
     ∧ (s.onPort .report = false → s.owed .report = false → idle (.reportWordCompletion r))
     ∧ (s.ev.running = none → ∀ order, idle (.evaluationCompletion order))
     ∧ (s.ip.port = none → idle .memoryPortTimeout) ∧ still s.ip.fetchTimer .fetcherTimerExpiry
     ∧ (∀ x, still (s.intent.channels.get x).timer (.refreshTimerExpiry (.effort x)))
     ∧ still s.intent.mode.timer (.refreshTimerExpiry .mode) ∧ still s.ref.hold .holdTimerExpiry
     ∧ (∀ i, still (s.axle.channels.get i).standstill (.standstillTimerExpiry i)
         ∧ still (s.ev.timers.get i) (.excursionTimerExpiry i))
     ∧ (∀ m, still (s.blend.lag.get m) (.lagTimerExpiry m) ∧ still (s.blend.probe.get m) (.probeTimerExpiry m))
     ∧ still s.blend.deficitTimer .deficitTimerExpiry
     ∧ (∀ i, still (s.sand.sanders.get i).pulse (.pulseTimerExpiry i)
         ∧ still (s.sand.sanders.get i).level (.levelTimerExpiry i))
     ∧ still s.chain.silence .silenceTimerExpiry ∧ still s.chain.transmit .transmitStart
     ∧ still s.ev.period .controlPeriodExpiry ∧ still s.ctl.settle .settleTimerExpiry
     ∧ still s.rw.timer .reportTimerExpiry)

/-- The fetcher's periodic timer begins a fetch of ACH_A, or, while the last fetch has not ended, counts FETCH_SKIPPED
and leaves that fetch to carry on (R44). A fetched word is valid when it is read DONE with its check nibble right and
tag 8; its effort is bits 15..0, signed (R45). The ACH_A read of a fetch ends: its word is kept or marked invalid and
counted, and the ACH_B read is claimed. The ACH_B read ends the fetch: one feedback delivery stores both achieved
efforts, an invalid or isolated one as 0, and raises FEEDBACK_INVALID for an invalid word of a drive that is not
isolated. A withdrawn fetch delivers nothing (R44, R45, R130); that its invalid word is still counted is the model's
reading (log 19, DEDUCED). -/
def Obligations.FetchesReadBothWords : Prop :=
  (∀ (d : Nat) (s : State), s.ip.fetchTimer = some d →
     let at' := max s.now d
     let next := some (at' + s.cfg.tun.slip.controlPeriod * 1000)
     (s.ip.fetch = none →
       exec .fetcherTimerExpiry s
         = .next (finish
             { s with
               now := at'
               ip :=
                 { s.ip with
                   fetchTimer := next, fetch := some { second := false, achA := none, withdrawn := false }
                   fetchWait := 0 } }))
     ∧ (s.ip.fetch ≠ none →
         exec .fetcherTimerExpiry s
           = .next (finish
               { s with
                 now := at', ip := { s.ip with fetchTimer := next }, rep := s.rep.bump Counter.fetchSkipped.number })))
  ∧ (∀ w : Word,
     (w.extractLsb' 28 4 = checkNibble w → bits w 16 4 = 8 → achievedBy (.done w) = some (w.extractLsb' 0 16).toInt)
     ∧ (w.extractLsb' 28 4 ≠ checkNibble w ∨ bits w 16 4 ≠ 8 → achievedBy (.done w) = none)
     ∧ achievedBy .fault = none)
  ∧ (∀ (r : MemEnd) (f : Fetch) (s : State), s.awaits .fetcher = true → s.ip.fetch = some f →
     let got := achievedBy r
     let rep := if got = none then s.rep.bump Counter.feedbackRejected.number else s.rep
     (f.withdrawn = true →
       exec (.fetchReadCompletion r) s
         = .next (finish { s with rep := rep, ip := { s.ip with port := none, fetch := none } }))
     ∧ (f.withdrawn = false → f.second = false →
         exec (.fetchReadCompletion r) s
           = .next (finish
               { s with
                 rep := rep
                 ip :=
                   { s.ip with
                     port := none, fetch := some { second := true, achA := got, withdrawn := false }
                     fetchWait := 0 } }))
     ∧ (f.withdrawn = false → f.second = true →
         let invalid := s.cfg.str.driveIsolated.a = false ∧ f.achA = none
           ∨ s.cfg.str.driveIsolated.b = false ∧ got = none
         let s1 : State :=
           { s with
             rep := if invalid then rep.raise .feedbackInvalid else rep
             ip := { s.ip with port := none, fetch := none }
             blend :=
               { s.blend with
                 achieved :=
                   { a := some (if s.cfg.str.driveIsolated.a then 0 else f.achA.getD 0)
                     b := some (if s.cfg.str.driveIsolated.b then 0 else got.getD 0) } } }
         (s.inForce = true → exec (.fetchReadCompletion r) s = .next (finish (run false false s1)))
         ∧ (s.inForce = false → exec (.fetchReadCompletion r) s = .next (finish s1))))

/-! ### The report writer -/

/-- The report timer is periodic; its expiry makes an update due, which begins, or is pending while another is being
written (R189). A report word's write ends: a failed one is counted and not retried; the writer goes on to the
record's next word, to the next record while the block is written, and at the update's end to a pending update (R189,
R190). The records of an update have the lengths of R189, and the REPORT window holds each at its offsets, one after
the other from 0 to 63. A grant to the report writer takes a record's contents, all together, at its first word, and
writes the word now due to its address: the page header at page offsets 0xF8 to 0xFF, any other record at its offset
from the REPORT window's base (R189). The words of each record hold the fields of 12.3 with the codes it gives them,
and 0 elsewhere; a value beyond its field is limited and an absent one is 0 (R192, R193). That the four cause bits of
HEADER 0 stand from bit 8 up in the order 12.3 names them is the model's reading (log 15). -/
def Obligations.ReportsAreWrittenWordByWord : Prop :=
  (∀ (d : Nat) (s : State), s.rw.timer = some d →
     let at' := max s.now d
     let next := some (at' + s.cfg.tun.link.reportInterval * (s.cfg.tun.slip.controlPeriod * 1000))
     exec .reportTimerExpiry s
       = .next (finish
           { s with
             now := at'
             rw :=
               if s.rw.update = none then
                 { s.rw with
                   timer := next
                   update := some
                     { window := if s.inForce then windowBase s.ip.copy.toList 12 else none, record := 0, word := 0
                       contents := none, stopping := false } }
               else { s.rw with timer := next, pendingUpdate := true } }))
  ∧ (∀ (r : MemEnd) (u : Update) (s : State), s.awaits .report = true → s.rw.update = some u →
     let fresh : Update :=
       { window := if s.inForce then windowBase s.ip.copy.toList 12 else none, record := 0, word := 0
         contents := none, stopping := false }
     let after : Option Update :=
       if u.stopping then none
       else if u.word + 1 < recordLength u.record then some { u with word := u.word + 1 }
       else if u.window ≠ none ∧ u.record < 18 then some { u with record := u.record + 1, word := 0, contents := none }
       else none
     u.record ≤ 18 →
     exec (.reportWordCompletion r) s
       = .next (finish
           { s with
             ip := { s.ip with port := none }
             rep := if r = .fault then s.rep.bump 25 else s.rep
             rw :=
               if after ≠ none then { s.rw with update := after }
               else if s.rw.pendingUpdate then { s.rw with update := some fresh, pendingUpdate := false }
               else { s.rw with update := none } }))
  ∧ ((∀ s : State, ∀ r : Fin 19, (s.recordWords r.val).length = recordLength r.val)
   ∧ ((List.range 19).drop 1).flatMap (fun r => (List.range (recordLength r)).map (recordOffset r + ·)) = List.range 64
   ∧ (∀ off : Fin 64, recordOffset (recordOf off.val) ≤ off.val
       ∧ off.val < recordOffset (recordOf off.val) + recordLength (recordOf off.val)))
  ∧ (∀ (u : Update) (s : State), s.rw.update = some u →
     let t := grant .report s
     let contents := match u.contents with | some l => l | none => s.recordWords u.record
     t.rw = { s.rw with update := some { u with contents := some contents } }
     ∧ ∃ p, t.ip.port = some p ∧ p.claimant = .report ∧ p.write = true ∧ p.lanes = 0xF
         ∧ p.data = contents.getD u.word 0
         ∧ (u.record = 0 ∨ u.window = none → p.addr = s.ctl.pageBase + 0xF8 + BitVec.ofNat 18 u.word)
         ∧ (∀ base, u.record ≠ 0 → u.window = some base →
             p.addr = base + BitVec.ofNat 18 (recordOffset u.record + u.word)))
  ∧ (∀ s : State,
     let f (lo n v : Nat) : Word := BitVec.ofNat 32 (min v (2 ^ n - 1) * 2 ^ lo)
     let b (i : Nat) (x : Bool) : Word := if x then BitVec.twoPow 32 i else 0
     let g (lo : Nat) (v : Int) : Word := (BitVec.ofInt 16 (max (-32768) (min 32767 v))).setWidth 32 <<< lo
     let axle (i : Axle) : List Word :=
       let c := s.axle.channels.get i
       let r := s.ev.slips.get i
       [f 0 3 c.state.code ||| f 4 3 r.state.code ||| f 8 4 r.repeats, g 0 (c.filtered.getD 0) ||| g 16 (r.slip.getD 0)]
     let bogie (y : Bogie) (traction electric friction : Nat) : List Word :=
       let e := s.ev.bogies.get y
       let k := s.ceil.records.get y
       [f 0 10 e.c ||| f 16 10 k.k, f 0 10 k.clean ||| b 16 e.poor ||| b 17 e.blind ||| b 18 e.inExcursion,
         f 0 16 traction, f 0 16 electric ||| f 16 16 friction]
     let sander (i : SanderId) : List Word :=
       let r := s.sand.sanders.get i
       let state :=
         if (s.cfg.tun.sanders.get i).enabled = false then 0 else if s.sand.supplyGood = false then 4
         else if r.full = false then 3 else if r.pulse = none then 1 else 2
       [f 0 3 state ||| f 4 3 (match r.last with | none => 0 | some k => k.code) ||| f 8 6 r.remaining
         ||| b 14 (!s.sand.supplyGood) ||| b 15 s.sand.trail ||| f 16 16 r.withheld]
     let origin (r : Option Role) : Nat := match r with | none => 0 | some r => r.windowCode.toNat
     s.recordWords 0 = s.recordWords 1
     ∧ s.recordWords 1 =
         [f 0 4 s.ctl.part.code ||| b 8 s.ctl.causes.modeStale ||| b 9 s.ctl.causes.referenceLost
             ||| b 10 s.ctl.causes.memoryFault ||| b 11 s.ctl.causes.rollaway,
           f 0 2 s.ctl.restartCause.code, f 0 8 s.ctl.commandValue.toNat ||| f 8 3 s.ctl.outcome.code,
           (match s.ctl.validation with | none => 0 | some v => f 8 8 v.fault.code ||| f 0 8 v.place),
           s.rep.flags.setWidth 32,
           g 0 (if s.ref.sense = .reverse then -(s.ref.magnitude : Int) else s.ref.magnitude),
           f 0 2 s.ref.source.code ||| f 4 2 s.ref.sense.code, s.ref.odometer]
     ∧ s.recordWords 2 = axle .a1 ∧ s.recordWords 3 = axle .a2 ∧ s.recordWords 4 = axle .t1 ∧ s.recordWords 5 = axle .t2
     ∧ s.recordWords 6 = axle .b1 ∧ s.recordWords 7 = axle .b2
     ∧ s.recordWords 8 = bogie .a s.intent.held.a s.blend.alloc.edA s.blend.alloc.frA
     ∧ s.recordWords 9 = bogie .t 0 0 s.blend.alloc.frT
     ∧ s.recordWords 10 = bogie .b s.intent.held.b s.blend.alloc.edB s.blend.alloc.frB
     ∧ s.recordWords 11 = sander .s1 ∧ s.recordWords 12 = sander .s2 ∧ s.recordWords 13 = sander .s3
     ∧ s.recordWords 14 = sander .s4
     ∧ s.recordWords 15 =
         [f 0 16 s.blend.dEff ||| f 16 16 s.blend.deficit,
           f 0 2 s.blend.hill.code ||| b 4 s.blend.lines ||| b 5 s.blend.assist ||| b 8 s.blend.shortfall.a
             ||| b 9 s.blend.shortfall.b,
           f 0 16 s.blend.h ||| f 16 16 s.blend.fhs, f 0 16 s.blend.mtb]
     ∧ s.recordWords 16 =
         [f 0 4 s.ip.queue.length ||| f 4 4 (origin (s.ip.inflight.map (·.entry.origin)))
             ||| f 8 4 (origin s.ip.lastAbandoned) ||| f 16 4 s.ceil.queue.length,
           (match s.ceil.queue with | [] => 0 | n :: _ => n.mark - s.ref.odometer)]
     ∧ s.recordWords 17 =
         [f 0 2 s.chain.link.code
             ||| (match s.chain.last with
                  | none => 0
                  | some l => b 8 true ||| f 12 3 l.regime.code.toNat ||| f 16 2 l.direction.code.toNat
                      ||| b 20 l.sand),
           (match s.ref.chainRef with | none => 0 | some v => g 0 v ||| b 16 true)]
     ∧ (∀ k : Fin 20, (s.recordWords 18)[k.val]?
         = some (f 0 16 (s.rep.counter ⟨2 * k, by omega⟩) ||| f 16 16 (s.rep.counter ⟨2 * k + 1, by omega⟩)))
     ∧ [PartState.setup, .active, .fallback, .standby, .waking].map PartState.code = [0, 1, 2, 3, 4]
     ∧ [RestartCause.power, .line, .command].map RestartCause.code = [1, 2, 3]
     ∧ [CommandOutcome.none, .accepted, .badValue, .wrongState, .notReady, .setupInvalid].map CommandOutcome.code
         = [0, 1, 2, 3, 4, 5]
     ∧ [SetupFault.overlap, .configOverlap, .range, .badCode, .badLength, .roleTwice, .roleMissing, .allocList,
         .channelParam, .positionRange].map SetupFault.code = [1, 2, 3, 4, 5, 6, 7, 8, 9, 10]
     ∧ [RefSource.own, .chain, .held, .lost].map RefSource.code = [0, 1, 2, 3]
     ∧ [Sense.none, .forward, .reverse].map Sense.code = [0, 1, 2]
     ∧ [ChannelState.disabled, .settling, .valid, .still, .fault].map ChannelState.code = [0, 1, 2, 3, 4]
     ∧ [SlipState.excluded, .adhering, .creep, .excursion, .recovery].map SlipState.code = [0, 1, 2, 3, 4]
     ∧ [Trigger.manual, .excursion, .repeated, .emergency, .start, .poorRail].map Trigger.code = [1, 2, 3, 4, 5, 6]
     ∧ [HillStart.off, .holding, .releasing, .rollbackHold].map HillStart.code = [0, 1, 2, 3]
     ∧ [LinkState.searching, .linked, .lost].map LinkState.code = [0, 1, 2])

/-! ### Freshness of the intents -/

/-- A refresh timer's expiry makes its channel STALE and raises STALE_INTENT. For a TRACTION channel it is a claim
whose target is 0, so T_X falls to 0; for BRAKE the allocator runs with B = 0 while the part is served (R8, R10, R11).
MODE going STALE keeps the accepted MODE, raises STALE_INTENT, and is a fallback cause: from ACTIVE the part enters
FALLBACK with MODE_STALE in the cause set and both tractions fall to 0; the MODE word is handed with the accepted
MODE, with tag FALLBACK once the part is there and DEFAULT otherwise (R8, R15, R18, R20, R177). The MODE word is
handed with the fields of the accepted MODE and the tag of the first line of R15 that applies: FALLBACK in FALLBACK,
DEFAULT for MODE ABSENT or STALE, CORRECTED for a last write clipped or of hint code 3, EFFECTIVE otherwise (R15,
R18). It is formed, after the claim on both bogies, at entry to FALLBACK, which clears the shortfalls and the hill
start first, and an allocator run follows (R11, R20, R138, R177; that order is log 21). -/
def Obligations.RefreshExpiryMakesStale : Prop :=
  (∀ (r : EffortRole) (d : Nat) (s : State), (s.intent.channels.get r).timer = some d →
     let stale : State :=
       { s with
         now := max s.now d
         intent :=
           { s.intent with
             channels := s.intent.channels.set r { s.intent.channels.get r with fresh := .stale, timer := none } }
         rep := s.rep.raise .staleIntent }
     (∀ m : Motor, r = m.role →
       exec (.refreshTimerExpiry (.effort r)) s
         = .next (finish (handTraction m
             { stale with intent := { stale.intent with held := s.intent.held.set m 0 } })))
     ∧ (r = .brake → s.inForce = true →
         stale.brakeIntent = 0
         ∧ exec (.refreshTimerExpiry (.effort r)) s = .next (finish (run false false stale)))
     ∧ (r = .brake → s.inForce = false → exec (.refreshTimerExpiry (.effort r)) s = .next (finish stale)))
  ∧ (∀ (d : Nat) (s : State), s.intent.mode.timer = some d →
     ∃ u, exec (.refreshTimerExpiry .mode) s = .next (finish u)
       ∧ u.now = max s.now d
       ∧ u.intent.mode = { s.intent.mode with fresh := .stale, timer := none }
       ∧ u.intent.accepted = s.intent.accepted ∧ u.intent.channels = s.intent.channels
       ∧ u.rep.flag .staleIntent = true
       ∧ Handed s u .mode (modeWord s.intent.accepted (if s.inForce = true then .fallback else .default))
       ∧ (s.ctl.part = .active →
           u.ctl = { s.ctl with part := .fallback, causes := { s.ctl.causes with modeStale := true } }
           ∧ u.rep.flag .fallback = true ∧ (∀ m, u.intent.held.get m = 0) ∧ u.blend.hill = .off
           ∧ (∀ m, u.blend.shortfall.get m = false))
       ∧ (s.ctl.part = .fallback → u.ctl = { s.ctl with causes := { s.ctl.causes with modeStale := true } }
           ∧ u.intent.held = s.intent.held)
       ∧ (s.inForce = false → u.ctl = s.ctl ∧ u.rep = s.rep.raise .staleIntent ∧ u.intent.held = s.intent.held)
       ∧ u = { s with
           now := u.now, intent := u.intent, rep := u.rep, ctl := u.ctl, ip := u.ip, ref := u.ref, ev := u.ev
           blend := u.blend, sand := u.sand })
  ∧ (∀ s : State,
     let tag : Tag :=
       if s.ctl.part = .fallback then .fallback
       else if s.intent.mode.fresh = .absent ∨ s.intent.mode.fresh = .stale then .default
       else if s.intent.adjusted = true then .corrected
       else .effective
     handMode s = hand .mode (modeWord s.intent.accepted tag) s
     ∧ (let entered : State :=
          { s with
            ctl := { s.ctl with part := .fallback }, rep := s.rep.raise .fallback
            blend := { s.blend with
              shortfall := ⟨false, false⟩, lag := ⟨none, none⟩, probe := ⟨none, none⟩, hill := .off } }
        enterFallback s = run false false (handMode (claimBoth false entered))
        ∧ Handed s (enterFallback s) .mode (modeWord s.intent.accepted .fallback)))

/-! ### Claims on the held traction -/

/-- At an evaluation claim T_X becomes the smaller of the target and T_X plus the rise step, at every other claim the
smaller of T_X and the target; nothing else of the table but the word's handing changes (R11). The target is 0 outside
TRACTION, in NEUTRAL, in FALLBACK and for an isolated drive; otherwise it is the smaller of the intent and K × nominal
/ 1000, times C / 1000, and at most each of the two while C is at most 1000 (R10). An evaluation claim and a ceiling
lowering that fall together end at the same T_X in either order: the smaller of the target under the lowered K_X and
the old T_X plus the rise step (R12). -/
def Obligations.ClaimsMoveHeldTraction : Prop :=
  (∀ (m : Motor) (s : State),
     (claim true m s).intent.held.get m = min (s.target m) (s.intent.held.get m + s.cfg.tun.intent.riseStep)
     ∧ (claim false m s).intent.held.get m = min (s.intent.held.get m) (s.target m)
     ∧ (∀ b, (claim b m s).intent.held.get m.other = s.intent.held.get m.other
         ∧ (claim b m s).intent
             = { s.intent with held := (claim b m s).intent.held, handed := (claim b m s).intent.handed }
         ∧ claim b m s = { s with intent := (claim b m s).intent, ip := (claim b m s).ip }))
  ∧ (∀ (m : Motor) (s : State),
     let i := if (s.intent.channels.get m.role).fresh = .live then (s.intent.channels.get m.role).intent.getD 0 else 0
     let ceiling := (s.ceil.records.get m.bogie).k * s.cfg.str.nominal.get m / 1000
     (s.intent.accepted.regime ≠ .traction ∨ s.intent.accepted.direction = .neutral ∨ s.ctl.part = .fallback
         ∨ s.cfg.str.driveIsolated.get m = true → s.target m = 0)
     ∧ (s.intent.accepted.regime = .traction → s.intent.accepted.direction ≠ .neutral → s.ctl.part ≠ .fallback →
         s.cfg.str.driveIsolated.get m = false →
         s.target m = min i ceiling * (s.ev.bogies.get m.bogie).c / 1000)
     ∧ ((s.ev.bogies.get m.bogie).c ≤ 1000 → s.target m ≤ i ∧ s.target m ≤ ceiling))
  ∧ (∀ (m : Motor) (k : Nat) (s : State), k ≤ (s.ceil.records.get m.bogie).k →
     let lower (x : State) : State :=
       { x with
         ceil :=
           { x.ceil with
             records := x.ceil.records.set m.bogie { x.ceil.records.get m.bogie with k := k } } }
     let last := min ((lower s).target m) (s.intent.held.get m + s.cfg.tun.intent.riseStep)
     (claim true m (claim false m (lower s))).intent.held.get m = last
     ∧ (claim false m (lower (claim true m s))).intent.held.get m = last)

/-! ### Words -/

/-- Every word formed for an INTENT or OUTPUT window carries in bits 31..28 the exclusive-OR of its seven lower
nibbles, the void word included; a setpoint word carries its effort and tag and 0 in bits 27..20 (R16, R17). -/
def Obligations.FormedWordsCarryTheirCheck : Prop :=
  (∀ (effort : Nat) (t : Tag),
      nibbleSum (setpointWord effort t) = 0 ∧ (setpointWord effort t).extractLsb' 0 16 = BitVec.ofNat 16 effort
      ∧ (setpointWord effort t).extractLsb' 16 4 = t.code ∧ (setpointWord effort t).extractLsb' 20 8 = 0)
  ∧ (∀ (m : ModeRecord) (t : Tag),
      nibbleSum (modeWord m t) = 0 ∧ (modeWord m t).extractLsb' 25 3 = m.regime.code
      ∧ (modeWord m t).extractLsb' 23 2 = m.direction.code ∧ (modeWord m t).extractLsb' 21 2 = m.rail.code
      ∧ (modeWord m t).getLsbD 20 = m.sand ∧ (modeWord m t).extractLsb' 16 4 = t.code
      ∧ (modeWord m t).extractLsb' 8 8 = BitVec.ofInt 8 m.gradient
      ∧ (modeWord m t).extractLsb' 0 8 = BitVec.ofNat 8 m.mass)
  ∧ nibbleSum voidWord = 0 ∧ voidWord.extractLsb' 0 16 = 0xFFFF ∧ voidWord.extractLsb' 16 4 = 5

/-! ### Axle speed -/

/-- A counted edge in a served state: an edge before the channel's first sample finds both levels set from the inputs;
the direction follows from Q, or is the stored one when the edge is part of an illegal transition, which is counted;
the standstill timer is restarted and the indicator cleared, STILL becomes VALID, and the prescaler advances: a
reversal clears the captured period, an edge at count 0 captures one if an earlier prescaled edge stands, any other
only counts (R48, R49, R50, R51, R52, R53). A reversal keeps beside it what the stored direction would have left, for
a Q edge yet to arrive (log 28). An edge of Q, or of P that the channel does not count, in a served state changes the
debounced level and its stamp, and adds one to the illegal-transition count when it lies less than the debounce length
from the last edge of the other phase; it does not touch the standstill timer, and a P edge touches neither prescaler
nor direction (R48, R49, R51). A Q edge that so makes an earlier counted P edge illegal gives that edge the stored
direction of R50: a reversal it was taken for is undone (R50, R51; that the correction comes when the Q edge arrives
is log 28). The standstill timer's expiry sets the indicator, clears the captured period and the last prescaled edge,
and makes VALID STILL; every other state is kept (R52, R53). -/
def Obligations.EdgesMoveTheirChannel : Prop :=
  (∀ (i : Axle) (rising : Bool) (stamp : Nat) (s : State),
     let c0 := s.axle.channels.get i
     let pins := s.pins.tach.get i
     let c : Channel :=
       if c0.sync then
         { c0 with
           p := { c0.p with level := pins.p, run := 0 }, q := { c0.q with level := pins.q, run := 0 }, sync := false }
       else c0
     let t := s.cfg.str.channels.get i
     let length := 2 ^ t.debounce.toNat
     c0.state ≠ .disabled → s.ctl.part ≠ .standby → s.ctl.part ≠ .waking →
     (t.countedEdge = 2 ∨ rising = true ∧ t.countedEdge = 0 ∨ rising = false ∧ t.countedEdge = 1) →
     let close := ∃ q, c.q.stamp = some q ∧ stamp < q + length ∧ q < stamp + length
     let at' := max s.now (stamp + (length - 1))
     let fromQ := (rising != c.q.level) != t.reversed
     let advanced := (c.prescalerCount + 1) % 2 ^ t.prescaler.toNat
     let captured := match c.lastPrescaled with | some l => some (stamp - l) | none => c.period
     ∃ u, exec (.countedEdge i rising stamp) s = .next (finish u)
       ∧ u.now = at'
       ∧ (let n := u.axle.channels.get i
          n = { c with
             p := { level := rising, run := 0, stamp := some stamp }
             positive := n.positive, standstill := some (at' + s.cfg.tun.speed.standstillTimeout * 1000), still := false
             state := if c.state = .still then .valid else c.state
             period := n.period, lastPrescaled := n.lastPrescaled, prescalerCount := n.prescalerCount, kept := n.kept
             illegal := n.illegal }
          ∧ n.sync = false
          ∧ (close → n.illegal = c.illegal + 1 ∧ n.positive = c.positive)
          ∧ (¬ close → n.illegal = c.illegal ∧ n.positive = fromQ)
          ∧ (n.positive ≠ c.positive →
               n.period = none ∧ n.lastPrescaled = some stamp ∧ n.prescalerCount = 1 % 2 ^ t.prescaler.toNat
               ∧ n.kept = some
                   { positive := c.positive, prescalerCount := advanced
                     period := if c.prescalerCount = 0 then captured else c.period
                     lastPrescaled := if c.prescalerCount = 0 then some stamp else c.lastPrescaled })
          ∧ (n.positive = c.positive →
               n.prescalerCount = advanced ∧ n.kept = none
               ∧ n.period = (if c.prescalerCount = 0 then captured else c.period)
               ∧ n.lastPrescaled = (if c.prescalerCount = 0 then some stamp else c.lastPrescaled)))
       ∧ (∀ j, j ≠ i → u.axle.channels.get j = s.axle.channels.get j) ∧ u.axle.held = s.axle.held
       ∧ u = { s with now := u.now, axle := u.axle, pins := u.pins })
  ∧ (∀ (i : Axle) (ph : Phase) (rising : Bool) (stamp : Nat) (s : State),
     let c0 := s.axle.channels.get i
     let pins := s.pins.tach.get i
     let c : Channel :=
       if c0.sync then
         { c0 with
           p := { c0.p with level := pins.p, run := 0 }, q := { c0.q with level := pins.q, run := 0 }, sync := false }
       else c0
     let t := s.cfg.str.channels.get i
     let length := 2 ^ t.debounce.toNat
     c0.state ≠ .disabled → s.ctl.part ≠ .standby → s.ctl.part ≠ .waking →
     (ph = .q ∨ ¬ (t.countedEdge = 2 ∨ rising = true ∧ t.countedEdge = 0 ∨ rising = false ∧ t.countedEdge = 1)) →
     let other := match ph with | .p => c.q.stamp | .q => c.p.stamp
     let close := ∃ x, other = some x ∧ x < stamp + length ∧ stamp < x + length
     ∃ u, exec (.uncountedPhaseEdge i ph rising stamp) s = .next (finish u)
       ∧ (let n := u.axle.channels.get i
          (close → n.illegal = c.illegal + 1) ∧ (¬ close → n.illegal = c.illegal)
          ∧ (ph = .p → n = { c with p := ⟨rising, 0, some stamp⟩, kept := none, illegal := n.illegal })
          ∧ (ph = .q → ¬ close ∨ c.kept = none → n = { c with q := ⟨rising, 0, some stamp⟩, illegal := n.illegal })
          ∧ (∀ k, ph = .q → close → c.kept = some k →
               n = { c with
                 q := ⟨rising, 0, some stamp⟩, illegal := n.illegal, positive := k.positive, period := k.period
                 lastPrescaled := k.lastPrescaled, prescalerCount := k.prescalerCount, kept := none }))
       ∧ (∀ j, j ≠ i → u.axle.channels.get j = s.axle.channels.get j) ∧ u.axle.held = s.axle.held
       ∧ u = { s with now := u.now, axle := u.axle, pins := u.pins })
  ∧ (∀ (i : Axle) (d : Nat) (s : State), (s.axle.channels.get i).standstill = some d →
     let c := s.axle.channels.get i
     exec (.standstillTimerExpiry i) s
       = .next (finish
           { s with
             now := max s.now d
             axle :=
               { s.axle with
                 channels := s.axle.channels.set i
                   { c with
                     standstill := none, still := true, period := none, lastPrescaled := none, prescalerCount := 0
                     kept := none, state := if c.state = .valid then .still else c.state } } }))

/-- In STANDBY and WAKING a counted edge only raises its channel's movement count, up to 8; the count that reaches 8
delivers the one movement wake: ROLLAWAY is raised, the movement mark set, and STANDBY goes over to WAKING (R62,
R182); an edge before the channel's first sample finds both levels set from the inputs (R48). In STANDBY and WAKING an
edge that the channel does not count, and any edge after the movement wake, changes the debounced level and its stamp
alone: the movement counts are held, illegal transitions are not counted, and no further wake is delivered; a counted
edge leaves the model's record of the last reversal empty (R62; log 28). -/
def Obligations.EdgesInStandbyCountMovement : Prop :=
  (∀ (i : Axle) (rising : Bool) (stamp : Nat) (s : State),
     let c0 := s.axle.channels.get i
     let pins := s.pins.tach.get i
     let c : Channel :=
       if c0.sync then
         { c0 with
           p := { c0.p with level := pins.p, run := 0 }, q := { c0.q with level := pins.q, run := 0 }, sync := false }
       else c0
     let t := s.cfg.str.channels.get i
     c.state ≠ .disabled → (s.ctl.part = .standby ∨ s.ctl.part = .waking) → s.axle.held = false →
     (t.countedEdge = 2 ∨ rising = true ∧ t.countedEdge = 0 ∨ rising = false ∧ t.countedEdge = 1) →
     ∃ u, exec (.countedEdge i rising stamp) s = .next (finish u)
       ∧ u.axle.channels.get i
           = { c with
               p := { level := rising, run := 0, stamp := some stamp }, kept := none,
               movement := min 8 (c.movement + 1) }
       ∧ (∀ j, j ≠ i → u.axle.channels.get j = s.axle.channels.get j)
       ∧ (c.movement + 1 < 8 → u.axle.held = false ∧ u.ctl = s.ctl ∧ u.rep = s.rep)
       ∧ (8 ≤ c.movement + 1 → u.axle.held = true ∧ u.rep = s.rep.raise .rollaway
           ∧ u.ctl.movementMark = true ∧ u.ctl.part = .waking
           ∧ (s.ctl.part = .standby → u.ctl.settle = some (u.now + 256)))
       ∧ u = { s with now := u.now, axle := u.axle, pins := u.pins, ctl := u.ctl, rep := u.rep })
  ∧ (∀ (i : Axle) (ph : Phase) (rising : Bool) (stamp : Nat) (s : State),
     let c0 := s.axle.channels.get i
     let pins := s.pins.tach.get i
     let c : Channel :=
       if c0.sync then
         { c0 with
           p := { c0.p with level := pins.p, run := 0 }, q := { c0.q with level := pins.q, run := 0 }, sync := false }
       else c0
     let t := s.cfg.str.channels.get i
     let counts :=
       ph = .p ∧ (t.countedEdge = 2 ∨ rising = true ∧ t.countedEdge = 0 ∨ rising = false ∧ t.countedEdge = 1)
     c.state ≠ .disabled → (s.ctl.part = .standby ∨ s.ctl.part = .waking) → (s.axle.held = true ∨ ¬ counts) →
     ∃ u, exec (.uncountedPhaseEdge i ph rising stamp) s = .next (finish u)
       ∧ (ph = .p → exec (.countedEdge i rising stamp) s = .next (finish u))
       ∧ u.axle.channels.get i
           = (match ph with
              | .p => { c with p := { level := rising, run := 0, stamp := some stamp }, kept := none }
              | .q => { c with q := { level := rising, run := 0, stamp := some stamp } })
       ∧ (∀ j, j ≠ i → u.axle.channels.get j = s.axle.channels.get j) ∧ u.axle.held = s.axle.held
       ∧ u = { s with now := u.now, axle := u.axle, pins := u.pins })

/-- The raw speed at a latch: 0 at standstill and with no period captured; otherwise its magnitude is 355 × d ×
prescale × 100,000 / (113 × n × t), at most 30,000, t being the longer of the captured period and the time since the
last prescaled edge, with the sign of the stored direction (R54). For t = 0 the value is free (log 16). A latch of a
VALID or STILL channel without a fault condition drops the oldest raw sample and forms the filtered speed (h0 + 3 h1 +
3 h2 + h3) / 8 and its acceleration, both rounded toward zero; with a fault condition (four illegal transitions, or a
jump above the plausibility limit) the channel enters FAULT and its clean-latch count is 0 (R55 to R57). SETTLING ends
at its fourth latch without a fault condition, in STILL if the standstill indicator is set and else in VALID; the
first seeds the history (R58). FAULT ends after fifty clean latches, in SETTLING: the settle count, the illegal
transitions, the captured period and the last prescaled edge are cleared, the standstill timer is restarted with the
indicator clear, and the last raw sample and the history stand (R50, R52, R59). A latch hands on one sample for each
axle: the channel's state after the latch, its filtered speed and acceleration if the latch formed them, which it does
in SETTLING, VALID and STILL without a fault condition, and the raw speed unless it is DISABLED; the sample is usable
in VALID and STILL (R55, R61). -/
def Obligations.SpeedIsFormedAtTheLatch : Prop :=
  (∀ (c : Channel) (t : ChannelItems) (now : Nat),
     let edges := if t.countedEdge = 2 then t.ppr * 2 else t.ppr
     let speed (time : Nat) : Nat :=
       min 30000 (355 * t.diameter * 2 ^ t.prescaler.toNat * 100000 / (113 * edges * time))
     (c.still = true ∨ c.period = none → c.rawSpeed t now = 0)
     ∧ (∀ p l, c.still = false → c.period = some p → c.lastPrescaled = some l →
         let time := if p < now - l then now - l else p
         0 < time → c.rawSpeed t now = if c.positive then (speed time : Int) else -(speed time : Int))
     ∧ (∀ p, c.still = false → c.period = some p → c.lastPrescaled = none → 0 < p →
         c.rawSpeed t now = if c.positive then (speed p : Int) else -(speed p : Int)))
  ∧ (∀ (c : Channel) (h : History) (raw : Int) (jump period : Nat) (standstill : Timer),
     (c.state = .valid ∨ c.state = .still) → c.history = some h →
     let faulty := 4 ≤ c.illegal ∨ ∃ r, c.lastRaw = some r ∧ jump < (raw - r).natAbs
     let n := c.latch raw jump period standstill
     let filtered := (h.h1 + 3 * h.h2 + 3 * h.h3 + raw).tdiv 8
     (faulty → n = { c with lastRaw := some raw, illegal := 0, state := .fault, cleanCount := 0 })
     ∧ (¬ faulty →
         n = { c with
           lastRaw := some raw, illegal := 0, history := some ⟨h.h1, h.h2, h.h3, raw⟩, filtered := some filtered
           acceleration := some (((filtered - c.filtered.getD filtered) * 1000000).tdiv period) }))
  ∧ (∀ (c : Channel) (raw : Int) (jump period : Nat) (standstill : Timer),
     let faulty := 4 ≤ c.illegal ∨ ∃ r, c.lastRaw = some r ∧ jump < (raw - r).natAbs
     let n := c.latch raw jump period standstill
     (c.state = .settling → ¬ faulty →
       n.settleCount = c.settleCount + 1
       ∧ n.state = (if c.settleCount + 1 < 4 then .settling else if c.still then .still else .valid)
       ∧ (c.settleCount = 0 → n.history = some ⟨raw, raw, raw, raw⟩ ∧ n.acceleration = some 0))
     ∧ (c.state = .settling → faulty → n.state = .fault ∧ n.cleanCount = 0)
     ∧ (c.state = .fault → faulty → n.state = .fault ∧ n.cleanCount = 0)
     ∧ (c.state = .fault → ¬ faulty →
         n.cleanCount = c.cleanCount + 1 ∧ n.state = (if c.cleanCount + 1 < 50 then .fault else .settling)
         ∧ (c.cleanCount + 1 < 50 → n = { c with lastRaw := some raw, illegal := 0, cleanCount := c.cleanCount + 1 })
         ∧ (50 ≤ c.cleanCount + 1 →
             n.settleCount = 0 ∧ n.illegal = 0 ∧ n.period = none ∧ n.lastPrescaled = none ∧ n.prescalerCount = 0
             ∧ n.positive = true ∧ n.standstill = standstill ∧ n.still = false ∧ n.lastRaw = some raw
             ∧ n.history = c.history ∧ n.filtered = c.filtered ∧ n.acceleration = c.acceleration))
     ∧ (c.state = .disabled → n = c))
  ∧ (∀ (i : Axle) (s : State),
     let c := s.axle.channels.get i
     let raw := c.rawSpeed (s.cfg.str.channels.get i) s.now
     let jump := s.cfg.tun.speed.plausibilityJump
     let n := c.latch raw jump s.ev.length (some (s.now + s.cfg.tun.speed.standstillTimeout * 1000))
     let faulty := 4 ≤ c.illegal ∨ ∃ r, c.lastRaw = some r ∧ jump < (raw - r).natAbs
     let forming := c.state = .settling ∨ c.state = .valid ∨ c.state = .still
     let p := s.samplesAt.get i
     s.latched i = n ∧ p.state = n.state
     ∧ (forming → ¬ faulty → p.filtered = n.filtered ∧ p.acceleration = n.acceleration)
     ∧ (¬ forming ∨ faulty → p.filtered = none ∧ p.acceleration = none)
     ∧ p.raw = (if c.state = .disabled then none else some raw)
     ∧ (p.usable = true ↔ n.state = .valid ∨ n.state = .still))

/-! ### Reference -/

/-- The reference stage: the source follows the usable channels and the chain reference; the magnitude takes one
limited step towards its target, or the chosen speed at a restart; the sense begins with the candidate and ends at 0;
HELD keeps both and LOST has neither; the acceleration is the signed change over the period; the hold timer runs in
HELD alone; the odometer advances by the travelled distance with its remainder, modulo 2^32, and the rollback distance
by it against the MODE direction (R66 to R75). The hold timer's expiry: the source is LOST, magnitude 0, sense NONE,
acceleration 0, REFERENCE_LOST is raised and is a fallback cause: from ACTIVE the part enters FALLBACK (R72, R177). -/
def Obligations.ReferenceMovesAndIsLost : Prop :=
  (∀ (r : Reference) (x : StageInput),
     let n := r.stage x
     let step (limit : Nat) : Nat := max 1 (limit * x.period / 1000000)
     let usable (p : Sample) : Prop := p.state = .valid ∨ p.state = .still
     let speeds := x.samples.toList.filterMap fun p => if p.state = .valid ∨ p.state = .still then p.filtered else none
     let forward := (speeds.filter fun v => 50 < v).length
     let backward := (speeds.filter fun v => v < -50).length
     let own : Nat :=
       match x.regime with
       | .traction =>
         if usable x.samples.t1 ∧ usable x.samples.t2 then
           ((x.samples.t1.filtered.getD 0).natAbs + (x.samples.t2.filtered.getD 0).natAbs) / 2
         else smallest (speeds.map Int.natAbs)
       | .serviceBrake | .emergency => largest (speeds.map Int.natAbs)
       | .hold | .coast => (speeds.map Int.natAbs).sum / speeds.length
     let chosen := if n.source = .own then own else (n.chainRef.getD 0).natAbs
     let candidate : Sense :=
       if n.source = .own then (if backward < forward then .forward else if forward < backward then .reverse else .none)
       else if 0 < n.chainRef.getD 0 then .forward else if n.chainRef.getD 0 < 0 then .reverse else .none
     let target := if candidate ≠ .none ∧ r.sense ≠ .none ∧ candidate ≠ r.sense then 0 else chosen
     let signed (m : Nat) (s : Sense) : Int := if s = .reverse then -(m : Int) else m
     let restart := n.source = .own ∧ r.source ≠ .own ∨ n.source = .chain ∧ r.source = .lost
     let moves := n.source = .own ∨ n.source = .chain
     (x.link ≠ .linked → n.chainRef = none)
     ∧ (x.link = .linked → x.frame = none → n.chainRef = r.chainRef)
     ∧ (∀ f, x.link = .linked → x.frame = some f →
         n.chainRef =
           if f.valid = false ∨ f.direction = .neutral ∨ x.direction = .neutral then none
           else some (max (-30000) (min 30000 (if f.direction = x.direction then f.reference else -f.reference))))
     ∧ n.source =
         (if ∃ p ∈ x.samples.toList, usable p then .own
          else if x.follower = true ∧ x.link = .linked ∧ n.chainRef ≠ none then .chain
          else if r.source = .lost then .lost else .held)
     ∧ (moves → ¬ restart →
         n.magnitude =
           (if r.magnitude < target then min target (r.magnitude + step x.rise)
            else max target (r.magnitude - step x.fall))
         ∧ n.sense = (if n.magnitude = 0 then .none else if r.sense = .none then candidate else r.sense)
         ∧ n.acceleration = ((signed n.magnitude n.sense - signed r.magnitude r.sense) * 1000000).tdiv x.period
         ∧ n.magnitude ≤ r.magnitude + step x.rise ∧ r.magnitude ≤ n.magnitude + step x.fall)
     ∧ (restart → n.magnitude = chosen ∧ n.acceleration = 0
         ∧ n.sense = if chosen = 0 then .none else if candidate = .none then r.sense else candidate)
     ∧ (n.source = .held → n.magnitude = r.magnitude ∧ n.sense = r.sense ∧ n.acceleration = 0)
     ∧ (n.source = .lost → n.magnitude = 0 ∧ n.sense = .none ∧ n.acceleration = 0)
     ∧ n.hold =
         (if moves then none else if n.source = .held ∧ r.source ≠ .held then x.holdTimer else r.hold)
     ∧ n.remainder < 10000000
     ∧ n.step * 10000000 + n.remainder = r.remainder + n.magnitude * x.period
     ∧ n.odometer = r.odometer + BitVec.ofNat 32 n.step
     ∧ n.rollback =
         (if x.direction = .neutral ∨ x.direction = .forward ∧ n.sense = .forward
             ∨ x.direction = .reverse ∧ n.sense = .reverse then 0
          else if n.sense = .none then r.rollback else min 65535 (r.rollback + n.step)))
  ∧ (∀ (d : Nat) (s : State), s.ref.hold = some d →
     ∃ u, exec .holdTimerExpiry s = .next (finish u)
       ∧ u.now = max s.now d
       ∧ u.ref.magnitude = 0 ∧ u.ref.sense = .none ∧ u.ref.acceleration = 0 ∧ u.ref.source = .lost ∧ u.ref.hold = none
       ∧ u.ref.odometer = s.ref.odometer ∧ u.ref.remainder = s.ref.remainder
       ∧ u.rep.flag .referenceLost = true
       ∧ (s.inForce = true →
           u.ctl = { s.ctl with part := .fallback, causes := { s.ctl.causes with referenceLost := true } })
       ∧ (s.inForce = false → u.ctl = s.ctl ∧ u.rep = s.rep.raise .referenceLost ∧ u.intent = s.intent)
       ∧ (s.ctl.part = .active → ∀ m, u.intent.held.get m = 0)
       ∧ u = { s with
           now := u.now, intent := u.intent, rep := u.rep, ctl := u.ctl, ip := u.ip, ref := u.ref, ev := u.ev
           blend := u.blend, sand := u.sand })

/-! ### Evaluations -/

/-- An expiry of the control-period timer, with no evaluation in progress, restarts the timer and runs the stages up
to the bogie stage. The latch samples the six channels, and each that enters FAULT raises SENSOR_FAULT and counts
AXLE_FAULT; the reference stage takes their samples, the buffered frame, the accepted regime and direction, the link,
the rise and fall limits and the length the period was started with, and an entry to HELD is counted; the axle and
bogie stages work on a copy, excursion timers start and stop with it, entries are counted and ADHESION_POOR is raised;
the effort at latch is recorded, and the published records stand until the completion; the results carry the frame,
without its notice if it was handed in SETUP (R55, R57, R61, R66, R70, R79, R80, R83, R90, R92, R94, R104, R113,
R162). An expiry with an evaluation still in progress, which R80 excludes, restarts the timer with the configured
period and begins no other: the model's choice (R79; log 11). -/
def Obligations.PeriodExpiryRunsTheStages : Prop :=
  (∀ (d : Nat) (s : State), s.ev.period = some d → s.ev.running = none →
     let at' : State := { s with now := max s.now d }
     let given : StageInput :=
       { samples := at'.samplesAt, regime := s.intent.accepted.regime, direction := s.intent.accepted.direction
         link := s.chain.link, frame := s.chain.buffer
         follower := decide (1 ≤ s.cfg.str.position ∧ s.cfg.str.position ≤ 3)
         rise := s.cfg.tun.speed.riseLimit, fall := s.cfg.tun.speed.fallLimit, period := s.ev.length
         holdTimer := some (max s.now d + 200000) }
     let ref := s.ref.stage given
     let slips := at'.classified ref.results at'.samplesAt
     let bogies := at'.updated slips
     ∃ u, exec .controlPeriodExpiry s = .next (finish u)
       ∧ u.now = max s.now d
       ∧ u.ev.period = some (max s.now d + s.cfg.tun.slip.controlPeriod * 1000)
       ∧ u.ev.length = s.cfg.tun.slip.controlPeriod * 1000
       ∧ u.ev.slips = s.ev.slips ∧ u.ev.bogies = s.ev.bogies
       ∧ u.axle = { s.axle with channels := PerAxle.build at'.latched }
       ∧ u.ref = ref
       ∧ (∃ e, u.ev.running = some e
           ∧ e.frame = (if s.inForce then s.chain.buffer else s.chain.buffer.map fun f => { f with notice := none })
           ∧ e.regime = s.intent.accepted.regime
           ∧ e.direction = s.intent.accepted.direction ∧ e.started = max s.now d
           ∧ e.ref.magnitude = u.ref.magnitude ∧ e.ref.odometer = u.ref.odometer
           ∧ e.ref = ref.results ∧ e.slips = slips ∧ e.bogies = bogies)
       ∧ (∀ i, u.ev.timers.get i =
           if (slips.get i).state = .excursion then
             (if (slips.get i).entered then some (max s.now d + s.cfg.tun.slip.excursionTime * 1000)
              else s.ev.timers.get i)
           else none)
       ∧ u.rep =
           (let faults := allAxles.foldl
             (fun r i => if at'.faultAt i then (r.raise .sensorFault).bump Counter.axleFault.number else r) s.rep
            let held := if ref.source = .held ∧ s.ref.source ≠ .held then
              faults.bump Counter.referenceHeld.number else faults
            let entries := (allAxles.filter fun i => (slips.get i).entered).length
            let counted := held.bumpBy Counter.excursionEntry.number entries
            if bogies.a.becamePoor ∨ bogies.t.becamePoor ∨ bogies.b.becamePoor then
              counted.raise .adhesionPoor else counted)
       ∧ u.chain = { s.chain with buffer := none, last := u.chain.last }
       ∧ (∀ f, s.chain.buffer = some f → u.chain.last
           = some { regime := f.regime, direction := f.direction, sand := f.sand })
       ∧ (s.chain.buffer = none → u.chain.last = s.chain.last)
       ∧ (∀ m : Motor, u.ceil.records.get m.bogie
           = { s.ceil.records.get m.bogie with
               traction := s.intent.held.get m, brake := s.blend.alloc.get m.ed + s.blend.alloc.get m.bogie.fr })
       ∧ u.ceil.records.t = { s.ceil.records.t with traction := 0, brake := s.blend.alloc.frT }
       ∧ u.ceil.queue = s.ceil.queue ∧ u.ceil.outgoing = s.ceil.outgoing
       ∧ (∀ i, (s.axle.channels.get i).state ≠ .disabled → (u.axle.channels.get i).illegal = 0)
       ∧ u = { s with
           now := u.now, axle := u.axle, ref := u.ref, ev := u.ev, ceil := u.ceil, chain := u.chain, rep := u.rep })
  ∧ (∀ (d : Nat) (e : Evaluation) (s : State), s.ev.period = some d → s.ev.running = some e →
     exec .controlPeriodExpiry s
       = .next (finish
           { s with
             now := max s.now d
             ev :=
               { s.ev with
                 period := some (max s.now d + s.cfg.tun.slip.controlPeriod * 1000)
                 length := s.cfg.tun.slip.controlPeriod * 1000 } }))

/-- In SETUP a completion publishes the copied records and delivers nothing (R99). In ACTIVE and FALLBACK a completion
publishes the records and delivers them once to each of the four blocks, in the order that `order` names, R99 fixing
none (log 9): one evaluation claim on each motor bogie, one ceiling pass with its ceiling lowerings, one evaluation
run on the delivered reference, and the sanding controller's handling. The evaluation claim moves T_X towards the
target under the new C and, where K falls, the lowered K; the pass reads the sand trail, and the run the ceilings, as
they stand when they are made; the configuration and part state stand (R10, R11, R12, R99, R105, R107, R121, R145,
R146, R150, R152, R155). -/
def Obligations.CompletionsPublishAndDeliver : Prop :=
  (∀ (order : Fin 24) (e : Evaluation) (s : State), s.ev.running = some e → s.inForce = false →
     exec (.evaluationCompletion order) s
       = .next (finish { s with ev := { s.ev with slips := e.slips, bogies := e.bogies, running := none } }))
  ∧ (∀ (order : Fin 24) (e : Evaluation) (s : State), s.ev.running = some e → s.inForce = true →
     let published : State := { s with ev := { s.ev with slips := e.slips, bogies := e.bogies, running := none } }
     let blocks : List (State → State) := [claimBoth true, ceilingPass e, evaluationRun e, sandCompletion e]
     let under (k : Nat) (m : Motor) : State :=
       { published with
         ceil :=
           { s.ceil with records := s.ceil.records.set m.bogie { s.ceil.records.get m.bogie with k := k } } }
     let seen : Allocator :=
       { s.blend with
         seenMagnitude := e.ref.magnitude, seenSense := e.ref.sense, seenRollback := e.ref.rollback }
     let record (c : CeilingUnit) := ({ published with ceil := c, blend := seen } : State).runRecord true false
     ∃ u, exec (.evaluationCompletion order) s = .next (finish u)
       ∧ (permuted order.val blocks).Perm blocks ∧ u = (permuted order.val blocks).foldl (fun x f => f x) published
       ∧ u.ev = { s.ev with slips := e.slips, bogies := e.bogies, running := none }
       ∧ (∃ trail, let p := ({ published with sand := { s.sand with trail := trail } } : State).passResult e
           u.ceil = { records := p.records, queue := p.queue, outgoing := p.outgoing })
       ∧ (∀ m, ∃ k, (k = (s.ceil.records.get m.bogie).k ∨ k = (u.ceil.records.get m.bogie).k)
           ∧ ((u.ceil.records.get m.bogie).k < (s.ceil.records.get m.bogie).k → k = (u.ceil.records.get m.bogie).k)
           ∧ u.intent.held.get m = min ((under k m).target m) (s.intent.held.get m + s.cfg.tun.intent.riseStep))
       ∧ (∀ m, u.intent.held.get m ≤ s.intent.held.get m + s.cfg.tun.intent.riseStep)
       ∧ (s.ctl.part = .fallback → ∀ m, u.intent.held.get m = 0)
       ∧ (u.blend = record s.ceil ∨ u.blend = record u.ceil)
       ∧ u.blend.seenMagnitude = e.ref.magnitude ∧ u.blend.seenSense = e.ref.sense
       ∧ (s.blend.hill ≠ .holding →
           ∃ held, u.sand = (sandCompletion e { published with intent := { s.intent with held := held } }).sand)
       ∧ u.sand.seenMagnitude = e.ref.magnitude ∧ u.sand.seenOdometer = e.ref.odometer
       ∧ u.intent = { s.intent with held := u.intent.held, handed := u.intent.handed }
       ∧ u.ip.port = s.ip.port ∧ u.ip.inflight = s.ip.inflight
       ∧ u = { s with
           ev := u.ev, intent := u.intent, ip := u.ip, ref := u.ref, ceil := u.ceil, blend := u.blend, sand := u.sand
           rep := u.rep })

/-- Axle states: an axle breaks away when its counted slip reaches the excursion threshold or its counted acceleration
the limit; EXCURSION ends below the recovery threshold in RECOVERY; RECOVERY ends in ADHERING with C at 1000 and the
slip below the creep threshold; ADHERING and CREEP follow the creep threshold (R87, R89, R91). The full-mode stage
judges the repeat window first: a mark that the odometer has reached clears a count above 0 and itself (R93). An axle
whose channel is not usable is EXCLUDED without slip, keeping its kind (R88). Another has the slip and relative
acceleration of R85 by its axle sign, the counted side of R86, and the state of R89 and R91, from ADHERING if it was
EXCLUDED (R88); an entry to EXCURSION sets the kind by R86, raises the count up to 15 and sets the mark one repeat
window on (R86, R90). The axle and bogie stages. In ACTIVE and FALLBACK each axle is classified with its sample, the
published C of its bogie and the side of R86: both in FALLBACK and under COAST, else by the regime; and each bogie is
updated from its two axles before and after (R83, R86, R91, R96). Elsewhere the mode is limited: usable axles are
ADHERING, others EXCLUDED, counts, marks and bogie flags clear, every C 1000 (R83, R88, R94), and a floor-pending mark
ends too (log 38, DEDUCED). C of a bogie that is not blind: an onset multiplies it by the drop, an excursion that goes
on takes the decay step, a gripping axle gives the recovery step up to 1000, and a floor-pending mark sets it to the
floor; a blind bogie has C at the floor (R96, R97). An onset's kind is that of the entering axle, of two that of the
larger counted slip and of the first if they are equal (R96). The bogie is adhesion poor while a repeat count of its
axles has reached the limit, and becomes so where it was not (R94). An excursion timer's expiry raises
PERSISTENT_EXCURSION and marks the axle's bogie floor pending, in the published records and in a copy in progress, for
the next bogie stage (R92). -/
def Obligations.SlipAndCorrectionFollowTheirSteps : Prop :=
  (∀ (x : AxleInput) (old : SlipState) (c : Nat) (slip acc : Int),
     let limit (absolute relative : Nat) : Int := (max absolute (relative * x.ref.magnitude / 1000) : Nat)
     let breaks := limit x.slip.excursionAbs x.slip.excursionRel ≤ slip ∨ (x.slip.accelerationLimit : Int) ≤ acc
     let n := x.next old c slip acc
     (old = .excursion → n = if slip < limit x.slip.recoveryAbs x.slip.recoveryRel then .recovery else .excursion)
     ∧ (old ≠ .excursion → breaks → n = .excursion)
     ∧ (old = .recovery → ¬ breaks →
         n = if c = 1000 ∧ slip < limit x.slip.creepAbs x.slip.creepRel then .adhering else .recovery)
     ∧ (old ≠ .excursion → old ≠ .recovery → ¬ breaks →
         n = if limit x.slip.creepAbs x.slip.creepRel ≤ slip then .creep else .adhering))
  ∧ (∀ (r : SlipRecord) (x : AxleInput) (p : Sample) (c : Nat),
     let n := r.classify x p c
     let lapsed := r.mark.any fun m => decide (0 < r.repeats) && decide ((x.ref.odometer - m).toNat < 2 ^ 31)
     let repeats := if lapsed then 0 else r.repeats
     let mark := if lapsed then none else r.mark
     let usable := p.state = .valid ∨ p.state = .still
     let v := p.filtered.getD 0
     let sign : Int :=
       match x.ref.sense with
       | .forward => 1
       | .reverse => -1
       | .none => if v < 0 then -1 else 1
     let slip := sign * v - x.ref.magnitude
     let acc := sign * (p.acceleration.getD 0 - x.ref.acceleration)
     let counted (y : Int) : Int := match x.side with | .traction => y | .braking => -y | .both => y.natAbs
     let kind : Kind :=
       match x.side with
       | .traction => .spin
       | .braking => .slide
       | .both => if 0 < slip then .spin else if slip < 0 then .slide else if 0 ≤ acc then .spin else .slide
     let state := x.next (if r.state = .excluded then .adhering else r.state) c (counted slip) (counted acc)
     let formed : SlipRecord :=
       { state := state, slip := some slip, counted := some (counted slip), countedAcc := some (counted acc)
         kind := r.kind, entered := false, repeats := repeats, mark := mark }
     (¬ usable →
       n = { state := .excluded, slip := none, counted := none, countedAcc := none, kind := r.kind, entered := false
             repeats := repeats, mark := mark })
     ∧ (usable → (state ≠ .excursion ∨ r.state = .excursion) → n = formed)
     ∧ (usable → state = .excursion → r.state ≠ .excursion →
         n = { formed with
           kind := some kind, entered := true, repeats := min 15 (repeats + 1)
           mark := some (x.ref.odometer + BitVec.ofNat 32 (x.slip.repeatWindow * 100)) }))
  ∧ (∀ (ref : RefResults) (samples : PerAxle Sample) (slips : PerAxle SlipRecord) (s : State),
     let side : Side :=
       if s.ctl.part = .fallback then .both
       else match s.intent.accepted.regime with
         | .traction => .traction
         | .coast => .both
         | .hold | .serviceBrake | .emergency => .braking
     (s.inForce = true →
       (∀ i, ∃ started, (s.classified ref samples).get i
           = (s.ev.slips.get i).classify { side := side, ref := ref, slip := s.cfg.tun.slip, started := started }
               (samples.get i) (s.ev.bogies.get i.bogie).c)
       ∧ (s.updated slips).a = s.ev.bogies.a.update s.cfg.tun.slip s.ev.slips.a1 s.ev.slips.a2 slips.a1 slips.a2
       ∧ (s.updated slips).t = s.ev.bogies.t.update s.cfg.tun.slip s.ev.slips.t1 s.ev.slips.t2 slips.t1 slips.t2
       ∧ (s.updated slips).b = s.ev.bogies.b.update s.cfg.tun.slip s.ev.slips.b1 s.ev.slips.b2 slips.b1 slips.b2)
     ∧ (s.inForce = false →
       (∀ i, let r := s.ev.slips.get i
         let limited : SlipRecord := { r with repeats := 0, mark := none, entered := false }
         (s.classified ref samples).get i
           = if (samples.get i).state = .valid ∨ (samples.get i).state = .still then { limited with state := .adhering }
             else { limited with state := .excluded, slip := none, counted := none, countedAcc := none })
       ∧ ∀ y, (s.updated slips).get y
           = { c := 1000, onset := none, inExcursion := false, poor := false, becamePoor := false, blind := false
               floorPending := false }))
  ∧ (∀ (b : BogieRecord) (t : SlipTuning) (x0 y0 x y : SlipRecord),
     let n := b.update t x0 y0 x y
     let blind := x.state = .excluded ∧ y.state = .excluded
     let onset := (x.entered = true ∨ y.entered = true) ∧ x0.state ≠ .excursion ∧ y0.state ≠ .excursion
     let isIn := x.state = .excursion ∨ y.state = .excursion
     let grips := (x.state = .recovery ∨ x.state = .adhering) ∨ (y.state = .recovery ∨ y.state = .adhering)
     (blind → n.c = t.floor ∧ n.blind = true ∧ n.onset = none ∧ n.inExcursion = false)
     ∧ (¬ blind → b.floorPending = true → n.c = t.floor)
     ∧ (¬ blind → b.floorPending = false →
         n.c = if onset then max t.floor (b.c * t.drop / 1000)
               else if isIn then max t.floor (b.c - t.decay)
               else if b.c < 1000 ∧ grips then min 1000 (b.c + t.recoveryStep)
               else b.c)
     ∧ (¬ blind → n.blind = false ∧ (n.inExcursion = true ↔ isIn))
     ∧ (¬ blind → ¬ onset → n.onset = none)
     ∧ (¬ blind → onset → x.entered = true → y.entered = false → n.onset = x.kind)
     ∧ (¬ blind → onset → x.entered = false → y.entered = true → n.onset = y.kind)
     ∧ (¬ blind → onset → x.entered = true → y.entered = true →
         n.onset = if x.counted.getD 0 < y.counted.getD 0 then y.kind else x.kind)
     ∧ (n.poor = true ↔ t.repeatLimit ≤ x.repeats ∨ t.repeatLimit ≤ y.repeats)
     ∧ (n.becamePoor = true ↔ n.poor = true ∧ b.poor = false)
     ∧ n.floorPending = false)
  ∧ (∀ (i : Axle) (d : Nat) (s : State), s.ev.timers.get i = some d →
     ∃ u, exec (.excursionTimerExpiry i) s = .next (finish u)
       ∧ u.now = max s.now d ∧ u.rep = s.rep.raise .persistentExcursion
       ∧ (∀ y, u.ev.bogies.get y
           = if y = i.bogie then { s.ev.bogies.get y with floorPending := true } else s.ev.bogies.get y)
       ∧ (∀ j, u.ev.timers.get j = if j = i then none else s.ev.timers.get j)
       ∧ (∀ e, s.ev.running = some e → ∃ e', u.ev.running = some e' ∧ e'.slips = e.slips
           ∧ ∀ y, e'.bogies.get y
               = if y = i.bogie then { e.bogies.get y with floorPending := true } else e.bogies.get y)
       ∧ u.ev.slips = s.ev.slips ∧ u.ev.period = s.ev.period
       ∧ u = { s with now := u.now, ev := u.ev, rep := u.rep })

/-! ### Ceilings -/

/-- Step 1 of the pass: becoming adhesion poor sets K to the floor, an onset lowers it to the effort ratio less the
margin, but not below the floor; each lowering and each excursion entry restarts the clean distance (R105, R106). The
effort ratio of an onset: of the traction at latch by the nominal effort for a motor bogie under the delivered regime
TRACTION in ACTIVE, else of its brake allocations by its brake nominal; of bogie T always the latter; 0 for a nominal
of 0 (R103, R104, R106). A notice applied lowers K to its severity, but not below the floor, and restarts the clean
distance if K falls (R114); every 1,000 cm run clean raises K by the raise step, up to 1000 (R107). A new notice
merges into the candidate, an entry of its target within the merge distance, whose distance differs least; with none
and a full queue into the entry of its target whose distance differs least; of two at the same difference the first in
the queue, which is the nearer, is chosen; otherwise into none (R111). The rail condition queue takes at most eight
notices: placing one merges it into its entry, which takes the nearer mark and the smaller severity, or inserts it, or
drops it from a full queue; a merged or inserted notice stands behind those that are not farther and before one that
is farther, its mark advanced by 1 cm while another entry has it; a queue of distinct marks keeps distinct marks
(R110, R111). The pass of a completion: step 1 on every bogie, the reached notices at the head applied, counted and
removed, the clean distances, the local notices of the leading bogie's onset (for the other motor bogie, and for T
before it at a slide) with its K of step 1 as severity, the three chain notices of a frame's notice where the
direction is the chain-forward one, counted as ignored otherwise, and A's and then B's onset offered to the outgoing
notice, which an equal or lower K replaces (R105, R106, R107, R110, R112, R113, R114, R116). -/
def Obligations.CeilingsAndNoticesFollowThePass : Prop :=
  (∀ (r : CeilingRecord) (t : CeilingTuning) (ratio : Nat) (b : BogieRecord) (entered : Bool),
     let n := r.step1 t ratio b entered
     (b.becamePoor = true → n.k = t.floor ∧ n.clean = 0 ∧ n.restarted = true)
     ∧ (b.becamePoor = false → b.onset ≠ none →
         n.k = max t.floor (min r.k (ratio - t.margin)) ∧ n.clean = 0 ∧ n.restarted = true)
     ∧ (b.becamePoor = false → b.onset = none → n.k = r.k ∧ n.restarted = entered
         ∧ n.clean = (if entered then 0 else r.clean)))
  ∧ (∀ (s : State) (regime : Regime) (m : Motor),
     let per (effort nominal : Nat) : Nat := if nominal = 0 then 0 else effort * 1000 / nominal
     let caps := s.cfg.tun.blend
     (regime = .traction → s.ctl.part = .active →
       s.ratio regime m.bogie = per (s.ceil.records.get m.bogie).traction (s.cfg.str.nominal.get m))
     ∧ (regime ≠ .traction ∨ s.ctl.part ≠ .active →
       s.ratio regime m.bogie = per (s.ceil.records.get m.bogie).brake (caps.edCap.get m + caps.frCap.get m.bogie))
     ∧ s.ratio regime .t = per s.ceil.records.t.brake caps.frCap.t)
  ∧ (∀ (r : CeilingRecord) (floor severity raise step : Nat) (blind inExcursion : Bool),
     let n := r.apply floor severity
     let m := r.step3 raise step blind inExcursion
     (n.k = max floor (min r.k severity) ∧ (n.k < r.k → n.clean = 0 ∧ n.restarted = true)
       ∧ (r.k ≤ n.k → n.clean = r.clean ∧ n.restarted = r.restarted))
     ∧ (r.restarted = true ∨ blind = true ∨ inExcursion = true → m = r)
     ∧ (r.restarted = false → blind = false → inExcursion = false → r.clean + step < 1000 →
         m = { r with clean := r.clean + step })
     ∧ (r.restarted = false → blind = false → inExcursion = false → 1000 ≤ r.clean + step →
         m = { r with clean := r.clean + step - 1000, k := min 1000 (r.k + raise) }))
  ∧ (∀ (odometer : Odo) (distance : Nat) (q : List Notice) (n : Notice),
     let d (x : Notice) : Nat := (x.mark - odometer).toNat
     let differs (x : Notice) : Nat := max (d x) (d n) - min (d x) (d n)
     let same (x : Notice) : Prop := x.target = n.target
     let candidate (x : Notice) : Prop := same x ∧ differs x ≤ distance
     let first (p : Notice → Prop) (e : Notice) : Prop :=
       ∃ before after, q = before ++ e :: after ∧ p e ∧ (∀ x ∈ before, p x → differs e < differs x)
         ∧ (∀ x ∈ after, p x → differs e ≤ differs x)
     ((∃ x ∈ q, candidate x) → ∃ e, mergeEntry odometer distance q n = some e ∧ first candidate e)
     ∧ ((∀ x ∈ q, ¬ candidate x) → q.length < 8 → mergeEntry odometer distance q n = none)
     ∧ ((∀ x ∈ q, ¬ candidate x) → 8 ≤ q.length → (∃ x ∈ q, same x) →
         ∃ e, mergeEntry odometer distance q n = some e ∧ first same e)
     ∧ ((∀ x ∈ q, ¬ same x) → mergeEntry odometer distance q n = none))
  ∧ (∀ (odometer : Odo) (distance : Nat) (q : List Notice) (n : Notice),
     let q' := (place odometer distance q n).1
     let d (x : Notice) : Nat := (x.mark - odometer).toNat
     let stands (rest : List Notice) (mark : Odo) (severity : Nat) (target : Bogie) : Prop :=
       ∃ before after k, let x : Notice := { mark := mark + BitVec.ofNat 32 k, severity := severity, target := target }
         rest = before ++ after ∧ q' = before ++ x :: after ∧ (∀ y ∈ before, d y ≤ d x) ∧ (∀ y ∈ after.head?, d x < d y)
         ∧ (∀ y ∈ rest, y.mark ≠ x.mark) ∧ ∀ j, j < k → ∃ y ∈ rest, y.mark = mark + BitVec.ofNat 32 j
     (q.length ≤ 8 → q'.length ≤ 8)
     ∧ (q.length ≤ 8 → (q.map (·.mark)).Nodup → (q'.map (·.mark)).Nodup)
     ∧ ((place odometer distance q n).2 = .dropped → q' = q ∧ 8 ≤ q.length)
     ∧ (∀ e, q.length ≤ 8 → mergeEntry odometer distance q n = some e →
         (place odometer distance q n).2 = .merged
         ∧ stands (q.filter fun x => x.mark ≠ e.mark) (if d n < d e then n.mark else e.mark) (min e.severity n.severity)
             e.target)
     ∧ (mergeEntry odometer distance q n = none → q.length < 8 →
         (place odometer distance q n).2 = .inserted ∧ stands q n.mark n.severity n.target)
     ∧ (mergeEntry odometer distance q n = none → 8 ≤ q.length → place odometer distance q n = (q, .dropped)))
  ∧ (∀ (e : Evaluation) (s : State),
     let t := s.cfg.tun.ceiling
     let odo := e.ref.odometer
     let at' := s.cfg.str.spacingAT
     let ab := s.cfg.str.spacingAB
     let notice (ahead spacing severity : Nat) (y : Bogie) : Notice :=
       { mark := odo + BitVec.ofNat 32 (ahead + spacing), severity := severity, target := y }
     let placed (n : Notice) (p : Pass) := p.place t.mergeDistance odo n
     let chained (n : Notice) (p : Pass) : Pass :=
       if (odo - n.mark).toNat < 2 ^ 31 then
         { p with
           records := p.records.set n.target ((p.records.get n.target).apply t.floor n.severity)
           rep := p.rep.bump Counter.noticeApplied.number }
       else placed n p
     let first := PerBogie.build fun y =>
       (s.ceil.records.get y).step1 t (s.ratio e.regime y) (e.bogies.get y)
         ((e.slips.get y.axles.1).entered || (e.slips.get y.axles.2).entered)
     let due := s.ceil.queue.takeWhile fun n => (odo - n.mark).toNat < 2 ^ 31
     let applied := due.foldl (fun r n => r.set n.target ((r.get n.target).apply t.floor n.severity)) first
     let p3 : Pass :=
       { records := PerBogie.build fun y =>
           (applied.get y).step3 (if s.sand.trail then 2 * t.raiseStep else t.raiseStep) e.ref.step
             (e.bogies.get y).blind
             (e.bogies.get y).inExcursion
         queue := s.ceil.queue.drop due.length, outgoing := s.ceil.outgoing
         rep := s.rep.bumpBy Counter.noticeApplied.number due.length }
     let p4 : Pass :=
       match s.intent.accepted.direction with
       | .neutral => p3
       | .forward =>
         match e.bogies.a.onset with
         | none => p3
         | some .spin => placed (notice 0 ab first.a.k .b) p3
         | some .slide => placed (notice 0 ab first.a.k .b) (placed (notice 0 at' first.a.k .t) p3)
       | .reverse =>
         match e.bogies.b.onset with
         | none => p3
         | some .spin => placed (notice 0 ab first.b.k .a) p3
         | some .slide => placed (notice 0 ab first.b.k .a) (placed (notice 0 (ab - at') first.b.k .t) p3)
     let p5 : Pass :=
       match e.frame.bind (·.notice) with
       | none => p4
       | some (_, byte) =>
         let severity := min 1000 (byte * 4)
         let ahead := s.cfg.str.chainOffset
         if s.intent.accepted.direction = .forward ∧ s.cfg.str.chainForward = 1 then
           chained (notice ahead ab severity .b)
             (chained (notice ahead at' severity .t) (chained (notice ahead 0 severity .a) p4))
         else if s.intent.accepted.direction = .reverse ∧ s.cfg.str.chainForward = 2 then
           chained (notice ahead ab severity .a)
             (chained (notice ahead (ab - at') severity .t) (chained (notice ahead 0 severity .b) p4))
         else { p4 with rep := p4.rep.bump Counter.chainNoticeIgnored.number }
     let offered (m : Motor) (out : Option (Motor × Kind)) : Option (Motor × Kind) :=
       match (e.bogies.get m.bogie).onset with
       | none => out
       | some kind =>
         match out with
         | none => some (m, kind)
         | some (h, k) =>
           if (p5.records.get m.bogie).k ≤ (p5.records.get h.bogie).k then some (m, kind) else some (h, k)
     s.passResult e = { p5 with outgoing := offered .b (offered .a s.ceil.outgoing) }
     ∧ (∀ (p : Pass) (n : Notice),
         p.place t.mergeDistance odo n =
           { p with
             queue := (place odo t.mergeDistance p.queue n).1
             rep :=
               match (place odo t.mergeDistance p.queue n).2 with
               | .merged => p.rep.bump Counter.noticeMerged.number
               | .inserted => p.rep
               | .dropped => p.rep.raise .noticeDropped }))

/-! ### The blend allocator -/

/-- A run takes the sources in the order of the allocation list, each for the smaller of what remains of D_eff less
the MTB share and its cap; what remains after the fifth is the deficit, so that the five allocations, the MTB share
and the deficit add up to D_eff; a deficit above the threshold raises BRAKE_DEFICIT (R128). D_eff rises to D at once,
and falls by at most one release step at an evaluation run and not at all at any other; D follows the table of R123,
at most 65,534; H is formed from the accepted mass and gradient, or in FALLBACK from the tuned maxima while MODE is
not LIVE (R122, R123, R124). The caps of a run: an electric brake has none in FALLBACK, outside SERVICE_BRAKE or
isolated; else its rated cap, or in shortfall what it achieves if that is less, faded below 2,500 mm/s of the seen
reference to nothing at 500 and scaled by C and K; a friction brake has its rated cap scaled by C, the whole of it
below 50 mm/s, and none isolated (R125, R126). The MTB share is the smaller of the MTB effort and D_eff while the
lines are asserted and the supply is good, and 0 otherwise; the lines are asserted under EMERGENCY above 50 mm/s or by
deficit assist (R127, R136). A run hands the BRAKE word of the applied brake, D_eff less the deficit, and then the
words of ED_A, ED_B, FR_A, FR_T and FR_B with their allocations, each under R18. An isolated source's word is void;
the tags are FALLBACK in FALLBACK, DEFAULT while BRAKE is not LIVE, CORRECTED for a source asked for more than a
reduced cap and for an applied brake other than the intent, else EFFECTIVE (R14, R17, R18, R129). What a run leaves
alone, whatever moves it: it changes the allocator's record, hands words, may clear the rollback distance, raise
BRAKE_DEFICIT and ROLLBACK and give START, and nothing else. -/
def Obligations.RunSharesOutTheDemand : Prop :=
  (∀ (evaluation returning : Bool) (s : State), s.allocationOrder.Perm allSources →
     let t := run evaluation returning s
     let b := t.blend
     b.alloc.sum + b.mtb + b.deficit = b.dEff
     ∧ (∀ (earlier : List Source) (x : Source) (later : List Source), s.allocationOrder = earlier ++ x :: later →
         b.alloc.get x = min (b.caps.get x) (b.dEff - b.mtb - (earlier.map b.alloc.get).sum))
     ∧ (s.cfg.tun.blend.deficitThreshold < b.deficit → t.rep.flag .brakeDeficit = true))
  ∧ (∀ (evaluation returning : Bool) (s : State),
     let b := (run evaluation returning s).blend
     let tun := s.cfg.tun.blend
     let standstill := s.blend.seenMagnitude < 50
     let brake := if s.intent.channels.brake.fresh = .live then s.intent.channels.brake.intent.getD 0 else 0
     let hold (mass gradient : Nat) : Nat := mass * 250 * 981 * gradient / 1000000 * (1000 + tun.holdMargin) / 1000
     b.dEff = (if s.blend.dEff ≤ b.d then b.d
       else if evaluation then max b.d (s.blend.dEff - tun.releaseStep) else s.blend.dEff)
     ∧ b.d = min 65534
         (if s.ctl.part = .fallback then max brake (max b.h tun.fallbackBrake)
          else
            match s.intent.accepted.regime with
            | .hold => max brake b.h
            | .serviceBrake => if standstill then max brake b.h else brake
            | .coast => if standstill then b.h else 0
            | .traction => b.fhs
            | .emergency => max brake tun.emergencyDemand)
     ∧ (s.ctl.part ≠ .fallback ∨ s.intent.mode.fresh = .live →
         b.h = hold s.intent.accepted.mass s.intent.accepted.gradient.natAbs)
     ∧ (s.ctl.part = .fallback → s.intent.mode.fresh ≠ .live → b.h = hold tun.maxMass tun.maxGradient))
  ∧ (∀ (evaluation returning : Bool) (s : State),
     let b := (run evaluation returning s).blend
     let v := s.blend.seenMagnitude
     let f := if 2500 ≤ v then 1000 else if 500 < v then (v - 500) / 2 else 0
     (∀ m : Motor,
       let none' := s.ctl.part = .fallback ∨ s.intent.accepted.regime ≠ .serviceBrake
         ∨ s.cfg.str.driveIsolated.get m = true
       let rated := s.cfg.tun.blend.edCap.get m
       let achieved := (-((s.blend.achieved.get m).getD 0)).toNat
       let base := if s.blend.shortfall.get m then min rated achieved else rated
       (none' → b.caps.get m.ed = 0)
       ∧ (¬ none' → b.caps.get m.ed
           = base * f / 1000 * (s.ev.bogies.get m.bogie).c * (s.ceil.records.get m.bogie).k / 1000000))
     ∧ (∀ y : Bogie,
         let rated := s.cfg.tun.blend.frCap.get y
         b.caps.get y.fr = if s.cfg.str.frictionIsolated.get y then 0
           else if v < 50 then rated
           else rated * (s.ev.bogies.get y).c / 1000))
  ∧ (∀ (evaluation returning : Bool) (s : State),
     let b := (run evaluation returning s).blend
     (b.lines = true ∧ s.sand.supplyGood = true → b.mtb = min s.cfg.tun.blend.mtbEffort b.dEff)
     ∧ (b.lines = false ∨ s.sand.supplyGood = false → b.mtb = 0)
     ∧ (b.lines = true ↔ 50 < s.blend.seenMagnitude
         ∧ (s.intent.accepted.regime = .emergency
           ∨ s.blend.assist = true ∧ s.intent.accepted.regime = .serviceBrake)))
  ∧ (∀ (evaluation returning : Bool) (s : State), s.allocationOrder.Perm allSources →
     let t := run evaluation returning s
     let b := t.blend
     let caps := s.cfg.tun.blend
     let electric (cap : Nat) : Nat := if s.intent.accepted.regime = .serviceBrake then cap else 0
     let unreduced : PerSource Nat :=
       ⟨electric caps.edCap.a, electric caps.edCap.b, caps.frCap.a, caps.frCap.t, caps.frCap.b⟩
     let asked (x : Source) : Nat :=
       b.dEff - b.mtb - ((s.allocationOrder.takeWhile fun y => y != x).map b.alloc.get).sum
     let shared (corrected : Bool) : Tag :=
       if s.ctl.part = .fallback then .fallback
       else if s.intent.channels.brake.fresh ≠ .live then .default
       else if corrected then .corrected else .effective
     let word (x : Source) : Word :=
       if s.isolated x then 0x5005FFFF
       else setpointWord (b.alloc.get x)
         (shared (decide (b.caps.get x < asked x) && decide (b.caps.get x < unreduced.get x)))
     let applied := b.dEff - b.deficit
     let brakeWord := setpointWord applied (shared (s.intent.channels.brake.intent != some applied))
     let words : List (Role × Word) :=
       (.intent .brake, brakeWord) :: [Source.edA, .edB, .frA, .frT, .frB].map fun x => (.output x, word x)
     let handed := words.foldl (fun x rw => hand rw.1 rw.2 x) s
     t.intent = handed.intent ∧ t.ip = handed.ip
     ∧ (∀ x, s.intent.addrs.get (.output x) ≠ none → t.intent.handed.get (.output x) = some (word x))
     ∧ (s.intent.addrs.get (.intent .brake) ≠ none → t.intent.handed.get (.intent .brake) = some brakeWord))
  ∧ (∀ (evaluation returning : Bool) (s : State),
     let t := run evaluation returning s
     t = { s with
       blend := t.blend, intent := t.intent, ip := t.ip, ref := t.ref, ev := t.ev, sand := t.sand, rep := t.rep }
     ∧ t.intent = { s.intent with handed := t.intent.handed }
     ∧ t.ref = { s.ref with rollback := t.ref.rollback }
     ∧ t.ev = { s.ev with running := t.ev.running }
     ∧ t.ip.port = s.ip.port ∧ t.ip.inflight = s.ip.inflight ∧ t.ip.copy = s.ip.copy ∧ t.ip.fetch = s.ip.fetch
     ∧ (s.cfg.tun.blend.deficitThreshold < t.blend.deficit → t.rep.flag .brakeDeficit = true)
     ∧ (∀ c, s.rep.flag c = true → t.rep.flag c = true))

/-- The hill-start state of a run moves by the first line of R133's table that applies, and is OFF outside ACTIVE; the
run of a return to ACTIVE enters RELEASING from OFF under TRACTION at a standstill with a hold to keep. F_hs is 0 in
OFF, H in HOLDING and ROLLBACK_HOLD, and in RELEASING H less what the motors pull. Entry to ROLLBACK_HOLD raises
ROLLBACK, leaving it clears the rollback distance in the allocator, the reference unit and an evaluation in progress,
and HOLDING to RELEASING gives the release event (R128, R133, R134, R135, R138, R194). The H that it reads is that of
the same run: the model's reading of R121's list (log 48, DEDUCED). Step 5 of a run: a motor bogie's lag timer starts,
or runs on, while in ACTIVE under SERVICE_BRAKE with the shortfall clear its ED allocation exceeds what it achieves by
more than the larger of 200 daN and 50 ‰, and is cancelled otherwise; outside SERVICE_BRAKE the shortfalls end with
both timers; the deficit timer starts, or runs on, while under SERVICE_BRAKE above 50 mm/s without assist the deficit
exceeds its threshold, and is cancelled otherwise; assist ends outside SERVICE_BRAKE and at 50 mm/s or less (R131,
R132, R137). A lag timer's expiry sets the shortfall, raises ED_SHORTFALL and counts it, starts the probe timer and
runs; a probe timer's expiry clears the shortfall and runs; the deficit timer's expiry latches deficit assist, counts
it and runs (R132, R137). -/
def Obligations.HillStartAndTimersMoveTheRun : Prop :=
  (∀ (evaluation returning : Bool) (s : State),
     let t := run evaluation returning s
     let b := t.blend
     let regime := s.intent.accepted.regime
     let direction := s.intent.accepted.direction
     let braking := regime = .hold ∨ regime = .serviceBrake
     let still := s.blend.seenMagnitude < 50
     let back := s.cfg.tun.blend.rollbackLimit < s.blend.seenRollback * 10
     let pull := (s.blend.achieved.a.getD 0).toNat + (s.blend.achieved.b.getD 0).toNat
     let away := 1000 < s.blend.seenMagnitude
       ∧ (direction = .forward ∧ s.blend.seenSense = .forward ∨ direction = .reverse ∧ s.blend.seenSense = .reverse)
     let off := regime = .coast ∨ regime = .emergency ∨ b.h = 0
     let regained := s.blend.hill = .rollbackHold ∧ b.hill = .releasing
     let released := s.blend.hill = .holding ∧ b.hill = .releasing
     let rolled := if s.blend.hill ≠ .rollbackHold ∧ b.hill = .rollbackHold then s.rep.raise .rollback else s.rep
     let raised := if s.cfg.tun.blend.deficitThreshold < b.deficit then rolled.raise .brakeDeficit else rolled
     (s.ctl.part ≠ .active → b.hill = .off)
     ∧ (s.ctl.part = .active → off → b.hill = .off)
     ∧ (s.ctl.part = .active → ¬ off → s.blend.hill = .off →
         b.hill = if braking ∧ still then .holding
           else if returning = true ∧ regime = .traction ∧ still then .releasing else .off)
     ∧ (s.ctl.part = .active → ¬ off → s.blend.hill = .holding →
         b.hill = if back then .rollbackHold else if regime = .traction then .releasing else .holding)
     ∧ (s.ctl.part = .active → ¬ off → s.blend.hill = .releasing →
         b.hill = if back then .rollbackHold else if braking then .holding
           else if b.h ≤ pull ∨ away then .off else .releasing)
     ∧ (s.ctl.part = .active → ¬ off → s.blend.hill = .rollbackHold →
         b.hill = if regime = .traction ∧ b.h * 1100 / 1000 ≤ pull then .releasing else .rollbackHold)
     ∧ b.fhs = (match b.hill with
         | .off => 0
         | .holding => b.h
         | .rollbackHold => b.h
         | .releasing => b.h - pull)
     ∧ b.seenRollback = (if regained then 0 else s.blend.seenRollback)
     ∧ t.ref.rollback = (if regained then 0 else s.ref.rollback)
     ∧ t.ev.running = s.ev.running.map (fun e =>
         { e with ref := { e.ref with rollback := if regained then 0 else e.ref.rollback } })
     ∧ t.rep = (if released then (sandRelease { s with rep := raised }).rep else raised)
     ∧ t.sand = (if released then (sandRelease s).sand else s.sand))
  ∧ (∀ (evaluation returning : Bool) (s : State),
     let b := (run evaluation returning s).blend
     let tun := s.cfg.tun.blend
     let service := s.intent.accepted.regime = .serviceBrake
     let runsOn (old : Timer) (length : Nat) : Timer := if old = none then some (s.now + length * 1000) else old
     (∀ m : Motor,
       let allocated := b.alloc.get m.ed
       let short := s.ctl.part = .active ∧ service ∧ s.blend.shortfall.get m = false
         ∧ max 200 (allocated * 50 / 1000) < allocated - (-((s.blend.achieved.get m).getD 0)).toNat
       (short → b.lag.get m = runsOn (s.blend.lag.get m) tun.edLag)
       ∧ (¬ short → b.lag.get m = none)
       ∧ (service → b.shortfall.get m = s.blend.shortfall.get m ∧ b.probe.get m = s.blend.probe.get m)
       ∧ (¬ service → b.shortfall.get m = false ∧ b.probe.get m = none))
     ∧ (let due := service ∧ 50 < s.blend.seenMagnitude ∧ b.assist = false ∧ tun.deficitThreshold < b.deficit
       (due → b.deficitTimer = runsOn s.blend.deficitTimer tun.deficitTime) ∧ (¬ due → b.deficitTimer = none))
     ∧ (b.assist = true ↔ s.blend.assist = true ∧ service ∧ 50 < s.blend.seenMagnitude)
     ∧ b.achieved = s.blend.achieved ∧ b.seenMagnitude = s.blend.seenMagnitude ∧ b.seenSense = s.blend.seenSense)
  ∧ (∀ (m : Motor) (d : Nat) (s : State), s.inForce = true →
     let late : State := { s with now := max s.now d }
     (s.blend.lag.get m = some d →
       exec (.lagTimerExpiry m) s
         = .next (finish (run false false
             { late with
               blend :=
                 { s.blend with
                   shortfall := s.blend.shortfall.set m true, lag := s.blend.lag.set m none
                   probe := s.blend.probe.set m (some (max s.now d + s.cfg.tun.blend.probeInterval * 1000)) }
               rep := (s.rep.raise .edShortfall).bump 14 })))
     ∧ (s.blend.probe.get m = some d →
         exec (.probeTimerExpiry m) s
           = .next (finish (run false false
               { late with
                 blend :=
                   { s.blend with shortfall := s.blend.shortfall.set m false, probe := s.blend.probe.set m none } })))
     ∧ (s.blend.deficitTimer = some d →
         exec .deficitTimerExpiry s
           = .next (finish (run false false
               { late with
                 blend := { s.blend with assist := true, deficitTimer := none }
                 rep := s.rep.bump 15 }))))

/-! ### Sanding and supply -/

/-- A combined trigger given to a sander: no parts, or one that does not lead: nothing; EMPTY, UNAVAILABLE, a spent
budget, or a reference below 200 mm/s without START among the parts withholds it, counted, with SAND_WITHHELD;
otherwise it takes one unit, starts the full pulse, counts SAND_PULSE_START and makes the trail active; either way the
first part in R144's order is the last trigger (R144, R152). Standing triggers: MANUAL by the accepted request,
EMERGENCY by the regime at 200 mm/s or more, POOR_RAIL by a rail hint POOR, a climb of 40 ‰ or more and a leading
traction share above 600 ‰, if it held at its last judgment too (log 18); a sander leads in its own direction if
enabled; none stands outside ACTIVE and FALLBACK, and POOR_RAIL not with FALLBACK's traction of 0 (R142, R146, R147,
R155). At a MODE taken event a change of direction first stops the pulses of sanders that no longer lead and ends the
trail; then the leading sanders are given, combined, MANUAL at a request that was clear, EMERGENCY at another regime
and POOR_RAIL at a judgment that was no, or each that holds after a change of direction (R145, R146, R154). At an
evaluation completion reference and odometer are taken, POOR_RAIL is judged and windows that have run out reload; the
sanders are given, combined, EXCURSION at the end of the leading bogie one of whose axles entered, REPEAT if a bogie
became adhesion poor, POOR_RAIL at its onset, and the standing triggers where the reference rises to 200 mm/s at an
idle sander or its window reloads without a pulse (log 17); the trail ends at its mark if no leading sander pulses
(R144 to R147, R150, R152, R155). A release event gives the leading sanders START on a climb of 60 ‰ or more with a
rail hint other than DRY, else nothing (R148). A pulse timer's expiry ends the pulse and re-offers the standing
triggers to its sander; if none is accepted, it led and no other leading sander pulses, the trail mark is the seen
odometer plus 2,000 cm (R147, R149, R152). -/
def Obligations.TriggersAndPulsesFollowTheirRules : Prop :=
  (∀ (i : SanderId) (parts : List Trigger) (s : State), (s.cfg.tun.sanders.get i).enabled = true →
     let r := s.sand.sanders.get i
     let withheld := s.sand.supplyGood = false ∨ r.full = false ∨ r.remaining = 0
       ∨ (s.sand.seenMagnitude < 200 ∧ Trigger.start ∉ parts)
     let name :=
       [Trigger.manual, .excursion, .repeated, .emergency, .start, .poorRail].find? fun k => decide (k ∈ parts)
     (s.leads i = false ∨ parts = [] → offer i parts s = s)
     ∧ (s.leads i = true → parts ≠ [] → withheld →
         offer i parts s
           = { s with
               sand :=
                 { s.sand with
                   sanders := s.sand.sanders.set i { r with withheld := min 65535 (r.withheld + 1), last := name } }
               rep := s.rep.raise .sandWithheld })
     ∧ (s.leads i = true → parts ≠ [] → ¬ withheld →
         offer i parts s
           = { s with
               sand :=
                 { s.sand with
                   sanders := s.sand.sanders.set i
                     { r with
                       remaining := r.remaining - 1, last := name
                       pulse := some (s.now + (s.cfg.tun.sanders.get i).pulse * 1000) }
                   trail := true }
               rep := s.rep.bump 16 }))
  ∧ (∀ s : State,
     let mode := s.intent.accepted
     let share (m : Motor) : Nat := s.intent.held.get m * 1000 / s.cfg.str.nominal.get m
     (s.poorRail = true ↔ mode.rail = .poor
       ∧ (mode.direction = .forward ∧ 40 ≤ mode.gradient ∧ 600 < share .a
         ∨ mode.direction = .reverse ∧ mode.gradient ≤ -40 ∧ 600 < share .b))
     ∧ (∀ k, k ∈ s.standing ↔ s.inForce = true
         ∧ (k = .manual ∧ mode.sand = true
           ∨ k = .emergency ∧ mode.regime = .emergency ∧ 200 ≤ s.sand.seenMagnitude
           ∨ k = .poorRail ∧ s.sand.poorSeen = true ∧ s.poorRail = true))
     ∧ ((∀ m, s.intent.held.get m = 0) → Trigger.poorRail ∉ s.standing)
     ∧ (∀ i, let t := s.cfg.tun.sanders.get i
         s.leads i = true ↔ t.enabled = true
           ∧ (mode.direction = .forward ∧ t.forReverse = false ∨ mode.direction = .reverse ∧ t.forReverse = true)))
  ∧ (∀ s : State,
     let mode := s.intent.accepted
     let x := s.sand
     let changed := mode.direction ≠ x.seenDirection
     let manual := mode.sand = true ∧ (x.seenRequest = false ∨ changed)
     let emergency := mode.regime = .emergency ∧ (x.seenRegime ≠ .emergency ∨ changed)
     let poor := s.poorRail = true ∧ (x.poorSeen = false ∨ changed)
     let parts := (if manual then [Trigger.manual] else []) ++ (if emergency then [.emergency] else [])
       ++ (if poor then [.poorRail] else [])
     let judged : State :=
       { s with
         sand :=
           { x with
             sanders := PerSander.build fun i =>
               if changed ∧ s.leads i = false then { x.sanders.get i with pulse := none } else x.sanders.get i
             trail := if changed then false else x.trail
             trailMark := if changed then none else x.trailMark
             poorSeen := s.poorRail
             seenRequest := mode.sand, seenRegime := mode.regime, seenDirection := mode.direction } }
     sandModeTaken s = [SanderId.s1, .s2, .s3, .s4].foldl (fun t i => offer i parts t) judged)
  ∧ (∀ (e : Evaluation) (s : State),
     let odo := e.ref.odometer
     let at' (m : Odo) : Bool := decide ((odo - m).toNat < 2 ^ 31)
     let entered (x y : Axle) : Bool := (e.slips.get x).entered || (e.slips.get y).entered
     let atEnd (i : SanderId) : Bool :=
       match e.direction with
       | .neutral => false
       | .forward => !(s.cfg.tun.sanders.get i).endB && entered .a1 .a2
       | .reverse => (s.cfg.tun.sanders.get i).endB && entered .b1 .b2
     let repeated := e.bogies.a.becamePoor || e.bogies.t.becamePoor || e.bogies.b.becamePoor
     let onset := s.poorRail && !s.sand.poorSeen
     let crossing := decide (s.sand.seenMagnitude < 200) && decide (200 ≤ e.ref.magnitude)
     let reload (i : SanderId) : Bool :=
       let t := s.cfg.tun.sanders.get i
       t.enabled && at' ((s.sand.sanders.get i).windowStart + BitVec.ofNat 32 (t.window * 100))
     let seen : State :=
       { s with
         sand :=
           { s.sand with
             seenMagnitude := e.ref.magnitude, seenOdometer := odo, poorSeen := s.poorRail
             sanders := PerSander.build fun i =>
               if reload i then
                 { s.sand.sanders.get i with remaining := (s.cfg.tun.sanders.get i).budget, windowStart := odo }
               else s.sand.sanders.get i } }
     let up (i : SanderId) : Bool := (s.cfg.tun.sanders.get i).enabled && s.sand.supplyGood
       && (s.sand.sanders.get i).full
     let pulsing (i : SanderId) : Bool := up i && (s.sand.sanders.get i).pulse.isSome
     let idle (i : SanderId) : Bool := up i && (s.sand.sanders.get i).pulse.isNone
     let parts (i : SanderId) : List Trigger :=
       (if atEnd i then [Trigger.excursion] else []) ++ (if repeated then [.repeated] else [])
         ++ (if onset then [.poorRail] else [])
         ++ (if (crossing && idle i) || (reload i && !pulsing i) then seen.standing else [])
     let given := [SanderId.s1, .s2, .s3, .s4].foldl (fun t i => offer i (parts i) t) seen
     let pulses (i : SanderId) : Bool :=
       given.leads i && given.sand.supplyGood && (given.sand.sanders.get i).full
         && (given.sand.sanders.get i).pulse.isSome
     let ends := given.sand.trailMark.any at' && !([SanderId.s1, .s2, .s3, .s4].any pulses)
     sandCompletion e s
       = { given with
           sand :=
             { given.sand with
               trail := if ends then false else given.sand.trail
               trailMark := if ends then none else given.sand.trailMark } })
  ∧ (∀ s : State,
     let mode := s.intent.accepted
     let climbs := mode.direction = .forward ∧ 60 ≤ mode.gradient ∨ mode.direction = .reverse ∧ mode.gradient ≤ -60
     (climbs → mode.rail ≠ .dry →
       sandRelease s = [SanderId.s1, .s2, .s3, .s4].foldl (fun t i => offer i [.start] t) s)
     ∧ (¬ climbs ∨ mode.rail = .dry → sandRelease s = s))
  ∧ (∀ (i : SanderId) (d : Nat) (s : State), (s.sand.sanders.get i).pulse = some d →
     let idle : State :=
       { s with
         now := max s.now d
         sand := { s.sand with sanders := s.sand.sanders.set i { s.sand.sanders.get i with pulse := none } } }
     let t := offer i s.standing idle
     exec (.pulseTimerExpiry i) s
         = .next (finish
             { t with
               sand :=
                 { t.sand with
                   trailMark :=
                     if (t.sand.sanders.get i).pulse = none ∧ s.leads i = true ∧ s.otherPulsing i = false then
                       some (s.sand.seenOdometer + 2000)
                     else s.sand.trailMark } })
       ∧ (s.standing = [] → t = idle)
       ∧ (∀ j, j ≠ i → t.sand.sanders.get j = s.sand.sanders.get j)
       ∧ t = { idle with sand := t.sand, rep := t.rep })

/-- A low sample of an enabled sander's level sets the indicator EMPTY, cancels the level timer, stops its pulse and,
from FULL, raises SAND_EMPTY; a high sample of an EMPTY one starts the 1 s level timer if it does not run, or sets the
indicator at the first sample after its enabling (R143, R151, R154). The model's choice (log 30, DEDUCED): a low first
sample after the enabling of an EMPTY sander raises nothing. The level timer's expiry makes the indicator FULL (R151).
The supply state goes LOW below the threshold, raising ACT_SUPPLY_LOW and stopping every pulse, and GOOD again at the
threshold plus 0.6 V; any other sample leaves it and every sander as they were (R153). That SUPPLY_GOOD and SUPPLY_LOW
are one sample judged by its voltage is the model's reading of the two rows (log 6, DEDUCED). A sander that returns to
IDLE is given the standing triggers: at the level timer's expiry, the first high sample after its enabling and the
supply's return (R147, R151, R153, R154). -/
def Obligations.LevelsAndSupplyAreMonitored : Prop :=
  (∀ (i : SanderId) (s : State), (s.cfg.tun.sanders.get i).enabled = true → s.ctl.part ≠ .reset →
     s.ctl.part ≠ .publish →
     let r := s.sand.sanders.get i
     (∃ u, exec (.sandLevelLow i) s = .next (finish u)
       ∧ (r.full = true → u.rep = s.rep.raise .sandEmpty
           ∧ u.sand.sanders.get i = { r with full := false, level := none, levelFresh := false, pulse := none })
       ∧ (r.full = false → u.rep = s.rep
           ∧ u.sand.sanders.get i = { r with level := none, levelFresh := false })
       ∧ (∀ j, j ≠ i → u.sand.sanders.get j = s.sand.sanders.get j)
       ∧ u.sand = { s.sand with sanders := u.sand.sanders, trailMark := u.sand.trailMark }
       ∧ u = { s with pins := u.pins, sand := u.sand, rep := u.rep })
     ∧ (∃ u, exec (.sandLevelHigh i) s = .next (finish u)
       ∧ (r.full = true → u.sand.sanders.get i = { r with levelFresh := false } ∧ u.rep = s.rep)
       ∧ (r.full = false → r.levelFresh = false → u.rep = s.rep ∧ u.sand.sanders.get i
           = { r with level := if r.level = none then some (s.now + 1000000) else r.level })
       ∧ (r.full = false → r.levelFresh = true → (u.sand.sanders.get i).full = true
           ∧ (u.sand.sanders.get i).level = none)
       ∧ (∀ j, j ≠ i → u.sand.sanders.get j = s.sand.sanders.get j)
       ∧ u = { s with pins := u.pins, sand := u.sand, rep := u.rep }))
  ∧ (∀ (i : SanderId) (d : Nat) (s : State), (s.sand.sanders.get i).level = some d →
     ∃ u, exec (.levelTimerExpiry i) s = .next (finish u)
       ∧ u.now = max s.now d
       ∧ (u.sand.sanders.get i).full = true ∧ (u.sand.sanders.get i).level = none
       ∧ (s.standing = [] → u.sand.sanders.get i
             = { s.sand.sanders.get i with full := true, level := none, levelFresh := false } ∧ u.rep = s.rep)
       ∧ (∀ j, j ≠ i → u.sand.sanders.get j = s.sand.sanders.get j)
       ∧ u = { s with now := u.now, sand := u.sand, rep := u.rep })
  ∧ (∀ (v : Nat) (s : State), s.ctl.part ≠ .reset → s.ctl.part ≠ .publish →
     let code := s.cfg.tun.supplyCode
     let limit := if code = 0 then 168 else if code = 1 then 180 else if code = 2 then 192 else 204
     (∃ u, exec (.supplyLow v) s = .next (finish u)
       ∧ (s.sand.supplyGood = true → v < limit →
           u.sand.supplyGood = false ∧ u.rep = s.rep.raise .actSupplyLow
           ∧ (∀ i, u.sand.sanders.get i = { s.sand.sanders.get i with pulse := none }))
       ∧ (s.sand.supplyGood = true → limit ≤ v → u.sand = s.sand ∧ u.rep = s.rep)
       ∧ (s.sand.supplyGood = false → v < limit + 6 → u.sand = s.sand ∧ u.rep = s.rep)
       ∧ (s.sand.supplyGood = false → limit + 6 ≤ v → u.sand.supplyGood = true)
       ∧ u = { s with pins := { s.pins with supply := v }, sand := u.sand, rep := u.rep })
     ∧ exec (.supplyGood v) s = exec (.supplyLow v) s)
  ∧ (∀ s : State, s.ctl.part ≠ .reset → s.ctl.part ≠ .publish →
     let enabled (i : SanderId) := (s.cfg.tun.sanders.get i).enabled = true
     let filled (i : SanderId) (x : State) : State :=
       offer i
         (if s.sand.supplyGood = true ∧ (s.sand.sanders.get i).full = false ∧ (s.sand.sanders.get i).pulse = none then
           s.standing
          else [])
         { x with
           sand :=
             { s.sand with
               sanders :=
                 s.sand.sanders.set i { s.sand.sanders.get i with full := true, level := none, levelFresh := false } } }
     (∀ i d, enabled i → (s.sand.sanders.get i).level = some d →
       exec (.levelTimerExpiry i) s = .next (finish (filled i { s with now := max s.now d })))
     ∧ (∀ i, enabled i → (s.sand.sanders.get i).full = false → (s.sand.sanders.get i).levelFresh = true →
       exec (.sandLevelHigh i) s
         = .next (finish (filled i { s with pins := { s.pins with sandLevel := s.pins.sandLevel.set i true } })))
     ∧ (∀ v code, s.cfg.tun.supplyCode = code → s.sand.supplyGood = false →
       (if code = 0 then 168 else if code = 1 then 180 else if code = 2 then 192 else 204) + 6 ≤ v →
       exec (.supplyGood v) s
         = .next (finish
             ([SanderId.s1, .s2, .s3, .s4].foldl
               (fun t i => offer i
                 (if (s.cfg.tun.sanders.get i).enabled = true ∧ (s.sand.sanders.get i).full = true
                     ∧ (s.sand.sanders.get i).pulse = none then s.standing else []) t)
               { s with pins := { s.pins with supply := v }, sand := { s.sand with supplyGood := true } }))))

/-! ### The chain link -/

/-- While hunting, 0xA5 begins a frame and any other byte is discarded; within a frame of fewer than seven bytes the
byte is stored (R161). The eighth byte completes a frame at a follower: a wrong CRC-8 or an invalid code counts
CHAIN_CHECK, a wrong position CHAIN_POSITION, both with CHAIN_FAULT; a good frame counts CHAIN_FRAME_GOOD, fills an
empty buffer or is lost as an overrun, and in ACTIVE and FALLBACK makes the link LINKED with the silence timer
restarted (R161, R162, R164). With period alignment on, a good frame at a follower in ACTIVE or FALLBACK restarts the
control-period timer with the full control period if less than half of the running period has passed since its last
expiry, start or restart, half the length it runs with (log 12); otherwise the timer runs on. A frame lost to an
overrun does the same; an evaluation in progress is not touched (R162, R165). At the LEAD a frame that ends in any way
is counted once in CHAIN_UNEXPECTED with CHAIN_FAULT and fills no buffer; a follower counts a framing error as
CHAIN_CHECK and the idle limit as CHAIN_INCOMPLETE (R161, R163). While a new character is being received, a glitch
until its middle among them, the idle limit cannot be reached, and its command changes nothing (R159, R161; logs 4 and
47). The silence timer's expiry makes the link LOST, raises CHAIN_FAULT and counts the loss (R164). -/
def Obligations.ChainReceiverJudgesFrames : Prop :=
  (∀ (b : FrameByte) (s : State), (s.ctl.part = .setup ∨ s.inForce = true) →
     let stored (l : List FrameByte) : State :=
       { s with chain := { s.chain with receiving := some l, lastEnd := s.now } }
     (s.chain.receiving = none → b = 0xA5 → exec (.receivedByte b) s = .next (finish (stored [b])))
     ∧ (s.chain.receiving = none → b ≠ 0xA5 → exec (.receivedByte b) s = .next (finish s))
     ∧ (∀ l, s.chain.receiving = some l → l.length < 7 →
         exec (.receivedByte b) s = .next (finish (stored (l ++ [b])))))
  ∧ (∀ (b : FrameByte) (l : List FrameByte) (s : State), (s.ctl.part = .setup ∨ s.inForce = true) →
     1 ≤ s.cfg.str.position → s.cfg.str.position ≤ 3 → s.chain.receiving = some l → l.length = 7 →
     ∃ u, exec (.chainFrameComplete b) s = .next (finish u)
       ∧ u.chain.receiving = none
       ∧ (judgeFrame s.cfg.str.position (l ++ [b]) = .error .check →
           u.rep = (s.rep.raise .chainFault).bump Counter.chainCheck.number
           ∧ u.chain = { s.chain with receiving := none } ∧ u.ev = s.ev)
       ∧ (judgeFrame s.cfg.str.position (l ++ [b]) = .error .position →
           u.rep = (s.rep.raise .chainFault).bump Counter.chainPosition.number
           ∧ u.chain = { s.chain with receiving := none } ∧ u.ev = s.ev)
       ∧ (∀ f, judgeFrame s.cfg.str.position (l ++ [b]) = .ok f →
           (s.chain.buffer = none → u.chain.buffer = some f
             ∧ u.rep = s.rep.bump Counter.chainFrameGood.number)
           ∧ (∀ g, s.chain.buffer = some g → u.chain.buffer = some g
             ∧ u.rep = ((s.rep.bump Counter.chainFrameGood.number).raise .chainFault).bump Counter.chainOverrun.number)
           ∧ (s.inForce = true → u.chain.link = .linked
             ∧ u.chain.silence
                 = some (s.now + 3 * s.cfg.tun.link.expectedInterval * (s.cfg.tun.slip.controlPeriod * 1000)))
           ∧ (s.inForce = false → u.chain.link = s.chain.link ∧ u.chain.silence = s.chain.silence ∧ u.ev = s.ev)
           ∧ (s.cfg.tun.link.alignment = false → u.ev = s.ev))
       ∧ u.ev = { s.ev with period := u.ev.period, length := u.ev.length }
       ∧ u = { s with chain := u.chain, rep := u.rep, ev := u.ev })
  ∧ (∀ (b : FrameByte) (l : List FrameByte) (f : Frame) (d : Nat) (s : State), s.inForce = true →
     1 ≤ s.cfg.str.position → s.cfg.str.position ≤ 3 → s.chain.receiving = some l → l.length = 7 →
     judgeFrame s.cfg.str.position (l ++ [b]) = .ok f → s.cfg.tun.link.alignment = true → s.ev.period = some d →
     let period := s.cfg.tun.slip.controlPeriod * 1000
     ∃ u, exec (.chainFrameComplete b) s = .next (finish u)
       ∧ u.ev = (if 2 * (s.now + s.ev.length - d) < s.ev.length then
           { s.ev with period := some (s.now + period), length := period } else s.ev)
       ∧ u = { s with chain := u.chain, rep := u.rep, ev := u.ev })
  ∧ (∀ (b : FrameByte) (l : List FrameByte) (s : State), (s.ctl.part = .setup ∨ s.inForce = true) →
     s.chain.receiving = some l →
     let ended (c : Counter) : State :=
       { s with
         chain := { s.chain with receiving := none }
         rep := (s.rep.raise .chainFault).bump c.number }
     let at' := max s.now (s.chain.lastEnd + 80)
     (s.cfg.str.position = 0 → l.length = 7 → exec (.chainFrameComplete b) s = .next (finish (ended .chainUnexpected)))
     ∧ (exec .chainFramingError s
         = .next (finish (ended (if s.cfg.str.position = 0 then .chainUnexpected else .chainCheck))))
     ∧ (s.chain.bits.char = none →
         exec .chainIncomplete s
           = .next (finish
               { ended (if s.cfg.str.position = 0 then .chainUnexpected else .chainIncomplete) with now := at' }))
     ∧ (s.chain.bits.char ≠ none → exec .chainIncomplete s = .next (finish s)))
  ∧ (∀ (d : Nat) (s : State), s.chain.silence = some d →
     exec .silenceTimerExpiry s
       = .next (finish
           { s with
             now := max s.now d, chain := { s.chain with link := .lost, silence := none }
             rep := (s.rep.raise .chainFault).bump Counter.chainLinkLost.number }))

/-- A transmit start forms the frame from the accepted regime and direction, the reference and its validity, the sand
state and the outgoing notice with a quarter of its bogie's K, begins to send it, empties the outgoing notice, counts
it, and starts the periodic timer again (R116, R166, R167). A frame that a unit one place ahead sends is good and read
as it was meant; a LEAD in TRACTION, FORWARD, with a valid reference of 0, no notice and no sand sends the bytes of
12.4 (R160, R161, R167). The CRC-8 combines each byte into a register that starts at 0 and shifts it left eight times,
combined with 0x07 whenever a 1 is shifted out. A frame of eight bytes is judged by its check over bytes 2 to 7, then
by its regime, direction and kind codes, then by its position: a wrong check or code makes it CHECK, a wrong position
alone POSITION, and a good frame is read by the layout of 12.4; no frame of another length is good (R160, R161). -/
def Obligations.SentFramesAreGoodBehind : Prop :=
  (∀ (d : Nat) (s : State), s.chain.transmit = some d →
     let at' := max s.now d
     let f : Frame :=
       { regime := s.intent.accepted.regime, direction := s.intent.accepted.direction
         valid := s.ref.source != .lost
         reference := if s.ref.sense = .reverse then -(s.ref.magnitude : Int) else s.ref.magnitude
         notice := s.ceil.outgoing.map fun x => (x.2, (s.ceil.records.get x.1.bogie).k / 4)
         sand := s.sandActive }
     exec .transmitStart s
       = .next (finish
           { s with
             now := at'
             chain :=
               { s.chain with
                 transmit := some (at' + s.cfg.tun.link.chainInterval * (s.cfg.tun.slip.controlPeriod * 1000))
                 sending := some { bytes := f.encode s.cfg.str.position, start := at' } }
             ceil := { s.ceil with outgoing := none }
             rep := s.rep.bump Counter.chainFrameSent.number }))
  ∧ ((∀ (position : Nat) (f : Frame), position ≤ 2 → (f.valid = false → f.reference = 0) →
     -32768 ≤ f.reference → f.reference ≤ 32767 → (∀ k v, f.notice = some (k, v) → v ≤ 255) →
     judgeFrame (position + 1) (f.encode position) = .ok f
     ∧ (f.encode position).length = 8 ∧ (f.encode position).head? = some 0xA5)
   ∧ Frame.encode 0
       { regime := .traction, direction := .forward, valid := true, reference := 0, notice := none, sand := false }
     = [0xA5, 0x00, 0x29, 0x00, 0x00, 0x00, 0x00, 0x1F])
  ∧ (∀ (position : Nat) (m place flags hi lo kind severity check : FrameByte),
     let shift (r : FrameByte) : FrameByte := if 128 ≤ r.toNat then (r <<< 1) ^^^ 0x07 else r <<< 1
     let crc (bytes : List FrameByte) : FrameByte := bytes.foldl (fun r b => Nat.repeat shift 8 (r ^^^ b)) 0
     let regime := (flags.extractLsb' 0 3).toNat
     let direction := (flags.extractLsb' 3 2).toNat
     let noticed := flags.getLsbD 6 = true
     let bad := crc [place, flags, hi, lo, kind, severity] ≠ check ∨ 5 ≤ regime ∨ direction = 3
       ∨ (noticed ∧ kind ≠ 1 ∧ kind ≠ 2)
     let judged := judgeFrame position [m, place, flags, hi, lo, kind, severity, check]
     (∀ bytes, crc8 bytes = crc bytes)
     ∧ (bad → judged = .error .check)
     ∧ (¬ bad → place.toNat + 1 ≠ position → judged = .error .position)
     ∧ (¬ bad → place.toNat + 1 = position → ∃ f, judged = .ok f
         ∧ f.regime.code.toNat = regime ∧ f.direction.code.toNat = direction
         ∧ f.valid = flags.getLsbD 5 ∧ f.sand = flags.getLsbD 7 ∧ f.reference = (hi ++ lo).toInt
         ∧ (¬ noticed → f.notice = none)
         ∧ (noticed → f.notice = some (if kind = 1 then .spin else .slide, severity.toNat)))
     ∧ (∀ bytes, bytes.length ≠ 8 → judgeFrame position bytes = .error .check))

/-! ### Wakes -/

/-- When the settle timer expires WAKING ends in the state that the movement mark, fallback pending and the previous
state fix; the mark and the timer are cleared, the control-period, report, standstill and, of axles in EXCURSION,
excursion timers run, a STILL channel that has moved is VALID, the hold timer starts afresh in HELD, the link is
SEARCHING, and the fallback cause set takes ROLLAWAY and a pending MEMORY_FAULT; back in ACTIVE or FALLBACK the
refresh, fetcher, transmit and a follower's silence timers run, one allocator run is made under the resulting state,
and FALLBACK hands its MODE word; a transaction held through WAKING is then decoded in that state (R20, R21, R25, R44,
R63, R77, R79, R101, R138, R139, R166, R169, R177, R182, R190). Choices of the model: a FALLBACK entered at a wake by
the movement row raises FALLBACK as any entry does (log 23, DEDUCED), and the previous state stands after the wake
(log 38, DEDUCED). A transaction held through WAKING is decoded under the state just entered: after the expiry no
transaction is held any more (R25, R182). -/
def Obligations.WakingEndsInItsState : Prop :=
  (∀ (d : Nat) (s : State), s.ctl.settle = some d → s.ctl.part = .waking →
     let mark := s.ctl.movementMark
     let wasActive := s.ctl.previous = some .active
     let at' := max s.now d
     let period := s.cfg.tun.slip.controlPeriod * 1000
     ∃ u : State,
       ((∀ h, s.ip.host = some h → h.wait ≠ .untilServed) → exec .settleTimerExpiry s = .next (finish u))
       ∧ (∀ h, s.ip.host = some h → h.wait = .untilServed →
           exec .settleTimerExpiry s
             = .next (finish (decodeTxn h.txn { u with ip := { u.ip with host := none } })))
       ∧ u.ip.port = s.ip.port ∧ u.ip.inflight = s.ip.inflight ∧ u.ip.fetch = s.ip.fetch
       ∧ u.now = at'
       ∧ u.ctl = { s.ctl with
           part :=
             if wasActive then (if mark = true ∨ s.ctl.fallbackPending = true then .fallback else .active) else .setup
           settle := none, movementMark := false, fallbackPending := false
           causes :=
             { s.ctl.causes with
               memoryFault := s.ctl.causes.memoryFault || (decide wasActive && s.ctl.fallbackPending)
               rollaway := s.ctl.causes.rollaway || (decide wasActive && mark) } }
       ∧ u.ev.period = some (at' + period) ∧ u.chain.link = .searching
       ∧ u.rw.timer = some (at' + s.cfg.tun.link.reportInterval * period) ∧ u.rw.update ≠ none
       ∧ (∀ i, (s.axle.channels.get i).state ≠ .disabled →
           (u.axle.channels.get i).standstill = some (at' + s.cfg.tun.speed.standstillTimeout * 1000)
           ∧ (u.axle.channels.get i).still = false ∧ (u.axle.channels.get i).movement = 0
           ∧ (u.axle.channels.get i).period = none ∧ (u.axle.channels.get i).lastPrescaled = none
           ∧ (u.axle.channels.get i).prescalerCount = 0
           ∧ (u.axle.channels.get i).state
               = if (s.axle.channels.get i).state = .still ∧ 0 < (s.axle.channels.get i).movement then .valid
                 else (s.axle.channels.get i).state)
       ∧ u.ref = { s.ref with
           rollback := u.ref.rollback
           hold := if s.ref.source = .held then some (at' + 200000) else s.ref.hold }
       ∧ (∀ i, u.ev.timers.get i
           = if (s.ev.slips.get i).state = .excursion then some (at' + s.cfg.tun.slip.excursionTime * 1000) else none)
       ∧ (¬ wasActive → u.chain.transmit = none ∧ u.chain.silence = none ∧ u.ref.rollback = s.ref.rollback)
       ∧ (wasActive →
           u.chain.transmit = some (at' + s.cfg.tun.link.chainInterval * period)
           ∧ u.chain.silence
               = (if 1 ≤ s.cfg.str.position ∧ s.cfg.str.position ≤ 3 then
                    some (at' + 3 * s.cfg.tun.link.expectedInterval * period)
                  else none)
           ∧ (let start : State :=
                { s with
                  now := at', ctl := u.ctl
                  blend :=
                    if u.ctl.part = .fallback then
                      { s.blend with
                        shortfall := ⟨false, false⟩, lag := ⟨none, none⟩, probe := ⟨none, none⟩, hill := .off }
                    else s.blend }
              u.blend = start.runRecord false false)
           ∧ (u.ctl.part = .fallback → Handed s u .mode (modeWord s.intent.accepted .fallback))
           ∧ u.ip.fetchTimer = some (at' + period)
           ∧ u.intent.mode.timer = some (at' + s.cfg.tun.intent.modeBudget * 10 * 1000)
           ∧ (∀ r, (u.intent.channels.get r).timer
               = if (s.cfg.tun.intent.refresh.get r).continuous then none
                 else some (at' + (s.cfg.tun.intent.refresh.get r).budget * 10 * 1000)))
       ∧ (¬ wasActive → u.ceil.queue = [] ∧ u.sand.trail = false ∧ u.intent = s.intent ∧ u.blend = s.blend)
       ∧ (u.ctl.part = .fallback → (∀ m, u.intent.held.get m = 0) ∧ u.rep.flag .fallback = true)
       ∧ u = { s with
           now := u.now, ctl := u.ctl, ip := u.ip, intent := u.intent, axle := u.axle, ref := u.ref, ev := u.ev
           ceil := u.ceil, blend := u.blend, sand := u.sand, chain := u.chain, rep := u.rep, rw := u.rw })
  ∧ (∀ (d : Nat) (h : HostSlot) (s : State), s.ctl.settle = some d → s.ctl.part = .waking → s.ip.host = some h →
     h.wait = .untilServed →
     ∃ t, exec .settleTimerExpiry s = .next t
       ∧ (∀ h', t.ip.host = some h' → h'.wait ≠ .untilServed)
       ∧ (t.ctl.part = .setup ∨ t.ctl.part = .active ∨ t.ctl.part = .fallback))

/-! ### Output lines -/

/-- After every step the lines follow the state: all deasserted in RESET; else brake-hold in FALLBACK, STANDBY and
WAKING or while ROLLAWAY is latched, the attention line by flags and mask, a sand output while its sander is PULSING,
the track brakes by the allocator, and the chain output idle while no frame is sent (R136, R143, R159, R170, R171,
R183, R187). -/
def Obligations.LinesFollowTheState : Prop :=
  ∀ s t : State, step s = .next t →
    let l := t.lines
    (t.ctl.part = .reset → l = Lines.reset)
    ∧ (t.ctl.part ≠ .reset →
        (l.hold = true ↔ t.ctl.part = .fallback ∨ t.ctl.part = .standby ∨ t.ctl.part = .waking
          ∨ t.rep.flag .rollaway = true)
        ∧ (l.attention = true ↔ ∃ i : Fin 22, t.rep.flags.getLsbD i = true ∧ t.rep.mask.getLsbD i = true)
        ∧ l.track = t.blend.lines
        ∧ (∀ i, l.sand.get i = true ↔ (t.cfg.tun.sanders.get i).enabled = true ∧ t.sand.supplyGood = true
            ∧ (t.sand.sanders.get i).full = true ∧ (t.sand.sanders.get i).pulse ≠ none)
        ∧ (t.chain.sending = none → l.chainOut = false))

/-! ### What every step keeps -/

/-- Every step keeps every counter within 0..65,535 (R188). -/
def Obligations.EveryStepKeepsCountersBounded : Prop :=
  ∀ s t : State, s.countersBounded → step s = .next t → t.countersBounded

/-- Every step keeps the write-back queue free of two entries for one address, and keeps every word in it and in
flight with its check nibble right (R16, R33, R34). -/
def Obligations.EveryStepKeepsTheQueueSound : Prop :=
  ∀ s t : State, s.queueDistinct → s.queueChecked → step s = .next t → t.queueDistinct ∧ t.queueChecked

/-- Every step keeps the track-brake lines down at 50 mm/s or less of the seen reference and outside ACTIVE and
FALLBACK (R136), given that the publish writer works in PUBLISH alone and the settle timer runs in WAKING alone, which
every step keeps too. -/
def Obligations.EveryStepKeepsTheTrackRule : Prop :=
  ∀ s t : State, s.stagesAgree → s.trackRule → step s = .next t → t.stagesAgree ∧ t.trackRule

/-- Every step keeps the held effective traction of each motor bogie at most its intent, its channel maximum and its
ceiling applied to its nominal effort, and 0 outside ACTIVE and TRACTION (R10, R11). -/
def Obligations.EveryStepKeepsTractionSafe : Prop :=
  ∀ s t : State, s.tractionSafe → step s = .next t → t.tractionSafe

/-- The part right after reset satisfies what every step keeps. -/
def Obligations.ResetSatisfiesTheInvariants : Prop :=
  State.reset.countersBounded ∧ State.reset.queueDistinct ∧ State.reset.queueChecked ∧ State.reset.stagesAgree
    ∧ State.reset.trackRule
    ∧ State.reset.tractionSafe
end

