-- ==== Sys2Proof/Laws/Frames.lean ====
section
/-! SUPPORT. Frames: for each shared operation, the fields of `State` it leaves alone, one lemma a field, so that no
later proof unfolds a record update. -/

namespace Sys2Proof.Machine

/-! `raise` changes rep only. -/

@[simp] theorem raise_now (c : Cause) (s : State) : (raise c s).now = s.now := rfl
@[simp] theorem raise_pins (c : Cause) (s : State) : (raise c s).pins = s.pins := rfl
@[simp] theorem raise_lines (c : Cause) (s : State) : (raise c s).lines = s.lines := rfl
@[simp] theorem raise_ctl (c : Cause) (s : State) : (raise c s).ctl = s.ctl := rfl
@[simp] theorem raise_cfg (c : Cause) (s : State) : (raise c s).cfg = s.cfg := rfl
@[simp] theorem raise_ip (c : Cause) (s : State) : (raise c s).ip = s.ip := rfl
@[simp] theorem raise_intent (c : Cause) (s : State) : (raise c s).intent = s.intent := rfl
@[simp] theorem raise_axle (c : Cause) (s : State) : (raise c s).axle = s.axle := rfl
@[simp] theorem raise_ref (c : Cause) (s : State) : (raise c s).ref = s.ref := rfl
@[simp] theorem raise_ev (c : Cause) (s : State) : (raise c s).ev = s.ev := rfl
@[simp] theorem raise_ceil (c : Cause) (s : State) : (raise c s).ceil = s.ceil := rfl
@[simp] theorem raise_blend (c : Cause) (s : State) : (raise c s).blend = s.blend := rfl
@[simp] theorem raise_sand (c : Cause) (s : State) : (raise c s).sand = s.sand := rfl
@[simp] theorem raise_chain (c : Cause) (s : State) : (raise c s).chain = s.chain := rfl
@[simp] theorem raise_rw (c : Cause) (s : State) : (raise c s).rw = s.rw := rfl
@[simp] theorem raise_memory (c : Cause) (s : State) : (raise c s).memory = s.memory := rfl
@[simp] theorem raise_draws (c : Cause) (s : State) : (raise c s).draws = s.draws := rfl
@[simp] theorem raise_pending (c : Cause) (s : State) : (raise c s).pending = s.pending := rfl

/-! `raiseIf` changes rep only. -/

@[simp] theorem raiseIf_now (b : Bool) (c : Cause) (s : State) : (raiseIf b c s).now = s.now := rfl
@[simp] theorem raiseIf_pins (b : Bool) (c : Cause) (s : State) : (raiseIf b c s).pins = s.pins := rfl
@[simp] theorem raiseIf_lines (b : Bool) (c : Cause) (s : State) : (raiseIf b c s).lines = s.lines := rfl
@[simp] theorem raiseIf_ctl (b : Bool) (c : Cause) (s : State) : (raiseIf b c s).ctl = s.ctl := rfl
@[simp] theorem raiseIf_cfg (b : Bool) (c : Cause) (s : State) : (raiseIf b c s).cfg = s.cfg := rfl
@[simp] theorem raiseIf_ip (b : Bool) (c : Cause) (s : State) : (raiseIf b c s).ip = s.ip := rfl
@[simp] theorem raiseIf_intent (b : Bool) (c : Cause) (s : State) : (raiseIf b c s).intent = s.intent := rfl
@[simp] theorem raiseIf_axle (b : Bool) (c : Cause) (s : State) : (raiseIf b c s).axle = s.axle := rfl
@[simp] theorem raiseIf_ref (b : Bool) (c : Cause) (s : State) : (raiseIf b c s).ref = s.ref := rfl
@[simp] theorem raiseIf_ev (b : Bool) (c : Cause) (s : State) : (raiseIf b c s).ev = s.ev := rfl
@[simp] theorem raiseIf_ceil (b : Bool) (c : Cause) (s : State) : (raiseIf b c s).ceil = s.ceil := rfl
@[simp] theorem raiseIf_blend (b : Bool) (c : Cause) (s : State) : (raiseIf b c s).blend = s.blend := rfl
@[simp] theorem raiseIf_sand (b : Bool) (c : Cause) (s : State) : (raiseIf b c s).sand = s.sand := rfl
@[simp] theorem raiseIf_chain (b : Bool) (c : Cause) (s : State) : (raiseIf b c s).chain = s.chain := rfl
@[simp] theorem raiseIf_rw (b : Bool) (c : Cause) (s : State) : (raiseIf b c s).rw = s.rw := rfl
@[simp] theorem raiseIf_memory (b : Bool) (c : Cause) (s : State) : (raiseIf b c s).memory = s.memory := rfl
@[simp] theorem raiseIf_draws (b : Bool) (c : Cause) (s : State) : (raiseIf b c s).draws = s.draws := rfl
@[simp] theorem raiseIf_pending (b : Bool) (c : Cause) (s : State) : (raiseIf b c s).pending = s.pending := rfl

/-! `count` changes rep only. -/

@[simp] theorem count_now (c : Counter) (s : State) : (count c s).now = s.now := rfl
@[simp] theorem count_pins (c : Counter) (s : State) : (count c s).pins = s.pins := rfl
@[simp] theorem count_lines (c : Counter) (s : State) : (count c s).lines = s.lines := rfl
@[simp] theorem count_ctl (c : Counter) (s : State) : (count c s).ctl = s.ctl := rfl
@[simp] theorem count_cfg (c : Counter) (s : State) : (count c s).cfg = s.cfg := rfl
@[simp] theorem count_ip (c : Counter) (s : State) : (count c s).ip = s.ip := rfl
@[simp] theorem count_intent (c : Counter) (s : State) : (count c s).intent = s.intent := rfl
@[simp] theorem count_axle (c : Counter) (s : State) : (count c s).axle = s.axle := rfl
@[simp] theorem count_ref (c : Counter) (s : State) : (count c s).ref = s.ref := rfl
@[simp] theorem count_ev (c : Counter) (s : State) : (count c s).ev = s.ev := rfl
@[simp] theorem count_ceil (c : Counter) (s : State) : (count c s).ceil = s.ceil := rfl
@[simp] theorem count_blend (c : Counter) (s : State) : (count c s).blend = s.blend := rfl
@[simp] theorem count_sand (c : Counter) (s : State) : (count c s).sand = s.sand := rfl
@[simp] theorem count_chain (c : Counter) (s : State) : (count c s).chain = s.chain := rfl
@[simp] theorem count_rw (c : Counter) (s : State) : (count c s).rw = s.rw := rfl
@[simp] theorem count_memory (c : Counter) (s : State) : (count c s).memory = s.memory := rfl
@[simp] theorem count_draws (c : Counter) (s : State) : (count c s).draws = s.draws := rfl
@[simp] theorem count_pending (c : Counter) (s : State) : (count c s).pending = s.pending := rfl

/-! `countIf` changes rep only. -/

@[simp] theorem countIf_now (b : Bool) (c : Counter) (s : State) : (countIf b c s).now = s.now := rfl
@[simp] theorem countIf_pins (b : Bool) (c : Counter) (s : State) : (countIf b c s).pins = s.pins := rfl
@[simp] theorem countIf_lines (b : Bool) (c : Counter) (s : State) : (countIf b c s).lines = s.lines := rfl
@[simp] theorem countIf_ctl (b : Bool) (c : Counter) (s : State) : (countIf b c s).ctl = s.ctl := rfl
@[simp] theorem countIf_cfg (b : Bool) (c : Counter) (s : State) : (countIf b c s).cfg = s.cfg := rfl
@[simp] theorem countIf_ip (b : Bool) (c : Counter) (s : State) : (countIf b c s).ip = s.ip := rfl
@[simp] theorem countIf_intent (b : Bool) (c : Counter) (s : State) : (countIf b c s).intent = s.intent := rfl
@[simp] theorem countIf_axle (b : Bool) (c : Counter) (s : State) : (countIf b c s).axle = s.axle := rfl
@[simp] theorem countIf_ref (b : Bool) (c : Counter) (s : State) : (countIf b c s).ref = s.ref := rfl
@[simp] theorem countIf_ev (b : Bool) (c : Counter) (s : State) : (countIf b c s).ev = s.ev := rfl
@[simp] theorem countIf_ceil (b : Bool) (c : Counter) (s : State) : (countIf b c s).ceil = s.ceil := rfl
@[simp] theorem countIf_blend (b : Bool) (c : Counter) (s : State) : (countIf b c s).blend = s.blend := rfl
@[simp] theorem countIf_sand (b : Bool) (c : Counter) (s : State) : (countIf b c s).sand = s.sand := rfl
@[simp] theorem countIf_chain (b : Bool) (c : Counter) (s : State) : (countIf b c s).chain = s.chain := rfl
@[simp] theorem countIf_rw (b : Bool) (c : Counter) (s : State) : (countIf b c s).rw = s.rw := rfl
@[simp] theorem countIf_memory (b : Bool) (c : Counter) (s : State) : (countIf b c s).memory = s.memory := rfl
@[simp] theorem countIf_draws (b : Bool) (c : Counter) (s : State) : (countIf b c s).draws = s.draws := rfl
@[simp] theorem countIf_pending (b : Bool) (c : Counter) (s : State) : (countIf b c s).pending = s.pending := rfl

/-! `hand` changes intent, ip only. -/

@[simp] theorem hand_now (r : Role) (w : Word) (s : State) : (hand r w s).now = s.now := rfl
@[simp] theorem hand_pins (r : Role) (w : Word) (s : State) : (hand r w s).pins = s.pins := rfl
@[simp] theorem hand_lines (r : Role) (w : Word) (s : State) : (hand r w s).lines = s.lines := rfl
@[simp] theorem hand_ctl (r : Role) (w : Word) (s : State) : (hand r w s).ctl = s.ctl := rfl
@[simp] theorem hand_cfg (r : Role) (w : Word) (s : State) : (hand r w s).cfg = s.cfg := rfl
@[simp] theorem hand_axle (r : Role) (w : Word) (s : State) : (hand r w s).axle = s.axle := rfl
@[simp] theorem hand_ref (r : Role) (w : Word) (s : State) : (hand r w s).ref = s.ref := rfl
@[simp] theorem hand_ev (r : Role) (w : Word) (s : State) : (hand r w s).ev = s.ev := rfl
@[simp] theorem hand_ceil (r : Role) (w : Word) (s : State) : (hand r w s).ceil = s.ceil := rfl
@[simp] theorem hand_blend (r : Role) (w : Word) (s : State) : (hand r w s).blend = s.blend := rfl
@[simp] theorem hand_sand (r : Role) (w : Word) (s : State) : (hand r w s).sand = s.sand := rfl
@[simp] theorem hand_chain (r : Role) (w : Word) (s : State) : (hand r w s).chain = s.chain := rfl
@[simp] theorem hand_rep (r : Role) (w : Word) (s : State) : (hand r w s).rep = s.rep := rfl
@[simp] theorem hand_rw (r : Role) (w : Word) (s : State) : (hand r w s).rw = s.rw := rfl
@[simp] theorem hand_memory (r : Role) (w : Word) (s : State) : (hand r w s).memory = s.memory := rfl
@[simp] theorem hand_draws (r : Role) (w : Word) (s : State) : (hand r w s).draws = s.draws := rfl
@[simp] theorem hand_pending (r : Role) (w : Word) (s : State) : (hand r w s).pending = s.pending := rfl

/-! `handTraction` changes intent, ip only. -/

@[simp] theorem handTraction_now (m : Motor) (s : State) : (handTraction m s).now = s.now := by simp [handTraction]
@[simp] theorem handTraction_pins (m : Motor) (s : State) : (handTraction m s).pins = s.pins := by simp [handTraction]
@[simp] theorem handTraction_lines (m : Motor) (s : State) : (handTraction m s).lines = s.lines := by simp [handTraction]
@[simp] theorem handTraction_ctl (m : Motor) (s : State) : (handTraction m s).ctl = s.ctl := by simp [handTraction]
@[simp] theorem handTraction_cfg (m : Motor) (s : State) : (handTraction m s).cfg = s.cfg := by simp [handTraction]
@[simp] theorem handTraction_axle (m : Motor) (s : State) : (handTraction m s).axle = s.axle := by simp [handTraction]
@[simp] theorem handTraction_ref (m : Motor) (s : State) : (handTraction m s).ref = s.ref := by simp [handTraction]
@[simp] theorem handTraction_ev (m : Motor) (s : State) : (handTraction m s).ev = s.ev := by simp [handTraction]
@[simp] theorem handTraction_ceil (m : Motor) (s : State) : (handTraction m s).ceil = s.ceil := by simp [handTraction]
@[simp] theorem handTraction_blend (m : Motor) (s : State) : (handTraction m s).blend = s.blend := by simp [handTraction]
@[simp] theorem handTraction_sand (m : Motor) (s : State) : (handTraction m s).sand = s.sand := by simp [handTraction]
@[simp] theorem handTraction_chain (m : Motor) (s : State) : (handTraction m s).chain = s.chain := by simp [handTraction]
@[simp] theorem handTraction_rep (m : Motor) (s : State) : (handTraction m s).rep = s.rep := by simp [handTraction]
@[simp] theorem handTraction_rw (m : Motor) (s : State) : (handTraction m s).rw = s.rw := by simp [handTraction]
@[simp] theorem handTraction_memory (m : Motor) (s : State) : (handTraction m s).memory = s.memory := by simp [handTraction]
@[simp] theorem handTraction_draws (m : Motor) (s : State) : (handTraction m s).draws = s.draws := by simp [handTraction]
@[simp] theorem handTraction_pending (m : Motor) (s : State) : (handTraction m s).pending = s.pending := by simp [handTraction]

/-! `claim` changes intent, ip only. -/

@[simp] theorem claim_now (b : Bool) (m : Motor) (s : State) : (claim b m s).now = s.now := by simp [claim]
@[simp] theorem claim_pins (b : Bool) (m : Motor) (s : State) : (claim b m s).pins = s.pins := by simp [claim]
@[simp] theorem claim_lines (b : Bool) (m : Motor) (s : State) : (claim b m s).lines = s.lines := by simp [claim]
@[simp] theorem claim_ctl (b : Bool) (m : Motor) (s : State) : (claim b m s).ctl = s.ctl := by simp [claim]
@[simp] theorem claim_cfg (b : Bool) (m : Motor) (s : State) : (claim b m s).cfg = s.cfg := by simp [claim]
@[simp] theorem claim_axle (b : Bool) (m : Motor) (s : State) : (claim b m s).axle = s.axle := by simp [claim]
@[simp] theorem claim_ref (b : Bool) (m : Motor) (s : State) : (claim b m s).ref = s.ref := by simp [claim]
@[simp] theorem claim_ev (b : Bool) (m : Motor) (s : State) : (claim b m s).ev = s.ev := by simp [claim]
@[simp] theorem claim_ceil (b : Bool) (m : Motor) (s : State) : (claim b m s).ceil = s.ceil := by simp [claim]
@[simp] theorem claim_blend (b : Bool) (m : Motor) (s : State) : (claim b m s).blend = s.blend := by simp [claim]
@[simp] theorem claim_sand (b : Bool) (m : Motor) (s : State) : (claim b m s).sand = s.sand := by simp [claim]
@[simp] theorem claim_chain (b : Bool) (m : Motor) (s : State) : (claim b m s).chain = s.chain := by simp [claim]
@[simp] theorem claim_rep (b : Bool) (m : Motor) (s : State) : (claim b m s).rep = s.rep := by simp [claim]
@[simp] theorem claim_rw (b : Bool) (m : Motor) (s : State) : (claim b m s).rw = s.rw := by simp [claim]
@[simp] theorem claim_memory (b : Bool) (m : Motor) (s : State) : (claim b m s).memory = s.memory := by simp [claim]
@[simp] theorem claim_draws (b : Bool) (m : Motor) (s : State) : (claim b m s).draws = s.draws := by simp [claim]
@[simp] theorem claim_pending (b : Bool) (m : Motor) (s : State) : (claim b m s).pending = s.pending := by simp [claim]

/-! `claimBoth` changes intent, ip only. -/

@[simp] theorem claimBoth_now (b : Bool) (s : State) : (claimBoth b s).now = s.now := by simp [claimBoth]
@[simp] theorem claimBoth_pins (b : Bool) (s : State) : (claimBoth b s).pins = s.pins := by simp [claimBoth]
@[simp] theorem claimBoth_lines (b : Bool) (s : State) : (claimBoth b s).lines = s.lines := by simp [claimBoth]
@[simp] theorem claimBoth_ctl (b : Bool) (s : State) : (claimBoth b s).ctl = s.ctl := by simp [claimBoth]
@[simp] theorem claimBoth_cfg (b : Bool) (s : State) : (claimBoth b s).cfg = s.cfg := by simp [claimBoth]
@[simp] theorem claimBoth_axle (b : Bool) (s : State) : (claimBoth b s).axle = s.axle := by simp [claimBoth]
@[simp] theorem claimBoth_ref (b : Bool) (s : State) : (claimBoth b s).ref = s.ref := by simp [claimBoth]
@[simp] theorem claimBoth_ev (b : Bool) (s : State) : (claimBoth b s).ev = s.ev := by simp [claimBoth]
@[simp] theorem claimBoth_ceil (b : Bool) (s : State) : (claimBoth b s).ceil = s.ceil := by simp [claimBoth]
@[simp] theorem claimBoth_blend (b : Bool) (s : State) : (claimBoth b s).blend = s.blend := by simp [claimBoth]
@[simp] theorem claimBoth_sand (b : Bool) (s : State) : (claimBoth b s).sand = s.sand := by simp [claimBoth]
@[simp] theorem claimBoth_chain (b : Bool) (s : State) : (claimBoth b s).chain = s.chain := by simp [claimBoth]
@[simp] theorem claimBoth_rep (b : Bool) (s : State) : (claimBoth b s).rep = s.rep := by simp [claimBoth]
@[simp] theorem claimBoth_rw (b : Bool) (s : State) : (claimBoth b s).rw = s.rw := by simp [claimBoth]
@[simp] theorem claimBoth_memory (b : Bool) (s : State) : (claimBoth b s).memory = s.memory := by simp [claimBoth]
@[simp] theorem claimBoth_draws (b : Bool) (s : State) : (claimBoth b s).draws = s.draws := by simp [claimBoth]
@[simp] theorem claimBoth_pending (b : Bool) (s : State) : (claimBoth b s).pending = s.pending := by simp [claimBoth]

/-! `handBrake` changes intent, ip only. -/

@[simp] theorem handBrake_now (n : Nat) (s : State) : (handBrake n s).now = s.now := by simp [handBrake]
@[simp] theorem handBrake_pins (n : Nat) (s : State) : (handBrake n s).pins = s.pins := by simp [handBrake]
@[simp] theorem handBrake_lines (n : Nat) (s : State) : (handBrake n s).lines = s.lines := by simp [handBrake]
@[simp] theorem handBrake_ctl (n : Nat) (s : State) : (handBrake n s).ctl = s.ctl := by simp [handBrake]
@[simp] theorem handBrake_cfg (n : Nat) (s : State) : (handBrake n s).cfg = s.cfg := by simp [handBrake]
@[simp] theorem handBrake_axle (n : Nat) (s : State) : (handBrake n s).axle = s.axle := by simp [handBrake]
@[simp] theorem handBrake_ref (n : Nat) (s : State) : (handBrake n s).ref = s.ref := by simp [handBrake]
@[simp] theorem handBrake_ev (n : Nat) (s : State) : (handBrake n s).ev = s.ev := by simp [handBrake]
@[simp] theorem handBrake_ceil (n : Nat) (s : State) : (handBrake n s).ceil = s.ceil := by simp [handBrake]
@[simp] theorem handBrake_blend (n : Nat) (s : State) : (handBrake n s).blend = s.blend := by simp [handBrake]
@[simp] theorem handBrake_sand (n : Nat) (s : State) : (handBrake n s).sand = s.sand := by simp [handBrake]
@[simp] theorem handBrake_chain (n : Nat) (s : State) : (handBrake n s).chain = s.chain := by simp [handBrake]
@[simp] theorem handBrake_rep (n : Nat) (s : State) : (handBrake n s).rep = s.rep := by simp [handBrake]
@[simp] theorem handBrake_rw (n : Nat) (s : State) : (handBrake n s).rw = s.rw := by simp [handBrake]
@[simp] theorem handBrake_memory (n : Nat) (s : State) : (handBrake n s).memory = s.memory := by simp [handBrake]
@[simp] theorem handBrake_draws (n : Nat) (s : State) : (handBrake n s).draws = s.draws := by simp [handBrake]
@[simp] theorem handBrake_pending (n : Nat) (s : State) : (handBrake n s).pending = s.pending := by simp [handBrake]

/-! `handMode` changes intent, ip only. -/

@[simp] theorem handMode_now (s : State) : (handMode s).now = s.now := by simp [handMode]
@[simp] theorem handMode_pins (s : State) : (handMode s).pins = s.pins := by simp [handMode]
@[simp] theorem handMode_lines (s : State) : (handMode s).lines = s.lines := by simp [handMode]
@[simp] theorem handMode_ctl (s : State) : (handMode s).ctl = s.ctl := by simp [handMode]
@[simp] theorem handMode_cfg (s : State) : (handMode s).cfg = s.cfg := by simp [handMode]
@[simp] theorem handMode_axle (s : State) : (handMode s).axle = s.axle := by simp [handMode]
@[simp] theorem handMode_ref (s : State) : (handMode s).ref = s.ref := by simp [handMode]
@[simp] theorem handMode_ev (s : State) : (handMode s).ev = s.ev := by simp [handMode]
@[simp] theorem handMode_ceil (s : State) : (handMode s).ceil = s.ceil := by simp [handMode]
@[simp] theorem handMode_blend (s : State) : (handMode s).blend = s.blend := by simp [handMode]
@[simp] theorem handMode_sand (s : State) : (handMode s).sand = s.sand := by simp [handMode]
@[simp] theorem handMode_chain (s : State) : (handMode s).chain = s.chain := by simp [handMode]
@[simp] theorem handMode_rep (s : State) : (handMode s).rep = s.rep := by simp [handMode]
@[simp] theorem handMode_rw (s : State) : (handMode s).rw = s.rw := by simp [handMode]
@[simp] theorem handMode_memory (s : State) : (handMode s).memory = s.memory := by simp [handMode]
@[simp] theorem handMode_draws (s : State) : (handMode s).draws = s.draws := by simp [handMode]
@[simp] theorem handMode_pending (s : State) : (handMode s).pending = s.pending := by simp [handMode]

/-! `takeEffort` changes intent, rep only. -/

@[simp] theorem takeEffort_now (r : EffortRole) (w : Word) (s : State) : (takeEffort r w s).now = s.now := by simp [takeEffort]
@[simp] theorem takeEffort_pins (r : EffortRole) (w : Word) (s : State) : (takeEffort r w s).pins = s.pins := by simp [takeEffort]
@[simp] theorem takeEffort_lines (r : EffortRole) (w : Word) (s : State) : (takeEffort r w s).lines = s.lines := by simp [takeEffort]
@[simp] theorem takeEffort_ctl (r : EffortRole) (w : Word) (s : State) : (takeEffort r w s).ctl = s.ctl := by simp [takeEffort]
@[simp] theorem takeEffort_cfg (r : EffortRole) (w : Word) (s : State) : (takeEffort r w s).cfg = s.cfg := by simp [takeEffort]
@[simp] theorem takeEffort_ip (r : EffortRole) (w : Word) (s : State) : (takeEffort r w s).ip = s.ip := by simp [takeEffort]
@[simp] theorem takeEffort_axle (r : EffortRole) (w : Word) (s : State) : (takeEffort r w s).axle = s.axle := by simp [takeEffort]
@[simp] theorem takeEffort_ref (r : EffortRole) (w : Word) (s : State) : (takeEffort r w s).ref = s.ref := by simp [takeEffort]
@[simp] theorem takeEffort_ev (r : EffortRole) (w : Word) (s : State) : (takeEffort r w s).ev = s.ev := by simp [takeEffort]
@[simp] theorem takeEffort_ceil (r : EffortRole) (w : Word) (s : State) : (takeEffort r w s).ceil = s.ceil := by simp [takeEffort]
@[simp] theorem takeEffort_blend (r : EffortRole) (w : Word) (s : State) : (takeEffort r w s).blend = s.blend := by simp [takeEffort]
@[simp] theorem takeEffort_sand (r : EffortRole) (w : Word) (s : State) : (takeEffort r w s).sand = s.sand := by simp [takeEffort]
@[simp] theorem takeEffort_chain (r : EffortRole) (w : Word) (s : State) : (takeEffort r w s).chain = s.chain := by simp [takeEffort]
@[simp] theorem takeEffort_rw (r : EffortRole) (w : Word) (s : State) : (takeEffort r w s).rw = s.rw := by simp [takeEffort]
@[simp] theorem takeEffort_memory (r : EffortRole) (w : Word) (s : State) : (takeEffort r w s).memory = s.memory := by simp [takeEffort]
@[simp] theorem takeEffort_draws (r : EffortRole) (w : Word) (s : State) : (takeEffort r w s).draws = s.draws := by simp [takeEffort]
@[simp] theorem takeEffort_pending (r : EffortRole) (w : Word) (s : State) : (takeEffort r w s).pending = s.pending := by simp [takeEffort]

/-! `takeMode` changes intent, rep only. -/

@[simp] theorem takeMode_now (m : ModeRecord) (b d : Bool) (s : State) : (takeMode m b d s).now = s.now := by simp [takeMode]
@[simp] theorem takeMode_pins (m : ModeRecord) (b d : Bool) (s : State) : (takeMode m b d s).pins = s.pins := by simp [takeMode]
@[simp] theorem takeMode_lines (m : ModeRecord) (b d : Bool) (s : State) : (takeMode m b d s).lines = s.lines := by simp [takeMode]
@[simp] theorem takeMode_ctl (m : ModeRecord) (b d : Bool) (s : State) : (takeMode m b d s).ctl = s.ctl := by simp [takeMode]
@[simp] theorem takeMode_cfg (m : ModeRecord) (b d : Bool) (s : State) : (takeMode m b d s).cfg = s.cfg := by simp [takeMode]
@[simp] theorem takeMode_ip (m : ModeRecord) (b d : Bool) (s : State) : (takeMode m b d s).ip = s.ip := by simp [takeMode]
@[simp] theorem takeMode_axle (m : ModeRecord) (b d : Bool) (s : State) : (takeMode m b d s).axle = s.axle := by simp [takeMode]
@[simp] theorem takeMode_ref (m : ModeRecord) (b d : Bool) (s : State) : (takeMode m b d s).ref = s.ref := by simp [takeMode]
@[simp] theorem takeMode_ev (m : ModeRecord) (b d : Bool) (s : State) : (takeMode m b d s).ev = s.ev := by simp [takeMode]
@[simp] theorem takeMode_ceil (m : ModeRecord) (b d : Bool) (s : State) : (takeMode m b d s).ceil = s.ceil := by simp [takeMode]
@[simp] theorem takeMode_blend (m : ModeRecord) (b d : Bool) (s : State) : (takeMode m b d s).blend = s.blend := by simp [takeMode]
@[simp] theorem takeMode_sand (m : ModeRecord) (b d : Bool) (s : State) : (takeMode m b d s).sand = s.sand := by simp [takeMode]
@[simp] theorem takeMode_chain (m : ModeRecord) (b d : Bool) (s : State) : (takeMode m b d s).chain = s.chain := by simp [takeMode]
@[simp] theorem takeMode_rw (m : ModeRecord) (b d : Bool) (s : State) : (takeMode m b d s).rw = s.rw := by simp [takeMode]
@[simp] theorem takeMode_memory (m : ModeRecord) (b d : Bool) (s : State) : (takeMode m b d s).memory = s.memory := by simp [takeMode]
@[simp] theorem takeMode_draws (m : ModeRecord) (b d : Bool) (s : State) : (takeMode m b d s).draws = s.draws := by simp [takeMode]
@[simp] theorem takeMode_pending (m : ModeRecord) (b d : Bool) (s : State) : (takeMode m b d s).pending = s.pending := by simp [takeMode]

/-! `staleEffort` changes intent, rep only. -/

@[simp] theorem staleEffort_now (r : EffortRole) (s : State) : (staleEffort r s).now = s.now := by simp [staleEffort]
@[simp] theorem staleEffort_pins (r : EffortRole) (s : State) : (staleEffort r s).pins = s.pins := by simp [staleEffort]
@[simp] theorem staleEffort_lines (r : EffortRole) (s : State) : (staleEffort r s).lines = s.lines := by simp [staleEffort]
@[simp] theorem staleEffort_ctl (r : EffortRole) (s : State) : (staleEffort r s).ctl = s.ctl := by simp [staleEffort]
@[simp] theorem staleEffort_cfg (r : EffortRole) (s : State) : (staleEffort r s).cfg = s.cfg := by simp [staleEffort]
@[simp] theorem staleEffort_ip (r : EffortRole) (s : State) : (staleEffort r s).ip = s.ip := by simp [staleEffort]
@[simp] theorem staleEffort_axle (r : EffortRole) (s : State) : (staleEffort r s).axle = s.axle := by simp [staleEffort]
@[simp] theorem staleEffort_ref (r : EffortRole) (s : State) : (staleEffort r s).ref = s.ref := by simp [staleEffort]
@[simp] theorem staleEffort_ev (r : EffortRole) (s : State) : (staleEffort r s).ev = s.ev := by simp [staleEffort]
@[simp] theorem staleEffort_ceil (r : EffortRole) (s : State) : (staleEffort r s).ceil = s.ceil := by simp [staleEffort]
@[simp] theorem staleEffort_blend (r : EffortRole) (s : State) : (staleEffort r s).blend = s.blend := by simp [staleEffort]
@[simp] theorem staleEffort_sand (r : EffortRole) (s : State) : (staleEffort r s).sand = s.sand := by simp [staleEffort]
@[simp] theorem staleEffort_chain (r : EffortRole) (s : State) : (staleEffort r s).chain = s.chain := by simp [staleEffort]
@[simp] theorem staleEffort_rw (r : EffortRole) (s : State) : (staleEffort r s).rw = s.rw := by simp [staleEffort]
@[simp] theorem staleEffort_memory (r : EffortRole) (s : State) : (staleEffort r s).memory = s.memory := by simp [staleEffort]
@[simp] theorem staleEffort_draws (r : EffortRole) (s : State) : (staleEffort r s).draws = s.draws := by simp [staleEffort]
@[simp] theorem staleEffort_pending (r : EffortRole) (s : State) : (staleEffort r s).pending = s.pending := by simp [staleEffort]

/-! `staleMode` changes intent, rep, ip only. -/

@[simp] theorem staleMode_now (s : State) : (staleMode s).now = s.now := by simp [staleMode]
@[simp] theorem staleMode_pins (s : State) : (staleMode s).pins = s.pins := by simp [staleMode]
@[simp] theorem staleMode_lines (s : State) : (staleMode s).lines = s.lines := by simp [staleMode]
@[simp] theorem staleMode_ctl (s : State) : (staleMode s).ctl = s.ctl := by simp [staleMode]
@[simp] theorem staleMode_cfg (s : State) : (staleMode s).cfg = s.cfg := by simp [staleMode]
@[simp] theorem staleMode_axle (s : State) : (staleMode s).axle = s.axle := by simp [staleMode]
@[simp] theorem staleMode_ref (s : State) : (staleMode s).ref = s.ref := by simp [staleMode]
@[simp] theorem staleMode_ev (s : State) : (staleMode s).ev = s.ev := by simp [staleMode]
@[simp] theorem staleMode_ceil (s : State) : (staleMode s).ceil = s.ceil := by simp [staleMode]
@[simp] theorem staleMode_blend (s : State) : (staleMode s).blend = s.blend := by simp [staleMode]
@[simp] theorem staleMode_sand (s : State) : (staleMode s).sand = s.sand := by simp [staleMode]
@[simp] theorem staleMode_chain (s : State) : (staleMode s).chain = s.chain := by simp [staleMode]
@[simp] theorem staleMode_rw (s : State) : (staleMode s).rw = s.rw := by simp [staleMode]
@[simp] theorem staleMode_memory (s : State) : (staleMode s).memory = s.memory := by simp [staleMode]
@[simp] theorem staleMode_draws (s : State) : (staleMode s).draws = s.draws := by simp [staleMode]
@[simp] theorem staleMode_pending (s : State) : (staleMode s).pending = s.pending := by simp [staleMode]

/-! `startRefresh` changes intent only. -/

@[simp] theorem startRefresh_now (s : State) : (startRefresh s).now = s.now := rfl
@[simp] theorem startRefresh_pins (s : State) : (startRefresh s).pins = s.pins := rfl
@[simp] theorem startRefresh_lines (s : State) : (startRefresh s).lines = s.lines := rfl
@[simp] theorem startRefresh_ctl (s : State) : (startRefresh s).ctl = s.ctl := rfl
@[simp] theorem startRefresh_cfg (s : State) : (startRefresh s).cfg = s.cfg := rfl
@[simp] theorem startRefresh_ip (s : State) : (startRefresh s).ip = s.ip := rfl
@[simp] theorem startRefresh_axle (s : State) : (startRefresh s).axle = s.axle := rfl
@[simp] theorem startRefresh_ref (s : State) : (startRefresh s).ref = s.ref := rfl
@[simp] theorem startRefresh_ev (s : State) : (startRefresh s).ev = s.ev := rfl
@[simp] theorem startRefresh_ceil (s : State) : (startRefresh s).ceil = s.ceil := rfl
@[simp] theorem startRefresh_blend (s : State) : (startRefresh s).blend = s.blend := rfl
@[simp] theorem startRefresh_sand (s : State) : (startRefresh s).sand = s.sand := rfl
@[simp] theorem startRefresh_chain (s : State) : (startRefresh s).chain = s.chain := rfl
@[simp] theorem startRefresh_rep (s : State) : (startRefresh s).rep = s.rep := rfl
@[simp] theorem startRefresh_rw (s : State) : (startRefresh s).rw = s.rw := rfl
@[simp] theorem startRefresh_memory (s : State) : (startRefresh s).memory = s.memory := rfl
@[simp] theorem startRefresh_draws (s : State) : (startRefresh s).draws = s.draws := rfl
@[simp] theorem startRefresh_pending (s : State) : (startRefresh s).pending = s.pending := rfl

/-! `cancelRefresh` changes intent only. -/

@[simp] theorem cancelRefresh_now (s : State) : (cancelRefresh s).now = s.now := rfl
@[simp] theorem cancelRefresh_pins (s : State) : (cancelRefresh s).pins = s.pins := rfl
@[simp] theorem cancelRefresh_lines (s : State) : (cancelRefresh s).lines = s.lines := rfl
@[simp] theorem cancelRefresh_ctl (s : State) : (cancelRefresh s).ctl = s.ctl := rfl
@[simp] theorem cancelRefresh_cfg (s : State) : (cancelRefresh s).cfg = s.cfg := rfl
@[simp] theorem cancelRefresh_ip (s : State) : (cancelRefresh s).ip = s.ip := rfl
@[simp] theorem cancelRefresh_axle (s : State) : (cancelRefresh s).axle = s.axle := rfl
@[simp] theorem cancelRefresh_ref (s : State) : (cancelRefresh s).ref = s.ref := rfl
@[simp] theorem cancelRefresh_ev (s : State) : (cancelRefresh s).ev = s.ev := rfl
@[simp] theorem cancelRefresh_ceil (s : State) : (cancelRefresh s).ceil = s.ceil := rfl
@[simp] theorem cancelRefresh_blend (s : State) : (cancelRefresh s).blend = s.blend := rfl
@[simp] theorem cancelRefresh_sand (s : State) : (cancelRefresh s).sand = s.sand := rfl
@[simp] theorem cancelRefresh_chain (s : State) : (cancelRefresh s).chain = s.chain := rfl
@[simp] theorem cancelRefresh_rep (s : State) : (cancelRefresh s).rep = s.rep := rfl
@[simp] theorem cancelRefresh_rw (s : State) : (cancelRefresh s).rw = s.rw := rfl
@[simp] theorem cancelRefresh_memory (s : State) : (cancelRefresh s).memory = s.memory := rfl
@[simp] theorem cancelRefresh_draws (s : State) : (cancelRefresh s).draws = s.draws := rfl
@[simp] theorem cancelRefresh_pending (s : State) : (cancelRefresh s).pending = s.pending := rfl

/-! `clipStored` changes intent, rep only. -/

@[simp] theorem clipStored_now (r : EffortRole) (s : State) : (clipStored r s).now = s.now := by simp [clipStored]
@[simp] theorem clipStored_pins (r : EffortRole) (s : State) : (clipStored r s).pins = s.pins := by simp [clipStored]
@[simp] theorem clipStored_lines (r : EffortRole) (s : State) : (clipStored r s).lines = s.lines := by simp [clipStored]
@[simp] theorem clipStored_ctl (r : EffortRole) (s : State) : (clipStored r s).ctl = s.ctl := by simp [clipStored]
@[simp] theorem clipStored_cfg (r : EffortRole) (s : State) : (clipStored r s).cfg = s.cfg := by simp [clipStored]
@[simp] theorem clipStored_ip (r : EffortRole) (s : State) : (clipStored r s).ip = s.ip := by simp [clipStored]
@[simp] theorem clipStored_axle (r : EffortRole) (s : State) : (clipStored r s).axle = s.axle := by simp [clipStored]
@[simp] theorem clipStored_ref (r : EffortRole) (s : State) : (clipStored r s).ref = s.ref := by simp [clipStored]
@[simp] theorem clipStored_ev (r : EffortRole) (s : State) : (clipStored r s).ev = s.ev := by simp [clipStored]
@[simp] theorem clipStored_ceil (r : EffortRole) (s : State) : (clipStored r s).ceil = s.ceil := by simp [clipStored]
@[simp] theorem clipStored_blend (r : EffortRole) (s : State) : (clipStored r s).blend = s.blend := by simp [clipStored]
@[simp] theorem clipStored_sand (r : EffortRole) (s : State) : (clipStored r s).sand = s.sand := by simp [clipStored]
@[simp] theorem clipStored_chain (r : EffortRole) (s : State) : (clipStored r s).chain = s.chain := by simp [clipStored]
@[simp] theorem clipStored_rw (r : EffortRole) (s : State) : (clipStored r s).rw = s.rw := by simp [clipStored]
@[simp] theorem clipStored_memory (r : EffortRole) (s : State) : (clipStored r s).memory = s.memory := by simp [clipStored]
@[simp] theorem clipStored_draws (r : EffortRole) (s : State) : (clipStored r s).draws = s.draws := by simp [clipStored]
@[simp] theorem clipStored_pending (r : EffortRole) (s : State) : (clipStored r s).pending = s.pending := by simp [clipStored]

/-! `changeRefresh` changes intent only. -/

@[simp] theorem changeRefresh_now (r : EffortRole) (o : Refresh) (s : State) : (changeRefresh r o s).now = s.now := rfl
@[simp] theorem changeRefresh_pins (r : EffortRole) (o : Refresh) (s : State) : (changeRefresh r o s).pins = s.pins := rfl
@[simp] theorem changeRefresh_lines (r : EffortRole) (o : Refresh) (s : State) : (changeRefresh r o s).lines = s.lines := rfl
@[simp] theorem changeRefresh_ctl (r : EffortRole) (o : Refresh) (s : State) : (changeRefresh r o s).ctl = s.ctl := rfl
@[simp] theorem changeRefresh_cfg (r : EffortRole) (o : Refresh) (s : State) : (changeRefresh r o s).cfg = s.cfg := rfl
@[simp] theorem changeRefresh_ip (r : EffortRole) (o : Refresh) (s : State) : (changeRefresh r o s).ip = s.ip := rfl
@[simp] theorem changeRefresh_axle (r : EffortRole) (o : Refresh) (s : State) : (changeRefresh r o s).axle = s.axle := rfl
@[simp] theorem changeRefresh_ref (r : EffortRole) (o : Refresh) (s : State) : (changeRefresh r o s).ref = s.ref := rfl
@[simp] theorem changeRefresh_ev (r : EffortRole) (o : Refresh) (s : State) : (changeRefresh r o s).ev = s.ev := rfl
@[simp] theorem changeRefresh_ceil (r : EffortRole) (o : Refresh) (s : State) : (changeRefresh r o s).ceil = s.ceil := rfl
@[simp] theorem changeRefresh_blend (r : EffortRole) (o : Refresh) (s : State) : (changeRefresh r o s).blend = s.blend := rfl
@[simp] theorem changeRefresh_sand (r : EffortRole) (o : Refresh) (s : State) : (changeRefresh r o s).sand = s.sand := rfl
@[simp] theorem changeRefresh_chain (r : EffortRole) (o : Refresh) (s : State) : (changeRefresh r o s).chain = s.chain := rfl
@[simp] theorem changeRefresh_rep (r : EffortRole) (o : Refresh) (s : State) : (changeRefresh r o s).rep = s.rep := rfl
@[simp] theorem changeRefresh_rw (r : EffortRole) (o : Refresh) (s : State) : (changeRefresh r o s).rw = s.rw := rfl
@[simp] theorem changeRefresh_memory (r : EffortRole) (o : Refresh) (s : State) : (changeRefresh r o s).memory = s.memory := rfl
@[simp] theorem changeRefresh_draws (r : EffortRole) (o : Refresh) (s : State) : (changeRefresh r o s).draws = s.draws := rfl
@[simp] theorem changeRefresh_pending (r : EffortRole) (o : Refresh) (s : State) : (changeRefresh r o s).pending = s.pending := rfl

/-! `prepareRecords` changes intent only. -/

@[simp] theorem prepareRecords_now (s : State) : (prepareRecords s).now = s.now := rfl
@[simp] theorem prepareRecords_pins (s : State) : (prepareRecords s).pins = s.pins := rfl
@[simp] theorem prepareRecords_lines (s : State) : (prepareRecords s).lines = s.lines := rfl
@[simp] theorem prepareRecords_ctl (s : State) : (prepareRecords s).ctl = s.ctl := rfl
@[simp] theorem prepareRecords_cfg (s : State) : (prepareRecords s).cfg = s.cfg := rfl
@[simp] theorem prepareRecords_ip (s : State) : (prepareRecords s).ip = s.ip := rfl
@[simp] theorem prepareRecords_axle (s : State) : (prepareRecords s).axle = s.axle := rfl
@[simp] theorem prepareRecords_ref (s : State) : (prepareRecords s).ref = s.ref := rfl
@[simp] theorem prepareRecords_ev (s : State) : (prepareRecords s).ev = s.ev := rfl
@[simp] theorem prepareRecords_ceil (s : State) : (prepareRecords s).ceil = s.ceil := rfl
@[simp] theorem prepareRecords_blend (s : State) : (prepareRecords s).blend = s.blend := rfl
@[simp] theorem prepareRecords_sand (s : State) : (prepareRecords s).sand = s.sand := rfl
@[simp] theorem prepareRecords_chain (s : State) : (prepareRecords s).chain = s.chain := rfl
@[simp] theorem prepareRecords_rep (s : State) : (prepareRecords s).rep = s.rep := rfl
@[simp] theorem prepareRecords_rw (s : State) : (prepareRecords s).rw = s.rw := rfl
@[simp] theorem prepareRecords_memory (s : State) : (prepareRecords s).memory = s.memory := rfl
@[simp] theorem prepareRecords_draws (s : State) : (prepareRecords s).draws = s.draws := rfl
@[simp] theorem prepareRecords_pending (s : State) : (prepareRecords s).pending = s.pending := rfl

/-! `sweepOutput` changes intent, ip only. -/

@[simp] theorem sweepOutput_now (x : Source) (s : State) : (sweepOutput x s).now = s.now := by simp [sweepOutput]
@[simp] theorem sweepOutput_pins (x : Source) (s : State) : (sweepOutput x s).pins = s.pins := by simp [sweepOutput]
@[simp] theorem sweepOutput_lines (x : Source) (s : State) : (sweepOutput x s).lines = s.lines := by simp [sweepOutput]
@[simp] theorem sweepOutput_ctl (x : Source) (s : State) : (sweepOutput x s).ctl = s.ctl := by simp [sweepOutput]
@[simp] theorem sweepOutput_cfg (x : Source) (s : State) : (sweepOutput x s).cfg = s.cfg := by simp [sweepOutput]
@[simp] theorem sweepOutput_axle (x : Source) (s : State) : (sweepOutput x s).axle = s.axle := by simp [sweepOutput]
@[simp] theorem sweepOutput_ref (x : Source) (s : State) : (sweepOutput x s).ref = s.ref := by simp [sweepOutput]
@[simp] theorem sweepOutput_ev (x : Source) (s : State) : (sweepOutput x s).ev = s.ev := by simp [sweepOutput]
@[simp] theorem sweepOutput_ceil (x : Source) (s : State) : (sweepOutput x s).ceil = s.ceil := by simp [sweepOutput]
@[simp] theorem sweepOutput_blend (x : Source) (s : State) : (sweepOutput x s).blend = s.blend := by simp [sweepOutput]
@[simp] theorem sweepOutput_sand (x : Source) (s : State) : (sweepOutput x s).sand = s.sand := by simp [sweepOutput]
@[simp] theorem sweepOutput_chain (x : Source) (s : State) : (sweepOutput x s).chain = s.chain := by simp [sweepOutput]
@[simp] theorem sweepOutput_rep (x : Source) (s : State) : (sweepOutput x s).rep = s.rep := by simp [sweepOutput]
@[simp] theorem sweepOutput_rw (x : Source) (s : State) : (sweepOutput x s).rw = s.rw := by simp [sweepOutput]
@[simp] theorem sweepOutput_memory (x : Source) (s : State) : (sweepOutput x s).memory = s.memory := by simp [sweepOutput]
@[simp] theorem sweepOutput_draws (x : Source) (s : State) : (sweepOutput x s).draws = s.draws := by simp [sweepOutput]
@[simp] theorem sweepOutput_pending (x : Source) (s : State) : (sweepOutput x s).pending = s.pending := by simp [sweepOutput]

/-! `initialSweep` changes intent, ip only. -/

@[simp] theorem initialSweep_now (s : State) : (initialSweep s).now = s.now := by simp [initialSweep]
@[simp] theorem initialSweep_pins (s : State) : (initialSweep s).pins = s.pins := by simp [initialSweep]
@[simp] theorem initialSweep_lines (s : State) : (initialSweep s).lines = s.lines := by simp [initialSweep]
@[simp] theorem initialSweep_ctl (s : State) : (initialSweep s).ctl = s.ctl := by simp [initialSweep]
@[simp] theorem initialSweep_cfg (s : State) : (initialSweep s).cfg = s.cfg := by simp [initialSweep]
@[simp] theorem initialSweep_axle (s : State) : (initialSweep s).axle = s.axle := by simp [initialSweep]
@[simp] theorem initialSweep_ref (s : State) : (initialSweep s).ref = s.ref := by simp [initialSweep]
@[simp] theorem initialSweep_ev (s : State) : (initialSweep s).ev = s.ev := by simp [initialSweep]
@[simp] theorem initialSweep_ceil (s : State) : (initialSweep s).ceil = s.ceil := by simp [initialSweep]
@[simp] theorem initialSweep_blend (s : State) : (initialSweep s).blend = s.blend := by simp [initialSweep]
@[simp] theorem initialSweep_sand (s : State) : (initialSweep s).sand = s.sand := by simp [initialSweep]
@[simp] theorem initialSweep_chain (s : State) : (initialSweep s).chain = s.chain := by simp [initialSweep]
@[simp] theorem initialSweep_rep (s : State) : (initialSweep s).rep = s.rep := by simp [initialSweep]
@[simp] theorem initialSweep_rw (s : State) : (initialSweep s).rw = s.rw := by simp [initialSweep]
@[simp] theorem initialSweep_memory (s : State) : (initialSweep s).memory = s.memory := by simp [initialSweep]
@[simp] theorem initialSweep_draws (s : State) : (initialSweep s).draws = s.draws := by simp [initialSweep]
@[simp] theorem initialSweep_pending (s : State) : (initialSweep s).pending = s.pending := by simp [initialSweep]

/-! `intentRestart` changes intent only. -/

@[simp] theorem intentRestart_now (s : State) : (intentRestart s).now = s.now := rfl
@[simp] theorem intentRestart_pins (s : State) : (intentRestart s).pins = s.pins := rfl
@[simp] theorem intentRestart_lines (s : State) : (intentRestart s).lines = s.lines := rfl
@[simp] theorem intentRestart_ctl (s : State) : (intentRestart s).ctl = s.ctl := rfl
@[simp] theorem intentRestart_cfg (s : State) : (intentRestart s).cfg = s.cfg := rfl
@[simp] theorem intentRestart_ip (s : State) : (intentRestart s).ip = s.ip := rfl
@[simp] theorem intentRestart_axle (s : State) : (intentRestart s).axle = s.axle := rfl
@[simp] theorem intentRestart_ref (s : State) : (intentRestart s).ref = s.ref := rfl
@[simp] theorem intentRestart_ev (s : State) : (intentRestart s).ev = s.ev := rfl
@[simp] theorem intentRestart_ceil (s : State) : (intentRestart s).ceil = s.ceil := rfl
@[simp] theorem intentRestart_blend (s : State) : (intentRestart s).blend = s.blend := rfl
@[simp] theorem intentRestart_sand (s : State) : (intentRestart s).sand = s.sand := rfl
@[simp] theorem intentRestart_chain (s : State) : (intentRestart s).chain = s.chain := rfl
@[simp] theorem intentRestart_rep (s : State) : (intentRestart s).rep = s.rep := rfl
@[simp] theorem intentRestart_rw (s : State) : (intentRestart s).rw = s.rw := rfl
@[simp] theorem intentRestart_memory (s : State) : (intentRestart s).memory = s.memory := rfl
@[simp] theorem intentRestart_draws (s : State) : (intentRestart s).draws = s.draws := rfl
@[simp] theorem intentRestart_pending (s : State) : (intentRestart s).pending = s.pending := rfl

/-! `offer` changes sand, rep only. -/

@[simp] theorem offer_now (i : SanderId) (l : List Trigger) (s : State) : (offer i l s).now = s.now := rfl
@[simp] theorem offer_pins (i : SanderId) (l : List Trigger) (s : State) : (offer i l s).pins = s.pins := rfl
@[simp] theorem offer_lines (i : SanderId) (l : List Trigger) (s : State) : (offer i l s).lines = s.lines := rfl
@[simp] theorem offer_ctl (i : SanderId) (l : List Trigger) (s : State) : (offer i l s).ctl = s.ctl := rfl
@[simp] theorem offer_cfg (i : SanderId) (l : List Trigger) (s : State) : (offer i l s).cfg = s.cfg := rfl
@[simp] theorem offer_ip (i : SanderId) (l : List Trigger) (s : State) : (offer i l s).ip = s.ip := rfl
@[simp] theorem offer_intent (i : SanderId) (l : List Trigger) (s : State) : (offer i l s).intent = s.intent := rfl
@[simp] theorem offer_axle (i : SanderId) (l : List Trigger) (s : State) : (offer i l s).axle = s.axle := rfl
@[simp] theorem offer_ref (i : SanderId) (l : List Trigger) (s : State) : (offer i l s).ref = s.ref := rfl
@[simp] theorem offer_ev (i : SanderId) (l : List Trigger) (s : State) : (offer i l s).ev = s.ev := rfl
@[simp] theorem offer_ceil (i : SanderId) (l : List Trigger) (s : State) : (offer i l s).ceil = s.ceil := rfl
@[simp] theorem offer_blend (i : SanderId) (l : List Trigger) (s : State) : (offer i l s).blend = s.blend := rfl
@[simp] theorem offer_chain (i : SanderId) (l : List Trigger) (s : State) : (offer i l s).chain = s.chain := rfl
@[simp] theorem offer_rw (i : SanderId) (l : List Trigger) (s : State) : (offer i l s).rw = s.rw := rfl
@[simp] theorem offer_memory (i : SanderId) (l : List Trigger) (s : State) : (offer i l s).memory = s.memory := rfl
@[simp] theorem offer_draws (i : SanderId) (l : List Trigger) (s : State) : (offer i l s).draws = s.draws := rfl
@[simp] theorem offer_pending (i : SanderId) (l : List Trigger) (s : State) : (offer i l s).pending = s.pending := rfl

/-! `offerEach` changes sand, rep only. -/

@[simp] theorem offerEach_now (f : SanderId → List Trigger) (s : State) : (offerEach f s).now = s.now := by simp [offerEach]
@[simp] theorem offerEach_pins (f : SanderId → List Trigger) (s : State) : (offerEach f s).pins = s.pins := by simp [offerEach]
@[simp] theorem offerEach_lines (f : SanderId → List Trigger) (s : State) : (offerEach f s).lines = s.lines := by simp [offerEach]
@[simp] theorem offerEach_ctl (f : SanderId → List Trigger) (s : State) : (offerEach f s).ctl = s.ctl := by simp [offerEach]
@[simp] theorem offerEach_cfg (f : SanderId → List Trigger) (s : State) : (offerEach f s).cfg = s.cfg := by simp [offerEach]
@[simp] theorem offerEach_ip (f : SanderId → List Trigger) (s : State) : (offerEach f s).ip = s.ip := by simp [offerEach]
@[simp] theorem offerEach_intent (f : SanderId → List Trigger) (s : State) : (offerEach f s).intent = s.intent := by simp [offerEach]
@[simp] theorem offerEach_axle (f : SanderId → List Trigger) (s : State) : (offerEach f s).axle = s.axle := by simp [offerEach]
@[simp] theorem offerEach_ref (f : SanderId → List Trigger) (s : State) : (offerEach f s).ref = s.ref := by simp [offerEach]
@[simp] theorem offerEach_ev (f : SanderId → List Trigger) (s : State) : (offerEach f s).ev = s.ev := by simp [offerEach]
@[simp] theorem offerEach_ceil (f : SanderId → List Trigger) (s : State) : (offerEach f s).ceil = s.ceil := by simp [offerEach]
@[simp] theorem offerEach_blend (f : SanderId → List Trigger) (s : State) : (offerEach f s).blend = s.blend := by simp [offerEach]
@[simp] theorem offerEach_chain (f : SanderId → List Trigger) (s : State) : (offerEach f s).chain = s.chain := by simp [offerEach]
@[simp] theorem offerEach_rw (f : SanderId → List Trigger) (s : State) : (offerEach f s).rw = s.rw := by simp [offerEach]
@[simp] theorem offerEach_memory (f : SanderId → List Trigger) (s : State) : (offerEach f s).memory = s.memory := by simp [offerEach]
@[simp] theorem offerEach_draws (f : SanderId → List Trigger) (s : State) : (offerEach f s).draws = s.draws := by simp [offerEach]
@[simp] theorem offerEach_pending (f : SanderId → List Trigger) (s : State) : (offerEach f s).pending = s.pending := by simp [offerEach]

/-! `stopPulses` changes sand only. -/

@[simp] theorem stopPulses_now (f : SanderId → Bool) (s : State) : (stopPulses f s).now = s.now := rfl
@[simp] theorem stopPulses_pins (f : SanderId → Bool) (s : State) : (stopPulses f s).pins = s.pins := rfl
@[simp] theorem stopPulses_lines (f : SanderId → Bool) (s : State) : (stopPulses f s).lines = s.lines := rfl
@[simp] theorem stopPulses_ctl (f : SanderId → Bool) (s : State) : (stopPulses f s).ctl = s.ctl := rfl
@[simp] theorem stopPulses_cfg (f : SanderId → Bool) (s : State) : (stopPulses f s).cfg = s.cfg := rfl
@[simp] theorem stopPulses_ip (f : SanderId → Bool) (s : State) : (stopPulses f s).ip = s.ip := rfl
@[simp] theorem stopPulses_intent (f : SanderId → Bool) (s : State) : (stopPulses f s).intent = s.intent := rfl
@[simp] theorem stopPulses_axle (f : SanderId → Bool) (s : State) : (stopPulses f s).axle = s.axle := rfl
@[simp] theorem stopPulses_ref (f : SanderId → Bool) (s : State) : (stopPulses f s).ref = s.ref := rfl
@[simp] theorem stopPulses_ev (f : SanderId → Bool) (s : State) : (stopPulses f s).ev = s.ev := rfl
@[simp] theorem stopPulses_ceil (f : SanderId → Bool) (s : State) : (stopPulses f s).ceil = s.ceil := rfl
@[simp] theorem stopPulses_blend (f : SanderId → Bool) (s : State) : (stopPulses f s).blend = s.blend := rfl
@[simp] theorem stopPulses_chain (f : SanderId → Bool) (s : State) : (stopPulses f s).chain = s.chain := rfl
@[simp] theorem stopPulses_rep (f : SanderId → Bool) (s : State) : (stopPulses f s).rep = s.rep := rfl
@[simp] theorem stopPulses_rw (f : SanderId → Bool) (s : State) : (stopPulses f s).rw = s.rw := rfl
@[simp] theorem stopPulses_memory (f : SanderId → Bool) (s : State) : (stopPulses f s).memory = s.memory := rfl
@[simp] theorem stopPulses_draws (f : SanderId → Bool) (s : State) : (stopPulses f s).draws = s.draws := rfl
@[simp] theorem stopPulses_pending (f : SanderId → Bool) (s : State) : (stopPulses f s).pending = s.pending := rfl

/-! `pulseEnd` changes sand, rep only. -/

@[simp] theorem pulseEnd_now (i : SanderId) (s : State) : (pulseEnd i s).now = s.now := by simp [pulseEnd]
@[simp] theorem pulseEnd_pins (i : SanderId) (s : State) : (pulseEnd i s).pins = s.pins := by simp [pulseEnd]
@[simp] theorem pulseEnd_lines (i : SanderId) (s : State) : (pulseEnd i s).lines = s.lines := by simp [pulseEnd]
@[simp] theorem pulseEnd_ctl (i : SanderId) (s : State) : (pulseEnd i s).ctl = s.ctl := by simp [pulseEnd]
@[simp] theorem pulseEnd_cfg (i : SanderId) (s : State) : (pulseEnd i s).cfg = s.cfg := by simp [pulseEnd]
@[simp] theorem pulseEnd_ip (i : SanderId) (s : State) : (pulseEnd i s).ip = s.ip := by simp [pulseEnd]
@[simp] theorem pulseEnd_intent (i : SanderId) (s : State) : (pulseEnd i s).intent = s.intent := by simp [pulseEnd]
@[simp] theorem pulseEnd_axle (i : SanderId) (s : State) : (pulseEnd i s).axle = s.axle := by simp [pulseEnd]
@[simp] theorem pulseEnd_ref (i : SanderId) (s : State) : (pulseEnd i s).ref = s.ref := by simp [pulseEnd]
@[simp] theorem pulseEnd_ev (i : SanderId) (s : State) : (pulseEnd i s).ev = s.ev := by simp [pulseEnd]
@[simp] theorem pulseEnd_ceil (i : SanderId) (s : State) : (pulseEnd i s).ceil = s.ceil := by simp [pulseEnd]
@[simp] theorem pulseEnd_blend (i : SanderId) (s : State) : (pulseEnd i s).blend = s.blend := by simp [pulseEnd]
@[simp] theorem pulseEnd_chain (i : SanderId) (s : State) : (pulseEnd i s).chain = s.chain := by simp [pulseEnd]
@[simp] theorem pulseEnd_rw (i : SanderId) (s : State) : (pulseEnd i s).rw = s.rw := by simp [pulseEnd]
@[simp] theorem pulseEnd_memory (i : SanderId) (s : State) : (pulseEnd i s).memory = s.memory := by simp [pulseEnd]
@[simp] theorem pulseEnd_draws (i : SanderId) (s : State) : (pulseEnd i s).draws = s.draws := by simp [pulseEnd]
@[simp] theorem pulseEnd_pending (i : SanderId) (s : State) : (pulseEnd i s).pending = s.pending := by simp [pulseEnd]

/-! `sandModeTaken` changes sand, rep only. -/

@[simp] theorem sandModeTaken_now (s : State) : (sandModeTaken s).now = s.now := by simp [sandModeTaken]
@[simp] theorem sandModeTaken_pins (s : State) : (sandModeTaken s).pins = s.pins := by simp [sandModeTaken]
@[simp] theorem sandModeTaken_lines (s : State) : (sandModeTaken s).lines = s.lines := by simp [sandModeTaken]
@[simp] theorem sandModeTaken_ctl (s : State) : (sandModeTaken s).ctl = s.ctl := by simp [sandModeTaken]
@[simp] theorem sandModeTaken_cfg (s : State) : (sandModeTaken s).cfg = s.cfg := by simp [sandModeTaken]
@[simp] theorem sandModeTaken_ip (s : State) : (sandModeTaken s).ip = s.ip := by simp [sandModeTaken]
@[simp] theorem sandModeTaken_intent (s : State) : (sandModeTaken s).intent = s.intent := by simp [sandModeTaken]
@[simp] theorem sandModeTaken_axle (s : State) : (sandModeTaken s).axle = s.axle := by simp [sandModeTaken]
@[simp] theorem sandModeTaken_ref (s : State) : (sandModeTaken s).ref = s.ref := by simp [sandModeTaken]
@[simp] theorem sandModeTaken_ev (s : State) : (sandModeTaken s).ev = s.ev := by simp [sandModeTaken]
@[simp] theorem sandModeTaken_ceil (s : State) : (sandModeTaken s).ceil = s.ceil := by simp [sandModeTaken]
@[simp] theorem sandModeTaken_blend (s : State) : (sandModeTaken s).blend = s.blend := by simp [sandModeTaken]
@[simp] theorem sandModeTaken_chain (s : State) : (sandModeTaken s).chain = s.chain := by simp [sandModeTaken]
@[simp] theorem sandModeTaken_rw (s : State) : (sandModeTaken s).rw = s.rw := by simp [sandModeTaken]
@[simp] theorem sandModeTaken_memory (s : State) : (sandModeTaken s).memory = s.memory := by simp [sandModeTaken]
@[simp] theorem sandModeTaken_draws (s : State) : (sandModeTaken s).draws = s.draws := by simp [sandModeTaken]
@[simp] theorem sandModeTaken_pending (s : State) : (sandModeTaken s).pending = s.pending := by simp [sandModeTaken]

/-! `sandRelease` changes sand, rep only. -/

@[simp] theorem sandRelease_now (s : State) : (sandRelease s).now = s.now := by simp [sandRelease]
@[simp] theorem sandRelease_pins (s : State) : (sandRelease s).pins = s.pins := by simp [sandRelease]
@[simp] theorem sandRelease_lines (s : State) : (sandRelease s).lines = s.lines := by simp [sandRelease]
@[simp] theorem sandRelease_ctl (s : State) : (sandRelease s).ctl = s.ctl := by simp [sandRelease]
@[simp] theorem sandRelease_cfg (s : State) : (sandRelease s).cfg = s.cfg := by simp [sandRelease]
@[simp] theorem sandRelease_ip (s : State) : (sandRelease s).ip = s.ip := by simp [sandRelease]
@[simp] theorem sandRelease_intent (s : State) : (sandRelease s).intent = s.intent := by simp [sandRelease]
@[simp] theorem sandRelease_axle (s : State) : (sandRelease s).axle = s.axle := by simp [sandRelease]
@[simp] theorem sandRelease_ref (s : State) : (sandRelease s).ref = s.ref := by simp [sandRelease]
@[simp] theorem sandRelease_ev (s : State) : (sandRelease s).ev = s.ev := by simp [sandRelease]
@[simp] theorem sandRelease_ceil (s : State) : (sandRelease s).ceil = s.ceil := by simp [sandRelease]
@[simp] theorem sandRelease_blend (s : State) : (sandRelease s).blend = s.blend := by simp [sandRelease]
@[simp] theorem sandRelease_chain (s : State) : (sandRelease s).chain = s.chain := by simp [sandRelease]
@[simp] theorem sandRelease_rw (s : State) : (sandRelease s).rw = s.rw := by simp [sandRelease]
@[simp] theorem sandRelease_memory (s : State) : (sandRelease s).memory = s.memory := by simp [sandRelease]
@[simp] theorem sandRelease_draws (s : State) : (sandRelease s).draws = s.draws := by simp [sandRelease]
@[simp] theorem sandRelease_pending (s : State) : (sandRelease s).pending = s.pending := by simp [sandRelease]

/-! `sandSeen` changes sand only. -/

@[simp] theorem sandSeen_now (e : Evaluation) (s : State) : (sandSeen e s).now = s.now := rfl
@[simp] theorem sandSeen_pins (e : Evaluation) (s : State) : (sandSeen e s).pins = s.pins := rfl
@[simp] theorem sandSeen_lines (e : Evaluation) (s : State) : (sandSeen e s).lines = s.lines := rfl
@[simp] theorem sandSeen_ctl (e : Evaluation) (s : State) : (sandSeen e s).ctl = s.ctl := rfl
@[simp] theorem sandSeen_cfg (e : Evaluation) (s : State) : (sandSeen e s).cfg = s.cfg := rfl
@[simp] theorem sandSeen_ip (e : Evaluation) (s : State) : (sandSeen e s).ip = s.ip := rfl
@[simp] theorem sandSeen_intent (e : Evaluation) (s : State) : (sandSeen e s).intent = s.intent := rfl
@[simp] theorem sandSeen_axle (e : Evaluation) (s : State) : (sandSeen e s).axle = s.axle := rfl
@[simp] theorem sandSeen_ref (e : Evaluation) (s : State) : (sandSeen e s).ref = s.ref := rfl
@[simp] theorem sandSeen_ev (e : Evaluation) (s : State) : (sandSeen e s).ev = s.ev := rfl
@[simp] theorem sandSeen_ceil (e : Evaluation) (s : State) : (sandSeen e s).ceil = s.ceil := rfl
@[simp] theorem sandSeen_blend (e : Evaluation) (s : State) : (sandSeen e s).blend = s.blend := rfl
@[simp] theorem sandSeen_chain (e : Evaluation) (s : State) : (sandSeen e s).chain = s.chain := rfl
@[simp] theorem sandSeen_rep (e : Evaluation) (s : State) : (sandSeen e s).rep = s.rep := rfl
@[simp] theorem sandSeen_rw (e : Evaluation) (s : State) : (sandSeen e s).rw = s.rw := rfl
@[simp] theorem sandSeen_memory (e : Evaluation) (s : State) : (sandSeen e s).memory = s.memory := rfl
@[simp] theorem sandSeen_draws (e : Evaluation) (s : State) : (sandSeen e s).draws = s.draws := rfl
@[simp] theorem sandSeen_pending (e : Evaluation) (s : State) : (sandSeen e s).pending = s.pending := rfl

/-! `trailTest` changes sand only. -/

@[simp] theorem trailTest_now (o : Odo) (s : State) : (trailTest o s).now = s.now := rfl
@[simp] theorem trailTest_pins (o : Odo) (s : State) : (trailTest o s).pins = s.pins := rfl
@[simp] theorem trailTest_lines (o : Odo) (s : State) : (trailTest o s).lines = s.lines := rfl
@[simp] theorem trailTest_ctl (o : Odo) (s : State) : (trailTest o s).ctl = s.ctl := rfl
@[simp] theorem trailTest_cfg (o : Odo) (s : State) : (trailTest o s).cfg = s.cfg := rfl
@[simp] theorem trailTest_ip (o : Odo) (s : State) : (trailTest o s).ip = s.ip := rfl
@[simp] theorem trailTest_intent (o : Odo) (s : State) : (trailTest o s).intent = s.intent := rfl
@[simp] theorem trailTest_axle (o : Odo) (s : State) : (trailTest o s).axle = s.axle := rfl
@[simp] theorem trailTest_ref (o : Odo) (s : State) : (trailTest o s).ref = s.ref := rfl
@[simp] theorem trailTest_ev (o : Odo) (s : State) : (trailTest o s).ev = s.ev := rfl
@[simp] theorem trailTest_ceil (o : Odo) (s : State) : (trailTest o s).ceil = s.ceil := rfl
@[simp] theorem trailTest_blend (o : Odo) (s : State) : (trailTest o s).blend = s.blend := rfl
@[simp] theorem trailTest_chain (o : Odo) (s : State) : (trailTest o s).chain = s.chain := rfl
@[simp] theorem trailTest_rep (o : Odo) (s : State) : (trailTest o s).rep = s.rep := rfl
@[simp] theorem trailTest_rw (o : Odo) (s : State) : (trailTest o s).rw = s.rw := rfl
@[simp] theorem trailTest_memory (o : Odo) (s : State) : (trailTest o s).memory = s.memory := rfl
@[simp] theorem trailTest_draws (o : Odo) (s : State) : (trailTest o s).draws = s.draws := rfl
@[simp] theorem trailTest_pending (o : Odo) (s : State) : (trailTest o s).pending = s.pending := rfl

/-! `sandCompletion` changes sand, rep only. -/

@[simp] theorem sandCompletion_now (e : Evaluation) (s : State) : (sandCompletion e s).now = s.now := by simp [sandCompletion]
@[simp] theorem sandCompletion_pins (e : Evaluation) (s : State) : (sandCompletion e s).pins = s.pins := by simp [sandCompletion]
@[simp] theorem sandCompletion_lines (e : Evaluation) (s : State) : (sandCompletion e s).lines = s.lines := by simp [sandCompletion]
@[simp] theorem sandCompletion_ctl (e : Evaluation) (s : State) : (sandCompletion e s).ctl = s.ctl := by simp [sandCompletion]
@[simp] theorem sandCompletion_cfg (e : Evaluation) (s : State) : (sandCompletion e s).cfg = s.cfg := by simp [sandCompletion]
@[simp] theorem sandCompletion_ip (e : Evaluation) (s : State) : (sandCompletion e s).ip = s.ip := by simp [sandCompletion]
@[simp] theorem sandCompletion_intent (e : Evaluation) (s : State) : (sandCompletion e s).intent = s.intent := by simp [sandCompletion]
@[simp] theorem sandCompletion_axle (e : Evaluation) (s : State) : (sandCompletion e s).axle = s.axle := by simp [sandCompletion]
@[simp] theorem sandCompletion_ref (e : Evaluation) (s : State) : (sandCompletion e s).ref = s.ref := by simp [sandCompletion]
@[simp] theorem sandCompletion_ev (e : Evaluation) (s : State) : (sandCompletion e s).ev = s.ev := by simp [sandCompletion]
@[simp] theorem sandCompletion_ceil (e : Evaluation) (s : State) : (sandCompletion e s).ceil = s.ceil := by simp [sandCompletion]
@[simp] theorem sandCompletion_blend (e : Evaluation) (s : State) : (sandCompletion e s).blend = s.blend := by simp [sandCompletion]
@[simp] theorem sandCompletion_chain (e : Evaluation) (s : State) : (sandCompletion e s).chain = s.chain := by simp [sandCompletion]
@[simp] theorem sandCompletion_rw (e : Evaluation) (s : State) : (sandCompletion e s).rw = s.rw := by simp [sandCompletion]
@[simp] theorem sandCompletion_memory (e : Evaluation) (s : State) : (sandCompletion e s).memory = s.memory := by simp [sandCompletion]
@[simp] theorem sandCompletion_draws (e : Evaluation) (s : State) : (sandCompletion e s).draws = s.draws := by simp [sandCompletion]
@[simp] theorem sandCompletion_pending (e : Evaluation) (s : State) : (sandCompletion e s).pending = s.pending := by simp [sandCompletion]

/-! `reofferIdle` changes sand, rep only. -/

@[simp] theorem reofferIdle_now (i : SanderId) (x : SanderState) (s : State) : (reofferIdle i x s).now = s.now := by simp [reofferIdle]
@[simp] theorem reofferIdle_pins (i : SanderId) (x : SanderState) (s : State) : (reofferIdle i x s).pins = s.pins := by simp [reofferIdle]
@[simp] theorem reofferIdle_lines (i : SanderId) (x : SanderState) (s : State) : (reofferIdle i x s).lines = s.lines := by simp [reofferIdle]
@[simp] theorem reofferIdle_ctl (i : SanderId) (x : SanderState) (s : State) : (reofferIdle i x s).ctl = s.ctl := by simp [reofferIdle]
@[simp] theorem reofferIdle_cfg (i : SanderId) (x : SanderState) (s : State) : (reofferIdle i x s).cfg = s.cfg := by simp [reofferIdle]
@[simp] theorem reofferIdle_ip (i : SanderId) (x : SanderState) (s : State) : (reofferIdle i x s).ip = s.ip := by simp [reofferIdle]
@[simp] theorem reofferIdle_intent (i : SanderId) (x : SanderState) (s : State) : (reofferIdle i x s).intent = s.intent := by simp [reofferIdle]
@[simp] theorem reofferIdle_axle (i : SanderId) (x : SanderState) (s : State) : (reofferIdle i x s).axle = s.axle := by simp [reofferIdle]
@[simp] theorem reofferIdle_ref (i : SanderId) (x : SanderState) (s : State) : (reofferIdle i x s).ref = s.ref := by simp [reofferIdle]
@[simp] theorem reofferIdle_ev (i : SanderId) (x : SanderState) (s : State) : (reofferIdle i x s).ev = s.ev := by simp [reofferIdle]
@[simp] theorem reofferIdle_ceil (i : SanderId) (x : SanderState) (s : State) : (reofferIdle i x s).ceil = s.ceil := by simp [reofferIdle]
@[simp] theorem reofferIdle_blend (i : SanderId) (x : SanderState) (s : State) : (reofferIdle i x s).blend = s.blend := by simp [reofferIdle]
@[simp] theorem reofferIdle_chain (i : SanderId) (x : SanderState) (s : State) : (reofferIdle i x s).chain = s.chain := by simp [reofferIdle]
@[simp] theorem reofferIdle_rw (i : SanderId) (x : SanderState) (s : State) : (reofferIdle i x s).rw = s.rw := by simp [reofferIdle]
@[simp] theorem reofferIdle_memory (i : SanderId) (x : SanderState) (s : State) : (reofferIdle i x s).memory = s.memory := by simp [reofferIdle]
@[simp] theorem reofferIdle_draws (i : SanderId) (x : SanderState) (s : State) : (reofferIdle i x s).draws = s.draws := by simp [reofferIdle]
@[simp] theorem reofferIdle_pending (i : SanderId) (x : SanderState) (s : State) : (reofferIdle i x s).pending = s.pending := by simp [reofferIdle]

/-! `levelFull` changes sand, rep only. -/

@[simp] theorem levelFull_now (i : SanderId) (s : State) : (levelFull i s).now = s.now := by simp [levelFull]
@[simp] theorem levelFull_pins (i : SanderId) (s : State) : (levelFull i s).pins = s.pins := by simp [levelFull]
@[simp] theorem levelFull_lines (i : SanderId) (s : State) : (levelFull i s).lines = s.lines := by simp [levelFull]
@[simp] theorem levelFull_ctl (i : SanderId) (s : State) : (levelFull i s).ctl = s.ctl := by simp [levelFull]
@[simp] theorem levelFull_cfg (i : SanderId) (s : State) : (levelFull i s).cfg = s.cfg := by simp [levelFull]
@[simp] theorem levelFull_ip (i : SanderId) (s : State) : (levelFull i s).ip = s.ip := by simp [levelFull]
@[simp] theorem levelFull_intent (i : SanderId) (s : State) : (levelFull i s).intent = s.intent := by simp [levelFull]
@[simp] theorem levelFull_axle (i : SanderId) (s : State) : (levelFull i s).axle = s.axle := by simp [levelFull]
@[simp] theorem levelFull_ref (i : SanderId) (s : State) : (levelFull i s).ref = s.ref := by simp [levelFull]
@[simp] theorem levelFull_ev (i : SanderId) (s : State) : (levelFull i s).ev = s.ev := by simp [levelFull]
@[simp] theorem levelFull_ceil (i : SanderId) (s : State) : (levelFull i s).ceil = s.ceil := by simp [levelFull]
@[simp] theorem levelFull_blend (i : SanderId) (s : State) : (levelFull i s).blend = s.blend := by simp [levelFull]
@[simp] theorem levelFull_chain (i : SanderId) (s : State) : (levelFull i s).chain = s.chain := by simp [levelFull]
@[simp] theorem levelFull_rw (i : SanderId) (s : State) : (levelFull i s).rw = s.rw := by simp [levelFull]
@[simp] theorem levelFull_memory (i : SanderId) (s : State) : (levelFull i s).memory = s.memory := by simp [levelFull]
@[simp] theorem levelFull_draws (i : SanderId) (s : State) : (levelFull i s).draws = s.draws := by simp [levelFull]
@[simp] theorem levelFull_pending (i : SanderId) (s : State) : (levelFull i s).pending = s.pending := by simp [levelFull]

/-! `levelLow` changes sand, rep only. -/

@[simp] theorem levelLow_now (i : SanderId) (s : State) : (levelLow i s).now = s.now := by simp [levelLow]
@[simp] theorem levelLow_pins (i : SanderId) (s : State) : (levelLow i s).pins = s.pins := by simp [levelLow]
@[simp] theorem levelLow_lines (i : SanderId) (s : State) : (levelLow i s).lines = s.lines := by simp [levelLow]
@[simp] theorem levelLow_ctl (i : SanderId) (s : State) : (levelLow i s).ctl = s.ctl := by simp [levelLow]
@[simp] theorem levelLow_cfg (i : SanderId) (s : State) : (levelLow i s).cfg = s.cfg := by simp [levelLow]
@[simp] theorem levelLow_ip (i : SanderId) (s : State) : (levelLow i s).ip = s.ip := by simp [levelLow]
@[simp] theorem levelLow_intent (i : SanderId) (s : State) : (levelLow i s).intent = s.intent := by simp [levelLow]
@[simp] theorem levelLow_axle (i : SanderId) (s : State) : (levelLow i s).axle = s.axle := by simp [levelLow]
@[simp] theorem levelLow_ref (i : SanderId) (s : State) : (levelLow i s).ref = s.ref := by simp [levelLow]
@[simp] theorem levelLow_ev (i : SanderId) (s : State) : (levelLow i s).ev = s.ev := by simp [levelLow]
@[simp] theorem levelLow_ceil (i : SanderId) (s : State) : (levelLow i s).ceil = s.ceil := by simp [levelLow]
@[simp] theorem levelLow_blend (i : SanderId) (s : State) : (levelLow i s).blend = s.blend := by simp [levelLow]
@[simp] theorem levelLow_chain (i : SanderId) (s : State) : (levelLow i s).chain = s.chain := by simp [levelLow]
@[simp] theorem levelLow_rw (i : SanderId) (s : State) : (levelLow i s).rw = s.rw := by simp [levelLow]
@[simp] theorem levelLow_memory (i : SanderId) (s : State) : (levelLow i s).memory = s.memory := by simp [levelLow]
@[simp] theorem levelLow_draws (i : SanderId) (s : State) : (levelLow i s).draws = s.draws := by simp [levelLow]
@[simp] theorem levelLow_pending (i : SanderId) (s : State) : (levelLow i s).pending = s.pending := by simp [levelLow]

/-! `levelHigh` changes sand, rep only. -/

@[simp] theorem levelHigh_now (i : SanderId) (s : State) : (levelHigh i s).now = s.now := by
  simp only [levelHigh]; (repeat' split) <;> simp
@[simp] theorem levelHigh_pins (i : SanderId) (s : State) : (levelHigh i s).pins = s.pins := by
  simp only [levelHigh]; (repeat' split) <;> simp
@[simp] theorem levelHigh_lines (i : SanderId) (s : State) : (levelHigh i s).lines = s.lines := by
  simp only [levelHigh]; (repeat' split) <;> simp
@[simp] theorem levelHigh_ctl (i : SanderId) (s : State) : (levelHigh i s).ctl = s.ctl := by
  simp only [levelHigh]; (repeat' split) <;> simp
@[simp] theorem levelHigh_cfg (i : SanderId) (s : State) : (levelHigh i s).cfg = s.cfg := by
  simp only [levelHigh]; (repeat' split) <;> simp
@[simp] theorem levelHigh_ip (i : SanderId) (s : State) : (levelHigh i s).ip = s.ip := by
  simp only [levelHigh]; (repeat' split) <;> simp
@[simp] theorem levelHigh_intent (i : SanderId) (s : State) : (levelHigh i s).intent = s.intent := by
  simp only [levelHigh]; (repeat' split) <;> simp
@[simp] theorem levelHigh_axle (i : SanderId) (s : State) : (levelHigh i s).axle = s.axle := by
  simp only [levelHigh]; (repeat' split) <;> simp
@[simp] theorem levelHigh_ref (i : SanderId) (s : State) : (levelHigh i s).ref = s.ref := by
  simp only [levelHigh]; (repeat' split) <;> simp
@[simp] theorem levelHigh_ev (i : SanderId) (s : State) : (levelHigh i s).ev = s.ev := by
  simp only [levelHigh]; (repeat' split) <;> simp
@[simp] theorem levelHigh_ceil (i : SanderId) (s : State) : (levelHigh i s).ceil = s.ceil := by
  simp only [levelHigh]; (repeat' split) <;> simp
@[simp] theorem levelHigh_blend (i : SanderId) (s : State) : (levelHigh i s).blend = s.blend := by
  simp only [levelHigh]; (repeat' split) <;> simp
@[simp] theorem levelHigh_chain (i : SanderId) (s : State) : (levelHigh i s).chain = s.chain := by
  simp only [levelHigh]; (repeat' split) <;> simp
@[simp] theorem levelHigh_rw (i : SanderId) (s : State) : (levelHigh i s).rw = s.rw := by
  simp only [levelHigh]; (repeat' split) <;> simp
@[simp] theorem levelHigh_memory (i : SanderId) (s : State) : (levelHigh i s).memory = s.memory := by
  simp only [levelHigh]; (repeat' split) <;> simp
@[simp] theorem levelHigh_draws (i : SanderId) (s : State) : (levelHigh i s).draws = s.draws := by
  simp only [levelHigh]; (repeat' split) <;> simp
@[simp] theorem levelHigh_pending (i : SanderId) (s : State) : (levelHigh i s).pending = s.pending := by
  simp only [levelHigh]; (repeat' split) <;> simp

/-! `supplySample` changes sand, rep only. -/

@[simp] theorem supplySample_now (v : Nat) (s : State) : (supplySample v s).now = s.now := by simp [supplySample]
@[simp] theorem supplySample_pins (v : Nat) (s : State) : (supplySample v s).pins = s.pins := by simp [supplySample]
@[simp] theorem supplySample_lines (v : Nat) (s : State) : (supplySample v s).lines = s.lines := by simp [supplySample]
@[simp] theorem supplySample_ctl (v : Nat) (s : State) : (supplySample v s).ctl = s.ctl := by simp [supplySample]
@[simp] theorem supplySample_cfg (v : Nat) (s : State) : (supplySample v s).cfg = s.cfg := by simp [supplySample]
@[simp] theorem supplySample_ip (v : Nat) (s : State) : (supplySample v s).ip = s.ip := by simp [supplySample]
@[simp] theorem supplySample_intent (v : Nat) (s : State) : (supplySample v s).intent = s.intent := by simp [supplySample]
@[simp] theorem supplySample_axle (v : Nat) (s : State) : (supplySample v s).axle = s.axle := by simp [supplySample]
@[simp] theorem supplySample_ref (v : Nat) (s : State) : (supplySample v s).ref = s.ref := by simp [supplySample]
@[simp] theorem supplySample_ev (v : Nat) (s : State) : (supplySample v s).ev = s.ev := by simp [supplySample]
@[simp] theorem supplySample_ceil (v : Nat) (s : State) : (supplySample v s).ceil = s.ceil := by simp [supplySample]
@[simp] theorem supplySample_blend (v : Nat) (s : State) : (supplySample v s).blend = s.blend := by simp [supplySample]
@[simp] theorem supplySample_chain (v : Nat) (s : State) : (supplySample v s).chain = s.chain := by simp [supplySample]
@[simp] theorem supplySample_rw (v : Nat) (s : State) : (supplySample v s).rw = s.rw := by simp [supplySample]
@[simp] theorem supplySample_memory (v : Nat) (s : State) : (supplySample v s).memory = s.memory := by simp [supplySample]
@[simp] theorem supplySample_draws (v : Nat) (s : State) : (supplySample v s).draws = s.draws := by simp [supplySample]
@[simp] theorem supplySample_pending (v : Nat) (s : State) : (supplySample v s).pending = s.pending := by simp [supplySample]

/-! `sanderTuned` changes sand only. -/

@[simp] theorem sanderTuned_now (i : SanderId) (o : SanderTuning) (s : State) : (sanderTuned i o s).now = s.now := rfl
@[simp] theorem sanderTuned_pins (i : SanderId) (o : SanderTuning) (s : State) : (sanderTuned i o s).pins = s.pins := rfl
@[simp] theorem sanderTuned_lines (i : SanderId) (o : SanderTuning) (s : State) : (sanderTuned i o s).lines = s.lines := rfl
@[simp] theorem sanderTuned_ctl (i : SanderId) (o : SanderTuning) (s : State) : (sanderTuned i o s).ctl = s.ctl := rfl
@[simp] theorem sanderTuned_cfg (i : SanderId) (o : SanderTuning) (s : State) : (sanderTuned i o s).cfg = s.cfg := rfl
@[simp] theorem sanderTuned_ip (i : SanderId) (o : SanderTuning) (s : State) : (sanderTuned i o s).ip = s.ip := rfl
@[simp] theorem sanderTuned_intent (i : SanderId) (o : SanderTuning) (s : State) : (sanderTuned i o s).intent = s.intent := rfl
@[simp] theorem sanderTuned_axle (i : SanderId) (o : SanderTuning) (s : State) : (sanderTuned i o s).axle = s.axle := rfl
@[simp] theorem sanderTuned_ref (i : SanderId) (o : SanderTuning) (s : State) : (sanderTuned i o s).ref = s.ref := rfl
@[simp] theorem sanderTuned_ev (i : SanderId) (o : SanderTuning) (s : State) : (sanderTuned i o s).ev = s.ev := rfl
@[simp] theorem sanderTuned_ceil (i : SanderId) (o : SanderTuning) (s : State) : (sanderTuned i o s).ceil = s.ceil := rfl
@[simp] theorem sanderTuned_blend (i : SanderId) (o : SanderTuning) (s : State) : (sanderTuned i o s).blend = s.blend := rfl
@[simp] theorem sanderTuned_chain (i : SanderId) (o : SanderTuning) (s : State) : (sanderTuned i o s).chain = s.chain := rfl
@[simp] theorem sanderTuned_rep (i : SanderId) (o : SanderTuning) (s : State) : (sanderTuned i o s).rep = s.rep := rfl
@[simp] theorem sanderTuned_rw (i : SanderId) (o : SanderTuning) (s : State) : (sanderTuned i o s).rw = s.rw := rfl
@[simp] theorem sanderTuned_memory (i : SanderId) (o : SanderTuning) (s : State) : (sanderTuned i o s).memory = s.memory := rfl
@[simp] theorem sanderTuned_draws (i : SanderId) (o : SanderTuning) (s : State) : (sanderTuned i o s).draws = s.draws := rfl
@[simp] theorem sanderTuned_pending (i : SanderId) (o : SanderTuning) (s : State) : (sanderTuned i o s).pending = s.pending := rfl

/-! `sandEnterActive` changes sand only. -/

@[simp] theorem sandEnterActive_now (s : State) : (sandEnterActive s).now = s.now := rfl
@[simp] theorem sandEnterActive_pins (s : State) : (sandEnterActive s).pins = s.pins := rfl
@[simp] theorem sandEnterActive_lines (s : State) : (sandEnterActive s).lines = s.lines := rfl
@[simp] theorem sandEnterActive_ctl (s : State) : (sandEnterActive s).ctl = s.ctl := rfl
@[simp] theorem sandEnterActive_cfg (s : State) : (sandEnterActive s).cfg = s.cfg := rfl
@[simp] theorem sandEnterActive_ip (s : State) : (sandEnterActive s).ip = s.ip := rfl
@[simp] theorem sandEnterActive_intent (s : State) : (sandEnterActive s).intent = s.intent := rfl
@[simp] theorem sandEnterActive_axle (s : State) : (sandEnterActive s).axle = s.axle := rfl
@[simp] theorem sandEnterActive_ref (s : State) : (sandEnterActive s).ref = s.ref := rfl
@[simp] theorem sandEnterActive_ev (s : State) : (sandEnterActive s).ev = s.ev := rfl
@[simp] theorem sandEnterActive_ceil (s : State) : (sandEnterActive s).ceil = s.ceil := rfl
@[simp] theorem sandEnterActive_blend (s : State) : (sandEnterActive s).blend = s.blend := rfl
@[simp] theorem sandEnterActive_chain (s : State) : (sandEnterActive s).chain = s.chain := rfl
@[simp] theorem sandEnterActive_rep (s : State) : (sandEnterActive s).rep = s.rep := rfl
@[simp] theorem sandEnterActive_rw (s : State) : (sandEnterActive s).rw = s.rw := rfl
@[simp] theorem sandEnterActive_memory (s : State) : (sandEnterActive s).memory = s.memory := rfl
@[simp] theorem sandEnterActive_draws (s : State) : (sandEnterActive s).draws = s.draws := rfl
@[simp] theorem sandEnterActive_pending (s : State) : (sandEnterActive s).pending = s.pending := rfl

/-! `trailOff` changes sand only. -/

@[simp] theorem trailOff_now (s : State) : (trailOff s).now = s.now := rfl
@[simp] theorem trailOff_pins (s : State) : (trailOff s).pins = s.pins := rfl
@[simp] theorem trailOff_lines (s : State) : (trailOff s).lines = s.lines := rfl
@[simp] theorem trailOff_ctl (s : State) : (trailOff s).ctl = s.ctl := rfl
@[simp] theorem trailOff_cfg (s : State) : (trailOff s).cfg = s.cfg := rfl
@[simp] theorem trailOff_ip (s : State) : (trailOff s).ip = s.ip := rfl
@[simp] theorem trailOff_intent (s : State) : (trailOff s).intent = s.intent := rfl
@[simp] theorem trailOff_axle (s : State) : (trailOff s).axle = s.axle := rfl
@[simp] theorem trailOff_ref (s : State) : (trailOff s).ref = s.ref := rfl
@[simp] theorem trailOff_ev (s : State) : (trailOff s).ev = s.ev := rfl
@[simp] theorem trailOff_ceil (s : State) : (trailOff s).ceil = s.ceil := rfl
@[simp] theorem trailOff_blend (s : State) : (trailOff s).blend = s.blend := rfl
@[simp] theorem trailOff_chain (s : State) : (trailOff s).chain = s.chain := rfl
@[simp] theorem trailOff_rep (s : State) : (trailOff s).rep = s.rep := rfl
@[simp] theorem trailOff_rw (s : State) : (trailOff s).rw = s.rw := rfl
@[simp] theorem trailOff_memory (s : State) : (trailOff s).memory = s.memory := rfl
@[simp] theorem trailOff_draws (s : State) : (trailOff s).draws = s.draws := rfl
@[simp] theorem trailOff_pending (s : State) : (trailOff s).pending = s.pending := rfl

/-! `sandGoSetup` changes sand only. -/

@[simp] theorem sandGoSetup_now (s : State) : (sandGoSetup s).now = s.now := by simp [sandGoSetup]
@[simp] theorem sandGoSetup_pins (s : State) : (sandGoSetup s).pins = s.pins := by simp [sandGoSetup]
@[simp] theorem sandGoSetup_lines (s : State) : (sandGoSetup s).lines = s.lines := by simp [sandGoSetup]
@[simp] theorem sandGoSetup_ctl (s : State) : (sandGoSetup s).ctl = s.ctl := by simp [sandGoSetup]
@[simp] theorem sandGoSetup_cfg (s : State) : (sandGoSetup s).cfg = s.cfg := by simp [sandGoSetup]
@[simp] theorem sandGoSetup_ip (s : State) : (sandGoSetup s).ip = s.ip := by simp [sandGoSetup]
@[simp] theorem sandGoSetup_intent (s : State) : (sandGoSetup s).intent = s.intent := by simp [sandGoSetup]
@[simp] theorem sandGoSetup_axle (s : State) : (sandGoSetup s).axle = s.axle := by simp [sandGoSetup]
@[simp] theorem sandGoSetup_ref (s : State) : (sandGoSetup s).ref = s.ref := by simp [sandGoSetup]
@[simp] theorem sandGoSetup_ev (s : State) : (sandGoSetup s).ev = s.ev := by simp [sandGoSetup]
@[simp] theorem sandGoSetup_ceil (s : State) : (sandGoSetup s).ceil = s.ceil := by simp [sandGoSetup]
@[simp] theorem sandGoSetup_blend (s : State) : (sandGoSetup s).blend = s.blend := by simp [sandGoSetup]
@[simp] theorem sandGoSetup_chain (s : State) : (sandGoSetup s).chain = s.chain := by simp [sandGoSetup]
@[simp] theorem sandGoSetup_rep (s : State) : (sandGoSetup s).rep = s.rep := by simp [sandGoSetup]
@[simp] theorem sandGoSetup_rw (s : State) : (sandGoSetup s).rw = s.rw := by simp [sandGoSetup]
@[simp] theorem sandGoSetup_memory (s : State) : (sandGoSetup s).memory = s.memory := by simp [sandGoSetup]
@[simp] theorem sandGoSetup_draws (s : State) : (sandGoSetup s).draws = s.draws := by simp [sandGoSetup]
@[simp] theorem sandGoSetup_pending (s : State) : (sandGoSetup s).pending = s.pending := by simp [sandGoSetup]

/-! `sandStandby` changes sand only. -/

@[simp] theorem sandStandby_now (s : State) : (sandStandby s).now = s.now := by simp [sandStandby]
@[simp] theorem sandStandby_pins (s : State) : (sandStandby s).pins = s.pins := by simp [sandStandby]
@[simp] theorem sandStandby_lines (s : State) : (sandStandby s).lines = s.lines := by simp [sandStandby]
@[simp] theorem sandStandby_ctl (s : State) : (sandStandby s).ctl = s.ctl := by simp [sandStandby]
@[simp] theorem sandStandby_cfg (s : State) : (sandStandby s).cfg = s.cfg := by simp [sandStandby]
@[simp] theorem sandStandby_ip (s : State) : (sandStandby s).ip = s.ip := by simp [sandStandby]
@[simp] theorem sandStandby_intent (s : State) : (sandStandby s).intent = s.intent := by simp [sandStandby]
@[simp] theorem sandStandby_axle (s : State) : (sandStandby s).axle = s.axle := by simp [sandStandby]
@[simp] theorem sandStandby_ref (s : State) : (sandStandby s).ref = s.ref := by simp [sandStandby]
@[simp] theorem sandStandby_ev (s : State) : (sandStandby s).ev = s.ev := by simp [sandStandby]
@[simp] theorem sandStandby_ceil (s : State) : (sandStandby s).ceil = s.ceil := by simp [sandStandby]
@[simp] theorem sandStandby_blend (s : State) : (sandStandby s).blend = s.blend := by simp [sandStandby]
@[simp] theorem sandStandby_chain (s : State) : (sandStandby s).chain = s.chain := by simp [sandStandby]
@[simp] theorem sandStandby_rep (s : State) : (sandStandby s).rep = s.rep := by simp [sandStandby]
@[simp] theorem sandStandby_rw (s : State) : (sandStandby s).rw = s.rw := by simp [sandStandby]
@[simp] theorem sandStandby_memory (s : State) : (sandStandby s).memory = s.memory := by simp [sandStandby]
@[simp] theorem sandStandby_draws (s : State) : (sandStandby s).draws = s.draws := by simp [sandStandby]
@[simp] theorem sandStandby_pending (s : State) : (sandStandby s).pending = s.pending := by simp [sandStandby]

/-! `sandRestart` changes sand only. -/

@[simp] theorem sandRestart_now (s : State) : (sandRestart s).now = s.now := rfl
@[simp] theorem sandRestart_pins (s : State) : (sandRestart s).pins = s.pins := rfl
@[simp] theorem sandRestart_lines (s : State) : (sandRestart s).lines = s.lines := rfl
@[simp] theorem sandRestart_ctl (s : State) : (sandRestart s).ctl = s.ctl := rfl
@[simp] theorem sandRestart_cfg (s : State) : (sandRestart s).cfg = s.cfg := rfl
@[simp] theorem sandRestart_ip (s : State) : (sandRestart s).ip = s.ip := rfl
@[simp] theorem sandRestart_intent (s : State) : (sandRestart s).intent = s.intent := rfl
@[simp] theorem sandRestart_axle (s : State) : (sandRestart s).axle = s.axle := rfl
@[simp] theorem sandRestart_ref (s : State) : (sandRestart s).ref = s.ref := rfl
@[simp] theorem sandRestart_ev (s : State) : (sandRestart s).ev = s.ev := rfl
@[simp] theorem sandRestart_ceil (s : State) : (sandRestart s).ceil = s.ceil := rfl
@[simp] theorem sandRestart_blend (s : State) : (sandRestart s).blend = s.blend := rfl
@[simp] theorem sandRestart_chain (s : State) : (sandRestart s).chain = s.chain := rfl
@[simp] theorem sandRestart_rep (s : State) : (sandRestart s).rep = s.rep := rfl
@[simp] theorem sandRestart_rw (s : State) : (sandRestart s).rw = s.rw := rfl
@[simp] theorem sandRestart_memory (s : State) : (sandRestart s).memory = s.memory := rfl
@[simp] theorem sandRestart_draws (s : State) : (sandRestart s).draws = s.draws := rfl
@[simp] theorem sandRestart_pending (s : State) : (sandRestart s).pending = s.pending := rfl

/-! `phaseEdge` changes now, pins, axle only. -/

@[simp] theorem phaseEdge_lines (i : Axle) (h : Phase) (b : Bool) (n : Nat) (s : State) : (phaseEdge i h b n s).lines = s.lines := rfl
@[simp] theorem phaseEdge_ctl (i : Axle) (h : Phase) (b : Bool) (n : Nat) (s : State) : (phaseEdge i h b n s).ctl = s.ctl := rfl
@[simp] theorem phaseEdge_cfg (i : Axle) (h : Phase) (b : Bool) (n : Nat) (s : State) : (phaseEdge i h b n s).cfg = s.cfg := rfl
@[simp] theorem phaseEdge_ip (i : Axle) (h : Phase) (b : Bool) (n : Nat) (s : State) : (phaseEdge i h b n s).ip = s.ip := rfl
@[simp] theorem phaseEdge_intent (i : Axle) (h : Phase) (b : Bool) (n : Nat) (s : State) : (phaseEdge i h b n s).intent = s.intent := rfl
@[simp] theorem phaseEdge_ref (i : Axle) (h : Phase) (b : Bool) (n : Nat) (s : State) : (phaseEdge i h b n s).ref = s.ref := rfl
@[simp] theorem phaseEdge_ev (i : Axle) (h : Phase) (b : Bool) (n : Nat) (s : State) : (phaseEdge i h b n s).ev = s.ev := rfl
@[simp] theorem phaseEdge_ceil (i : Axle) (h : Phase) (b : Bool) (n : Nat) (s : State) : (phaseEdge i h b n s).ceil = s.ceil := rfl
@[simp] theorem phaseEdge_blend (i : Axle) (h : Phase) (b : Bool) (n : Nat) (s : State) : (phaseEdge i h b n s).blend = s.blend := rfl
@[simp] theorem phaseEdge_sand (i : Axle) (h : Phase) (b : Bool) (n : Nat) (s : State) : (phaseEdge i h b n s).sand = s.sand := rfl
@[simp] theorem phaseEdge_chain (i : Axle) (h : Phase) (b : Bool) (n : Nat) (s : State) : (phaseEdge i h b n s).chain = s.chain := rfl
@[simp] theorem phaseEdge_rep (i : Axle) (h : Phase) (b : Bool) (n : Nat) (s : State) : (phaseEdge i h b n s).rep = s.rep := rfl
@[simp] theorem phaseEdge_rw (i : Axle) (h : Phase) (b : Bool) (n : Nat) (s : State) : (phaseEdge i h b n s).rw = s.rw := rfl
@[simp] theorem phaseEdge_memory (i : Axle) (h : Phase) (b : Bool) (n : Nat) (s : State) : (phaseEdge i h b n s).memory = s.memory := rfl
@[simp] theorem phaseEdge_draws (i : Axle) (h : Phase) (b : Bool) (n : Nat) (s : State) : (phaseEdge i h b n s).draws = s.draws := rfl
@[simp] theorem phaseEdge_pending (i : Axle) (h : Phase) (b : Bool) (n : Nat) (s : State) : (phaseEdge i h b n s).pending = s.pending := rfl

/-! `standstillEnd` changes axle only. -/

@[simp] theorem standstillEnd_now (i : Axle) (s : State) : (standstillEnd i s).now = s.now := rfl
@[simp] theorem standstillEnd_pins (i : Axle) (s : State) : (standstillEnd i s).pins = s.pins := rfl
@[simp] theorem standstillEnd_lines (i : Axle) (s : State) : (standstillEnd i s).lines = s.lines := rfl
@[simp] theorem standstillEnd_ctl (i : Axle) (s : State) : (standstillEnd i s).ctl = s.ctl := rfl
@[simp] theorem standstillEnd_cfg (i : Axle) (s : State) : (standstillEnd i s).cfg = s.cfg := rfl
@[simp] theorem standstillEnd_ip (i : Axle) (s : State) : (standstillEnd i s).ip = s.ip := rfl
@[simp] theorem standstillEnd_intent (i : Axle) (s : State) : (standstillEnd i s).intent = s.intent := rfl
@[simp] theorem standstillEnd_ref (i : Axle) (s : State) : (standstillEnd i s).ref = s.ref := rfl
@[simp] theorem standstillEnd_ev (i : Axle) (s : State) : (standstillEnd i s).ev = s.ev := rfl
@[simp] theorem standstillEnd_ceil (i : Axle) (s : State) : (standstillEnd i s).ceil = s.ceil := rfl
@[simp] theorem standstillEnd_blend (i : Axle) (s : State) : (standstillEnd i s).blend = s.blend := rfl
@[simp] theorem standstillEnd_sand (i : Axle) (s : State) : (standstillEnd i s).sand = s.sand := rfl
@[simp] theorem standstillEnd_chain (i : Axle) (s : State) : (standstillEnd i s).chain = s.chain := rfl
@[simp] theorem standstillEnd_rep (i : Axle) (s : State) : (standstillEnd i s).rep = s.rep := rfl
@[simp] theorem standstillEnd_rw (i : Axle) (s : State) : (standstillEnd i s).rw = s.rw := rfl
@[simp] theorem standstillEnd_memory (i : Axle) (s : State) : (standstillEnd i s).memory = s.memory := rfl
@[simp] theorem standstillEnd_draws (i : Axle) (s : State) : (standstillEnd i s).draws = s.draws := rfl
@[simp] theorem standstillEnd_pending (i : Axle) (s : State) : (standstillEnd i s).pending = s.pending := rfl

/-! `latchAxles` changes axle, rep only. -/

@[simp] theorem latchAxles_now (s : State) : (latchAxles s).now = s.now := rfl
@[simp] theorem latchAxles_pins (s : State) : (latchAxles s).pins = s.pins := rfl
@[simp] theorem latchAxles_lines (s : State) : (latchAxles s).lines = s.lines := rfl
@[simp] theorem latchAxles_ctl (s : State) : (latchAxles s).ctl = s.ctl := rfl
@[simp] theorem latchAxles_cfg (s : State) : (latchAxles s).cfg = s.cfg := rfl
@[simp] theorem latchAxles_ip (s : State) : (latchAxles s).ip = s.ip := rfl
@[simp] theorem latchAxles_intent (s : State) : (latchAxles s).intent = s.intent := rfl
@[simp] theorem latchAxles_ref (s : State) : (latchAxles s).ref = s.ref := rfl
@[simp] theorem latchAxles_ev (s : State) : (latchAxles s).ev = s.ev := rfl
@[simp] theorem latchAxles_ceil (s : State) : (latchAxles s).ceil = s.ceil := rfl
@[simp] theorem latchAxles_blend (s : State) : (latchAxles s).blend = s.blend := rfl
@[simp] theorem latchAxles_sand (s : State) : (latchAxles s).sand = s.sand := rfl
@[simp] theorem latchAxles_chain (s : State) : (latchAxles s).chain = s.chain := rfl
@[simp] theorem latchAxles_rw (s : State) : (latchAxles s).rw = s.rw := rfl
@[simp] theorem latchAxles_memory (s : State) : (latchAxles s).memory = s.memory := rfl
@[simp] theorem latchAxles_draws (s : State) : (latchAxles s).draws = s.draws := rfl
@[simp] theorem latchAxles_pending (s : State) : (latchAxles s).pending = s.pending := rfl

/-! `axleStandby` changes axle only. -/

@[simp] theorem axleStandby_now (s : State) : (axleStandby s).now = s.now := rfl
@[simp] theorem axleStandby_pins (s : State) : (axleStandby s).pins = s.pins := rfl
@[simp] theorem axleStandby_lines (s : State) : (axleStandby s).lines = s.lines := rfl
@[simp] theorem axleStandby_ctl (s : State) : (axleStandby s).ctl = s.ctl := rfl
@[simp] theorem axleStandby_cfg (s : State) : (axleStandby s).cfg = s.cfg := rfl
@[simp] theorem axleStandby_ip (s : State) : (axleStandby s).ip = s.ip := rfl
@[simp] theorem axleStandby_intent (s : State) : (axleStandby s).intent = s.intent := rfl
@[simp] theorem axleStandby_ref (s : State) : (axleStandby s).ref = s.ref := rfl
@[simp] theorem axleStandby_ev (s : State) : (axleStandby s).ev = s.ev := rfl
@[simp] theorem axleStandby_ceil (s : State) : (axleStandby s).ceil = s.ceil := rfl
@[simp] theorem axleStandby_blend (s : State) : (axleStandby s).blend = s.blend := rfl
@[simp] theorem axleStandby_sand (s : State) : (axleStandby s).sand = s.sand := rfl
@[simp] theorem axleStandby_chain (s : State) : (axleStandby s).chain = s.chain := rfl
@[simp] theorem axleStandby_rep (s : State) : (axleStandby s).rep = s.rep := rfl
@[simp] theorem axleStandby_rw (s : State) : (axleStandby s).rw = s.rw := rfl
@[simp] theorem axleStandby_memory (s : State) : (axleStandby s).memory = s.memory := rfl
@[simp] theorem axleStandby_draws (s : State) : (axleStandby s).draws = s.draws := rfl
@[simp] theorem axleStandby_pending (s : State) : (axleStandby s).pending = s.pending := rfl

/-! `axleWake` changes axle only. -/

@[simp] theorem axleWake_now (s : State) : (axleWake s).now = s.now := rfl
@[simp] theorem axleWake_pins (s : State) : (axleWake s).pins = s.pins := rfl
@[simp] theorem axleWake_lines (s : State) : (axleWake s).lines = s.lines := rfl
@[simp] theorem axleWake_ctl (s : State) : (axleWake s).ctl = s.ctl := rfl
@[simp] theorem axleWake_cfg (s : State) : (axleWake s).cfg = s.cfg := rfl
@[simp] theorem axleWake_ip (s : State) : (axleWake s).ip = s.ip := rfl
@[simp] theorem axleWake_intent (s : State) : (axleWake s).intent = s.intent := rfl
@[simp] theorem axleWake_ref (s : State) : (axleWake s).ref = s.ref := rfl
@[simp] theorem axleWake_ev (s : State) : (axleWake s).ev = s.ev := rfl
@[simp] theorem axleWake_ceil (s : State) : (axleWake s).ceil = s.ceil := rfl
@[simp] theorem axleWake_blend (s : State) : (axleWake s).blend = s.blend := rfl
@[simp] theorem axleWake_sand (s : State) : (axleWake s).sand = s.sand := rfl
@[simp] theorem axleWake_chain (s : State) : (axleWake s).chain = s.chain := rfl
@[simp] theorem axleWake_rep (s : State) : (axleWake s).rep = s.rep := rfl
@[simp] theorem axleWake_rw (s : State) : (axleWake s).rw = s.rw := rfl
@[simp] theorem axleWake_memory (s : State) : (axleWake s).memory = s.memory := rfl
@[simp] theorem axleWake_draws (s : State) : (axleWake s).draws = s.draws := rfl
@[simp] theorem axleWake_pending (s : State) : (axleWake s).pending = s.pending := rfl

/-! `axleRestart` changes axle only. -/

@[simp] theorem axleRestart_now (s : State) : (axleRestart s).now = s.now := rfl
@[simp] theorem axleRestart_pins (s : State) : (axleRestart s).pins = s.pins := rfl
@[simp] theorem axleRestart_lines (s : State) : (axleRestart s).lines = s.lines := rfl
@[simp] theorem axleRestart_ctl (s : State) : (axleRestart s).ctl = s.ctl := rfl
@[simp] theorem axleRestart_cfg (s : State) : (axleRestart s).cfg = s.cfg := rfl
@[simp] theorem axleRestart_ip (s : State) : (axleRestart s).ip = s.ip := rfl
@[simp] theorem axleRestart_intent (s : State) : (axleRestart s).intent = s.intent := rfl
@[simp] theorem axleRestart_ref (s : State) : (axleRestart s).ref = s.ref := rfl
@[simp] theorem axleRestart_ev (s : State) : (axleRestart s).ev = s.ev := rfl
@[simp] theorem axleRestart_ceil (s : State) : (axleRestart s).ceil = s.ceil := rfl
@[simp] theorem axleRestart_blend (s : State) : (axleRestart s).blend = s.blend := rfl
@[simp] theorem axleRestart_sand (s : State) : (axleRestart s).sand = s.sand := rfl
@[simp] theorem axleRestart_chain (s : State) : (axleRestart s).chain = s.chain := rfl
@[simp] theorem axleRestart_rep (s : State) : (axleRestart s).rep = s.rep := rfl
@[simp] theorem axleRestart_rw (s : State) : (axleRestart s).rw = s.rw := rfl
@[simp] theorem axleRestart_memory (s : State) : (axleRestart s).memory = s.memory := rfl
@[simp] theorem axleRestart_draws (s : State) : (axleRestart s).draws = s.draws := rfl
@[simp] theorem axleRestart_pending (s : State) : (axleRestart s).pending = s.pending := rfl

/-! `axleSetupEntry` changes axle only. -/

@[simp] theorem axleSetupEntry_now (s : State) : (axleSetupEntry s).now = s.now := rfl
@[simp] theorem axleSetupEntry_pins (s : State) : (axleSetupEntry s).pins = s.pins := rfl
@[simp] theorem axleSetupEntry_lines (s : State) : (axleSetupEntry s).lines = s.lines := rfl
@[simp] theorem axleSetupEntry_ctl (s : State) : (axleSetupEntry s).ctl = s.ctl := rfl
@[simp] theorem axleSetupEntry_cfg (s : State) : (axleSetupEntry s).cfg = s.cfg := rfl
@[simp] theorem axleSetupEntry_ip (s : State) : (axleSetupEntry s).ip = s.ip := rfl
@[simp] theorem axleSetupEntry_intent (s : State) : (axleSetupEntry s).intent = s.intent := rfl
@[simp] theorem axleSetupEntry_ref (s : State) : (axleSetupEntry s).ref = s.ref := rfl
@[simp] theorem axleSetupEntry_ev (s : State) : (axleSetupEntry s).ev = s.ev := rfl
@[simp] theorem axleSetupEntry_ceil (s : State) : (axleSetupEntry s).ceil = s.ceil := rfl
@[simp] theorem axleSetupEntry_blend (s : State) : (axleSetupEntry s).blend = s.blend := rfl
@[simp] theorem axleSetupEntry_sand (s : State) : (axleSetupEntry s).sand = s.sand := rfl
@[simp] theorem axleSetupEntry_chain (s : State) : (axleSetupEntry s).chain = s.chain := rfl
@[simp] theorem axleSetupEntry_rep (s : State) : (axleSetupEntry s).rep = s.rep := rfl
@[simp] theorem axleSetupEntry_rw (s : State) : (axleSetupEntry s).rw = s.rw := rfl
@[simp] theorem axleSetupEntry_memory (s : State) : (axleSetupEntry s).memory = s.memory := rfl
@[simp] theorem axleSetupEntry_draws (s : State) : (axleSetupEntry s).draws = s.draws := rfl
@[simp] theorem axleSetupEntry_pending (s : State) : (axleSetupEntry s).pending = s.pending := rfl

/-! `channelWritten` changes axle only. -/

@[simp] theorem channelWritten_now (i : Axle) (s : State) : (channelWritten i s).now = s.now := rfl
@[simp] theorem channelWritten_pins (i : Axle) (s : State) : (channelWritten i s).pins = s.pins := rfl
@[simp] theorem channelWritten_lines (i : Axle) (s : State) : (channelWritten i s).lines = s.lines := rfl
@[simp] theorem channelWritten_ctl (i : Axle) (s : State) : (channelWritten i s).ctl = s.ctl := rfl
@[simp] theorem channelWritten_cfg (i : Axle) (s : State) : (channelWritten i s).cfg = s.cfg := rfl
@[simp] theorem channelWritten_ip (i : Axle) (s : State) : (channelWritten i s).ip = s.ip := rfl
@[simp] theorem channelWritten_intent (i : Axle) (s : State) : (channelWritten i s).intent = s.intent := rfl
@[simp] theorem channelWritten_ref (i : Axle) (s : State) : (channelWritten i s).ref = s.ref := rfl
@[simp] theorem channelWritten_ev (i : Axle) (s : State) : (channelWritten i s).ev = s.ev := rfl
@[simp] theorem channelWritten_ceil (i : Axle) (s : State) : (channelWritten i s).ceil = s.ceil := rfl
@[simp] theorem channelWritten_blend (i : Axle) (s : State) : (channelWritten i s).blend = s.blend := rfl
@[simp] theorem channelWritten_sand (i : Axle) (s : State) : (channelWritten i s).sand = s.sand := rfl
@[simp] theorem channelWritten_chain (i : Axle) (s : State) : (channelWritten i s).chain = s.chain := rfl
@[simp] theorem channelWritten_rep (i : Axle) (s : State) : (channelWritten i s).rep = s.rep := rfl
@[simp] theorem channelWritten_rw (i : Axle) (s : State) : (channelWritten i s).rw = s.rw := rfl
@[simp] theorem channelWritten_memory (i : Axle) (s : State) : (channelWritten i s).memory = s.memory := rfl
@[simp] theorem channelWritten_draws (i : Axle) (s : State) : (channelWritten i s).draws = s.draws := rfl
@[simp] theorem channelWritten_pending (i : Axle) (s : State) : (channelWritten i s).pending = s.pending := rfl

/-! `referenceStage` changes ref, rep only. -/

@[simp] theorem referenceStage_now (x : PerAxle Sample) (f : Option Frame) (s : State) : (referenceStage x f s).now = s.now := by simp [referenceStage]
@[simp] theorem referenceStage_pins (x : PerAxle Sample) (f : Option Frame) (s : State) : (referenceStage x f s).pins = s.pins := by simp [referenceStage]
@[simp] theorem referenceStage_lines (x : PerAxle Sample) (f : Option Frame) (s : State) : (referenceStage x f s).lines = s.lines := by simp [referenceStage]
@[simp] theorem referenceStage_ctl (x : PerAxle Sample) (f : Option Frame) (s : State) : (referenceStage x f s).ctl = s.ctl := by simp [referenceStage]
@[simp] theorem referenceStage_cfg (x : PerAxle Sample) (f : Option Frame) (s : State) : (referenceStage x f s).cfg = s.cfg := by simp [referenceStage]
@[simp] theorem referenceStage_ip (x : PerAxle Sample) (f : Option Frame) (s : State) : (referenceStage x f s).ip = s.ip := by simp [referenceStage]
@[simp] theorem referenceStage_intent (x : PerAxle Sample) (f : Option Frame) (s : State) : (referenceStage x f s).intent = s.intent := by simp [referenceStage]
@[simp] theorem referenceStage_axle (x : PerAxle Sample) (f : Option Frame) (s : State) : (referenceStage x f s).axle = s.axle := by simp [referenceStage]
@[simp] theorem referenceStage_ev (x : PerAxle Sample) (f : Option Frame) (s : State) : (referenceStage x f s).ev = s.ev := by simp [referenceStage]
@[simp] theorem referenceStage_ceil (x : PerAxle Sample) (f : Option Frame) (s : State) : (referenceStage x f s).ceil = s.ceil := by simp [referenceStage]
@[simp] theorem referenceStage_blend (x : PerAxle Sample) (f : Option Frame) (s : State) : (referenceStage x f s).blend = s.blend := by simp [referenceStage]
@[simp] theorem referenceStage_sand (x : PerAxle Sample) (f : Option Frame) (s : State) : (referenceStage x f s).sand = s.sand := by simp [referenceStage]
@[simp] theorem referenceStage_chain (x : PerAxle Sample) (f : Option Frame) (s : State) : (referenceStage x f s).chain = s.chain := by simp [referenceStage]
@[simp] theorem referenceStage_rw (x : PerAxle Sample) (f : Option Frame) (s : State) : (referenceStage x f s).rw = s.rw := by simp [referenceStage]
@[simp] theorem referenceStage_memory (x : PerAxle Sample) (f : Option Frame) (s : State) : (referenceStage x f s).memory = s.memory := by simp [referenceStage]
@[simp] theorem referenceStage_draws (x : PerAxle Sample) (f : Option Frame) (s : State) : (referenceStage x f s).draws = s.draws := by simp [referenceStage]
@[simp] theorem referenceStage_pending (x : PerAxle Sample) (f : Option Frame) (s : State) : (referenceStage x f s).pending = s.pending := by simp [referenceStage]

/-! `referenceModeTaken` changes ref only. -/

@[simp] theorem referenceModeTaken_now (d : Direction) (s : State) : (referenceModeTaken d s).now = s.now := rfl
@[simp] theorem referenceModeTaken_pins (d : Direction) (s : State) : (referenceModeTaken d s).pins = s.pins := rfl
@[simp] theorem referenceModeTaken_lines (d : Direction) (s : State) : (referenceModeTaken d s).lines = s.lines := rfl
@[simp] theorem referenceModeTaken_ctl (d : Direction) (s : State) : (referenceModeTaken d s).ctl = s.ctl := rfl
@[simp] theorem referenceModeTaken_cfg (d : Direction) (s : State) : (referenceModeTaken d s).cfg = s.cfg := rfl
@[simp] theorem referenceModeTaken_ip (d : Direction) (s : State) : (referenceModeTaken d s).ip = s.ip := rfl
@[simp] theorem referenceModeTaken_intent (d : Direction) (s : State) : (referenceModeTaken d s).intent = s.intent := rfl
@[simp] theorem referenceModeTaken_axle (d : Direction) (s : State) : (referenceModeTaken d s).axle = s.axle := rfl
@[simp] theorem referenceModeTaken_ev (d : Direction) (s : State) : (referenceModeTaken d s).ev = s.ev := rfl
@[simp] theorem referenceModeTaken_ceil (d : Direction) (s : State) : (referenceModeTaken d s).ceil = s.ceil := rfl
@[simp] theorem referenceModeTaken_blend (d : Direction) (s : State) : (referenceModeTaken d s).blend = s.blend := rfl
@[simp] theorem referenceModeTaken_sand (d : Direction) (s : State) : (referenceModeTaken d s).sand = s.sand := rfl
@[simp] theorem referenceModeTaken_chain (d : Direction) (s : State) : (referenceModeTaken d s).chain = s.chain := rfl
@[simp] theorem referenceModeTaken_rep (d : Direction) (s : State) : (referenceModeTaken d s).rep = s.rep := rfl
@[simp] theorem referenceModeTaken_rw (d : Direction) (s : State) : (referenceModeTaken d s).rw = s.rw := rfl
@[simp] theorem referenceModeTaken_memory (d : Direction) (s : State) : (referenceModeTaken d s).memory = s.memory := rfl
@[simp] theorem referenceModeTaken_draws (d : Direction) (s : State) : (referenceModeTaken d s).draws = s.draws := rfl
@[simp] theorem referenceModeTaken_pending (d : Direction) (s : State) : (referenceModeTaken d s).pending = s.pending := rfl

/-! `restartHold` changes ref only. -/

@[simp] theorem restartHold_now (s : State) : (restartHold s).now = s.now := rfl
@[simp] theorem restartHold_pins (s : State) : (restartHold s).pins = s.pins := rfl
@[simp] theorem restartHold_lines (s : State) : (restartHold s).lines = s.lines := rfl
@[simp] theorem restartHold_ctl (s : State) : (restartHold s).ctl = s.ctl := rfl
@[simp] theorem restartHold_cfg (s : State) : (restartHold s).cfg = s.cfg := rfl
@[simp] theorem restartHold_ip (s : State) : (restartHold s).ip = s.ip := rfl
@[simp] theorem restartHold_intent (s : State) : (restartHold s).intent = s.intent := rfl
@[simp] theorem restartHold_axle (s : State) : (restartHold s).axle = s.axle := rfl
@[simp] theorem restartHold_ev (s : State) : (restartHold s).ev = s.ev := rfl
@[simp] theorem restartHold_ceil (s : State) : (restartHold s).ceil = s.ceil := rfl
@[simp] theorem restartHold_blend (s : State) : (restartHold s).blend = s.blend := rfl
@[simp] theorem restartHold_sand (s : State) : (restartHold s).sand = s.sand := rfl
@[simp] theorem restartHold_chain (s : State) : (restartHold s).chain = s.chain := rfl
@[simp] theorem restartHold_rep (s : State) : (restartHold s).rep = s.rep := rfl
@[simp] theorem restartHold_rw (s : State) : (restartHold s).rw = s.rw := rfl
@[simp] theorem restartHold_memory (s : State) : (restartHold s).memory = s.memory := rfl
@[simp] theorem restartHold_draws (s : State) : (restartHold s).draws = s.draws := rfl
@[simp] theorem restartHold_pending (s : State) : (restartHold s).pending = s.pending := rfl

/-! `referenceStandby` changes ref only. -/

@[simp] theorem referenceStandby_now (s : State) : (referenceStandby s).now = s.now := rfl
@[simp] theorem referenceStandby_pins (s : State) : (referenceStandby s).pins = s.pins := rfl
@[simp] theorem referenceStandby_lines (s : State) : (referenceStandby s).lines = s.lines := rfl
@[simp] theorem referenceStandby_ctl (s : State) : (referenceStandby s).ctl = s.ctl := rfl
@[simp] theorem referenceStandby_cfg (s : State) : (referenceStandby s).cfg = s.cfg := rfl
@[simp] theorem referenceStandby_ip (s : State) : (referenceStandby s).ip = s.ip := rfl
@[simp] theorem referenceStandby_intent (s : State) : (referenceStandby s).intent = s.intent := rfl
@[simp] theorem referenceStandby_axle (s : State) : (referenceStandby s).axle = s.axle := rfl
@[simp] theorem referenceStandby_ev (s : State) : (referenceStandby s).ev = s.ev := rfl
@[simp] theorem referenceStandby_ceil (s : State) : (referenceStandby s).ceil = s.ceil := rfl
@[simp] theorem referenceStandby_blend (s : State) : (referenceStandby s).blend = s.blend := rfl
@[simp] theorem referenceStandby_sand (s : State) : (referenceStandby s).sand = s.sand := rfl
@[simp] theorem referenceStandby_chain (s : State) : (referenceStandby s).chain = s.chain := rfl
@[simp] theorem referenceStandby_rep (s : State) : (referenceStandby s).rep = s.rep := rfl
@[simp] theorem referenceStandby_rw (s : State) : (referenceStandby s).rw = s.rw := rfl
@[simp] theorem referenceStandby_memory (s : State) : (referenceStandby s).memory = s.memory := rfl
@[simp] theorem referenceStandby_draws (s : State) : (referenceStandby s).draws = s.draws := rfl
@[simp] theorem referenceStandby_pending (s : State) : (referenceStandby s).pending = s.pending := rfl

/-! `referenceRestart` changes ref only. -/

@[simp] theorem referenceRestart_now (s : State) : (referenceRestart s).now = s.now := rfl
@[simp] theorem referenceRestart_pins (s : State) : (referenceRestart s).pins = s.pins := rfl
@[simp] theorem referenceRestart_lines (s : State) : (referenceRestart s).lines = s.lines := rfl
@[simp] theorem referenceRestart_ctl (s : State) : (referenceRestart s).ctl = s.ctl := rfl
@[simp] theorem referenceRestart_cfg (s : State) : (referenceRestart s).cfg = s.cfg := rfl
@[simp] theorem referenceRestart_ip (s : State) : (referenceRestart s).ip = s.ip := rfl
@[simp] theorem referenceRestart_intent (s : State) : (referenceRestart s).intent = s.intent := rfl
@[simp] theorem referenceRestart_axle (s : State) : (referenceRestart s).axle = s.axle := rfl
@[simp] theorem referenceRestart_ev (s : State) : (referenceRestart s).ev = s.ev := rfl
@[simp] theorem referenceRestart_ceil (s : State) : (referenceRestart s).ceil = s.ceil := rfl
@[simp] theorem referenceRestart_blend (s : State) : (referenceRestart s).blend = s.blend := rfl
@[simp] theorem referenceRestart_sand (s : State) : (referenceRestart s).sand = s.sand := rfl
@[simp] theorem referenceRestart_chain (s : State) : (referenceRestart s).chain = s.chain := rfl
@[simp] theorem referenceRestart_rep (s : State) : (referenceRestart s).rep = s.rep := rfl
@[simp] theorem referenceRestart_rw (s : State) : (referenceRestart s).rw = s.rw := rfl
@[simp] theorem referenceRestart_memory (s : State) : (referenceRestart s).memory = s.memory := rfl
@[simp] theorem referenceRestart_draws (s : State) : (referenceRestart s).draws = s.draws := rfl
@[simp] theorem referenceRestart_pending (s : State) : (referenceRestart s).pending = s.pending := rfl

/-! `adhesionStages` changes ev, rep only. -/

@[simp] theorem adhesionStages_now (x : PerAxle Sample) (f : Option Frame) (s : State) : (adhesionStages x f s).now = s.now := rfl
@[simp] theorem adhesionStages_pins (x : PerAxle Sample) (f : Option Frame) (s : State) : (adhesionStages x f s).pins = s.pins := rfl
@[simp] theorem adhesionStages_lines (x : PerAxle Sample) (f : Option Frame) (s : State) : (adhesionStages x f s).lines = s.lines := rfl
@[simp] theorem adhesionStages_ctl (x : PerAxle Sample) (f : Option Frame) (s : State) : (adhesionStages x f s).ctl = s.ctl := rfl
@[simp] theorem adhesionStages_cfg (x : PerAxle Sample) (f : Option Frame) (s : State) : (adhesionStages x f s).cfg = s.cfg := rfl
@[simp] theorem adhesionStages_ip (x : PerAxle Sample) (f : Option Frame) (s : State) : (adhesionStages x f s).ip = s.ip := rfl
@[simp] theorem adhesionStages_intent (x : PerAxle Sample) (f : Option Frame) (s : State) : (adhesionStages x f s).intent = s.intent := rfl
@[simp] theorem adhesionStages_axle (x : PerAxle Sample) (f : Option Frame) (s : State) : (adhesionStages x f s).axle = s.axle := rfl
@[simp] theorem adhesionStages_ref (x : PerAxle Sample) (f : Option Frame) (s : State) : (adhesionStages x f s).ref = s.ref := rfl
@[simp] theorem adhesionStages_ceil (x : PerAxle Sample) (f : Option Frame) (s : State) : (adhesionStages x f s).ceil = s.ceil := rfl
@[simp] theorem adhesionStages_blend (x : PerAxle Sample) (f : Option Frame) (s : State) : (adhesionStages x f s).blend = s.blend := rfl
@[simp] theorem adhesionStages_sand (x : PerAxle Sample) (f : Option Frame) (s : State) : (adhesionStages x f s).sand = s.sand := rfl
@[simp] theorem adhesionStages_chain (x : PerAxle Sample) (f : Option Frame) (s : State) : (adhesionStages x f s).chain = s.chain := rfl
@[simp] theorem adhesionStages_rw (x : PerAxle Sample) (f : Option Frame) (s : State) : (adhesionStages x f s).rw = s.rw := rfl
@[simp] theorem adhesionStages_memory (x : PerAxle Sample) (f : Option Frame) (s : State) : (adhesionStages x f s).memory = s.memory := rfl
@[simp] theorem adhesionStages_draws (x : PerAxle Sample) (f : Option Frame) (s : State) : (adhesionStages x f s).draws = s.draws := rfl
@[simp] theorem adhesionStages_pending (x : PerAxle Sample) (f : Option Frame) (s : State) : (adhesionStages x f s).pending = s.pending := rfl

/-! `recordEfforts` changes ceil only. -/

@[simp] theorem recordEfforts_now (s : State) : (recordEfforts s).now = s.now := rfl
@[simp] theorem recordEfforts_pins (s : State) : (recordEfforts s).pins = s.pins := rfl
@[simp] theorem recordEfforts_lines (s : State) : (recordEfforts s).lines = s.lines := rfl
@[simp] theorem recordEfforts_ctl (s : State) : (recordEfforts s).ctl = s.ctl := rfl
@[simp] theorem recordEfforts_cfg (s : State) : (recordEfforts s).cfg = s.cfg := rfl
@[simp] theorem recordEfforts_ip (s : State) : (recordEfforts s).ip = s.ip := rfl
@[simp] theorem recordEfforts_intent (s : State) : (recordEfforts s).intent = s.intent := rfl
@[simp] theorem recordEfforts_axle (s : State) : (recordEfforts s).axle = s.axle := rfl
@[simp] theorem recordEfforts_ref (s : State) : (recordEfforts s).ref = s.ref := rfl
@[simp] theorem recordEfforts_ev (s : State) : (recordEfforts s).ev = s.ev := rfl
@[simp] theorem recordEfforts_blend (s : State) : (recordEfforts s).blend = s.blend := rfl
@[simp] theorem recordEfforts_sand (s : State) : (recordEfforts s).sand = s.sand := rfl
@[simp] theorem recordEfforts_chain (s : State) : (recordEfforts s).chain = s.chain := rfl
@[simp] theorem recordEfforts_rep (s : State) : (recordEfforts s).rep = s.rep := rfl
@[simp] theorem recordEfforts_rw (s : State) : (recordEfforts s).rw = s.rw := rfl
@[simp] theorem recordEfforts_memory (s : State) : (recordEfforts s).memory = s.memory := rfl
@[simp] theorem recordEfforts_draws (s : State) : (recordEfforts s).draws = s.draws := rfl
@[simp] theorem recordEfforts_pending (s : State) : (recordEfforts s).pending = s.pending := rfl

/-! `takeFrame` changes chain only. -/

@[simp] theorem takeFrame_now (s : State) : (takeFrame s).now = s.now := rfl
@[simp] theorem takeFrame_pins (s : State) : (takeFrame s).pins = s.pins := rfl
@[simp] theorem takeFrame_lines (s : State) : (takeFrame s).lines = s.lines := rfl
@[simp] theorem takeFrame_ctl (s : State) : (takeFrame s).ctl = s.ctl := rfl
@[simp] theorem takeFrame_cfg (s : State) : (takeFrame s).cfg = s.cfg := rfl
@[simp] theorem takeFrame_ip (s : State) : (takeFrame s).ip = s.ip := rfl
@[simp] theorem takeFrame_intent (s : State) : (takeFrame s).intent = s.intent := rfl
@[simp] theorem takeFrame_axle (s : State) : (takeFrame s).axle = s.axle := rfl
@[simp] theorem takeFrame_ref (s : State) : (takeFrame s).ref = s.ref := rfl
@[simp] theorem takeFrame_ev (s : State) : (takeFrame s).ev = s.ev := rfl
@[simp] theorem takeFrame_ceil (s : State) : (takeFrame s).ceil = s.ceil := rfl
@[simp] theorem takeFrame_blend (s : State) : (takeFrame s).blend = s.blend := rfl
@[simp] theorem takeFrame_sand (s : State) : (takeFrame s).sand = s.sand := rfl
@[simp] theorem takeFrame_rep (s : State) : (takeFrame s).rep = s.rep := rfl
@[simp] theorem takeFrame_rw (s : State) : (takeFrame s).rw = s.rw := rfl
@[simp] theorem takeFrame_memory (s : State) : (takeFrame s).memory = s.memory := rfl
@[simp] theorem takeFrame_draws (s : State) : (takeFrame s).draws = s.draws := rfl
@[simp] theorem takeFrame_pending (s : State) : (takeFrame s).pending = s.pending := rfl

/-! `restartPeriod` changes ev only. -/

@[simp] theorem restartPeriod_now (s : State) : (restartPeriod s).now = s.now := rfl
@[simp] theorem restartPeriod_pins (s : State) : (restartPeriod s).pins = s.pins := rfl
@[simp] theorem restartPeriod_lines (s : State) : (restartPeriod s).lines = s.lines := rfl
@[simp] theorem restartPeriod_ctl (s : State) : (restartPeriod s).ctl = s.ctl := rfl
@[simp] theorem restartPeriod_cfg (s : State) : (restartPeriod s).cfg = s.cfg := rfl
@[simp] theorem restartPeriod_ip (s : State) : (restartPeriod s).ip = s.ip := rfl
@[simp] theorem restartPeriod_intent (s : State) : (restartPeriod s).intent = s.intent := rfl
@[simp] theorem restartPeriod_axle (s : State) : (restartPeriod s).axle = s.axle := rfl
@[simp] theorem restartPeriod_ref (s : State) : (restartPeriod s).ref = s.ref := rfl
@[simp] theorem restartPeriod_ceil (s : State) : (restartPeriod s).ceil = s.ceil := rfl
@[simp] theorem restartPeriod_blend (s : State) : (restartPeriod s).blend = s.blend := rfl
@[simp] theorem restartPeriod_sand (s : State) : (restartPeriod s).sand = s.sand := rfl
@[simp] theorem restartPeriod_chain (s : State) : (restartPeriod s).chain = s.chain := rfl
@[simp] theorem restartPeriod_rep (s : State) : (restartPeriod s).rep = s.rep := rfl
@[simp] theorem restartPeriod_rw (s : State) : (restartPeriod s).rw = s.rw := rfl
@[simp] theorem restartPeriod_memory (s : State) : (restartPeriod s).memory = s.memory := rfl
@[simp] theorem restartPeriod_draws (s : State) : (restartPeriod s).draws = s.draws := rfl
@[simp] theorem restartPeriod_pending (s : State) : (restartPeriod s).pending = s.pending := rfl

/-! `evaluate` changes axle, rep, ceil, ref, chain, ev only. -/

@[simp] theorem evaluate_now (s : State) : (evaluate s).now = s.now := by simp [evaluate]
@[simp] theorem evaluate_pins (s : State) : (evaluate s).pins = s.pins := by simp [evaluate]
@[simp] theorem evaluate_lines (s : State) : (evaluate s).lines = s.lines := by simp [evaluate]
@[simp] theorem evaluate_ctl (s : State) : (evaluate s).ctl = s.ctl := by simp [evaluate]
@[simp] theorem evaluate_cfg (s : State) : (evaluate s).cfg = s.cfg := by simp [evaluate]
@[simp] theorem evaluate_ip (s : State) : (evaluate s).ip = s.ip := by simp [evaluate]
@[simp] theorem evaluate_intent (s : State) : (evaluate s).intent = s.intent := by simp [evaluate]
@[simp] theorem evaluate_blend (s : State) : (evaluate s).blend = s.blend := by simp [evaluate]
@[simp] theorem evaluate_sand (s : State) : (evaluate s).sand = s.sand := by simp [evaluate]
@[simp] theorem evaluate_rw (s : State) : (evaluate s).rw = s.rw := by simp [evaluate]
@[simp] theorem evaluate_memory (s : State) : (evaluate s).memory = s.memory := by simp [evaluate]
@[simp] theorem evaluate_draws (s : State) : (evaluate s).draws = s.draws := by simp [evaluate]
@[simp] theorem evaluate_pending (s : State) : (evaluate s).pending = s.pending := by simp [evaluate]

/-! `periodEnd` changes axle, rep, ceil, ref, chain, ev only. -/

@[simp] theorem periodEnd_now (s : State) : (periodEnd s).now = s.now := by
  simp only [periodEnd]; (repeat' split) <;> simp
@[simp] theorem periodEnd_pins (s : State) : (periodEnd s).pins = s.pins := by
  simp only [periodEnd]; (repeat' split) <;> simp
@[simp] theorem periodEnd_lines (s : State) : (periodEnd s).lines = s.lines := by
  simp only [periodEnd]; (repeat' split) <;> simp
@[simp] theorem periodEnd_ctl (s : State) : (periodEnd s).ctl = s.ctl := by
  simp only [periodEnd]; (repeat' split) <;> simp
@[simp] theorem periodEnd_cfg (s : State) : (periodEnd s).cfg = s.cfg := by
  simp only [periodEnd]; (repeat' split) <;> simp
@[simp] theorem periodEnd_ip (s : State) : (periodEnd s).ip = s.ip := by
  simp only [periodEnd]; (repeat' split) <;> simp
@[simp] theorem periodEnd_intent (s : State) : (periodEnd s).intent = s.intent := by
  simp only [periodEnd]; (repeat' split) <;> simp
@[simp] theorem periodEnd_blend (s : State) : (periodEnd s).blend = s.blend := by
  simp only [periodEnd]; (repeat' split) <;> simp
@[simp] theorem periodEnd_sand (s : State) : (periodEnd s).sand = s.sand := by
  simp only [periodEnd]; (repeat' split) <;> simp
@[simp] theorem periodEnd_rw (s : State) : (periodEnd s).rw = s.rw := by
  simp only [periodEnd]; (repeat' split) <;> simp
@[simp] theorem periodEnd_memory (s : State) : (periodEnd s).memory = s.memory := by
  simp only [periodEnd]; (repeat' split) <;> simp
@[simp] theorem periodEnd_draws (s : State) : (periodEnd s).draws = s.draws := by
  simp only [periodEnd]; (repeat' split) <;> simp
@[simp] theorem periodEnd_pending (s : State) : (periodEnd s).pending = s.pending := by
  simp only [periodEnd]; (repeat' split) <;> simp

/-! `publishRecords` changes ev only. -/

@[simp] theorem publishRecords_now (e : Evaluation) (s : State) : (publishRecords e s).now = s.now := rfl
@[simp] theorem publishRecords_pins (e : Evaluation) (s : State) : (publishRecords e s).pins = s.pins := rfl
@[simp] theorem publishRecords_lines (e : Evaluation) (s : State) : (publishRecords e s).lines = s.lines := rfl
@[simp] theorem publishRecords_ctl (e : Evaluation) (s : State) : (publishRecords e s).ctl = s.ctl := rfl
@[simp] theorem publishRecords_cfg (e : Evaluation) (s : State) : (publishRecords e s).cfg = s.cfg := rfl
@[simp] theorem publishRecords_ip (e : Evaluation) (s : State) : (publishRecords e s).ip = s.ip := rfl
@[simp] theorem publishRecords_intent (e : Evaluation) (s : State) : (publishRecords e s).intent = s.intent := rfl
@[simp] theorem publishRecords_axle (e : Evaluation) (s : State) : (publishRecords e s).axle = s.axle := rfl
@[simp] theorem publishRecords_ref (e : Evaluation) (s : State) : (publishRecords e s).ref = s.ref := rfl
@[simp] theorem publishRecords_ceil (e : Evaluation) (s : State) : (publishRecords e s).ceil = s.ceil := rfl
@[simp] theorem publishRecords_blend (e : Evaluation) (s : State) : (publishRecords e s).blend = s.blend := rfl
@[simp] theorem publishRecords_sand (e : Evaluation) (s : State) : (publishRecords e s).sand = s.sand := rfl
@[simp] theorem publishRecords_chain (e : Evaluation) (s : State) : (publishRecords e s).chain = s.chain := rfl
@[simp] theorem publishRecords_rep (e : Evaluation) (s : State) : (publishRecords e s).rep = s.rep := rfl
@[simp] theorem publishRecords_rw (e : Evaluation) (s : State) : (publishRecords e s).rw = s.rw := rfl
@[simp] theorem publishRecords_memory (e : Evaluation) (s : State) : (publishRecords e s).memory = s.memory := rfl
@[simp] theorem publishRecords_draws (e : Evaluation) (s : State) : (publishRecords e s).draws = s.draws := rfl
@[simp] theorem publishRecords_pending (e : Evaluation) (s : State) : (publishRecords e s).pending = s.pending := rfl

/-! `abandon` changes ev, rep only. -/

@[simp] theorem abandon_now (s : State) : (abandon s).now = s.now := by simp [abandon]
@[simp] theorem abandon_pins (s : State) : (abandon s).pins = s.pins := by simp [abandon]
@[simp] theorem abandon_lines (s : State) : (abandon s).lines = s.lines := by simp [abandon]
@[simp] theorem abandon_ctl (s : State) : (abandon s).ctl = s.ctl := by simp [abandon]
@[simp] theorem abandon_cfg (s : State) : (abandon s).cfg = s.cfg := by simp [abandon]
@[simp] theorem abandon_ip (s : State) : (abandon s).ip = s.ip := by simp [abandon]
@[simp] theorem abandon_intent (s : State) : (abandon s).intent = s.intent := by simp [abandon]
@[simp] theorem abandon_axle (s : State) : (abandon s).axle = s.axle := by simp [abandon]
@[simp] theorem abandon_ref (s : State) : (abandon s).ref = s.ref := by simp [abandon]
@[simp] theorem abandon_ceil (s : State) : (abandon s).ceil = s.ceil := by simp [abandon]
@[simp] theorem abandon_blend (s : State) : (abandon s).blend = s.blend := by simp [abandon]
@[simp] theorem abandon_sand (s : State) : (abandon s).sand = s.sand := by simp [abandon]
@[simp] theorem abandon_chain (s : State) : (abandon s).chain = s.chain := by simp [abandon]
@[simp] theorem abandon_rw (s : State) : (abandon s).rw = s.rw := by simp [abandon]
@[simp] theorem abandon_memory (s : State) : (abandon s).memory = s.memory := by simp [abandon]
@[simp] theorem abandon_draws (s : State) : (abandon s).draws = s.draws := by simp [abandon]
@[simp] theorem abandon_pending (s : State) : (abandon s).pending = s.pending := by simp [abandon]

/-! `excursionEnd` changes ev, rep only. -/

@[simp] theorem excursionEnd_now (i : Axle) (s : State) : (excursionEnd i s).now = s.now := by simp [excursionEnd]
@[simp] theorem excursionEnd_pins (i : Axle) (s : State) : (excursionEnd i s).pins = s.pins := by simp [excursionEnd]
@[simp] theorem excursionEnd_lines (i : Axle) (s : State) : (excursionEnd i s).lines = s.lines := by simp [excursionEnd]
@[simp] theorem excursionEnd_ctl (i : Axle) (s : State) : (excursionEnd i s).ctl = s.ctl := by simp [excursionEnd]
@[simp] theorem excursionEnd_cfg (i : Axle) (s : State) : (excursionEnd i s).cfg = s.cfg := by simp [excursionEnd]
@[simp] theorem excursionEnd_ip (i : Axle) (s : State) : (excursionEnd i s).ip = s.ip := by simp [excursionEnd]
@[simp] theorem excursionEnd_intent (i : Axle) (s : State) : (excursionEnd i s).intent = s.intent := by simp [excursionEnd]
@[simp] theorem excursionEnd_axle (i : Axle) (s : State) : (excursionEnd i s).axle = s.axle := by simp [excursionEnd]
@[simp] theorem excursionEnd_ref (i : Axle) (s : State) : (excursionEnd i s).ref = s.ref := by simp [excursionEnd]
@[simp] theorem excursionEnd_ceil (i : Axle) (s : State) : (excursionEnd i s).ceil = s.ceil := by simp [excursionEnd]
@[simp] theorem excursionEnd_blend (i : Axle) (s : State) : (excursionEnd i s).blend = s.blend := by simp [excursionEnd]
@[simp] theorem excursionEnd_sand (i : Axle) (s : State) : (excursionEnd i s).sand = s.sand := by simp [excursionEnd]
@[simp] theorem excursionEnd_chain (i : Axle) (s : State) : (excursionEnd i s).chain = s.chain := by simp [excursionEnd]
@[simp] theorem excursionEnd_rw (i : Axle) (s : State) : (excursionEnd i s).rw = s.rw := by simp [excursionEnd]
@[simp] theorem excursionEnd_memory (i : Axle) (s : State) : (excursionEnd i s).memory = s.memory := by simp [excursionEnd]
@[simp] theorem excursionEnd_draws (i : Axle) (s : State) : (excursionEnd i s).draws = s.draws := by simp [excursionEnd]
@[simp] theorem excursionEnd_pending (i : Axle) (s : State) : (excursionEnd i s).pending = s.pending := by simp [excursionEnd]

/-! `floorWritten` changes ev only. -/

@[simp] theorem floorWritten_now (s : State) : (floorWritten s).now = s.now := rfl
@[simp] theorem floorWritten_pins (s : State) : (floorWritten s).pins = s.pins := rfl
@[simp] theorem floorWritten_lines (s : State) : (floorWritten s).lines = s.lines := rfl
@[simp] theorem floorWritten_ctl (s : State) : (floorWritten s).ctl = s.ctl := rfl
@[simp] theorem floorWritten_cfg (s : State) : (floorWritten s).cfg = s.cfg := rfl
@[simp] theorem floorWritten_ip (s : State) : (floorWritten s).ip = s.ip := rfl
@[simp] theorem floorWritten_intent (s : State) : (floorWritten s).intent = s.intent := rfl
@[simp] theorem floorWritten_axle (s : State) : (floorWritten s).axle = s.axle := rfl
@[simp] theorem floorWritten_ref (s : State) : (floorWritten s).ref = s.ref := rfl
@[simp] theorem floorWritten_ceil (s : State) : (floorWritten s).ceil = s.ceil := rfl
@[simp] theorem floorWritten_blend (s : State) : (floorWritten s).blend = s.blend := rfl
@[simp] theorem floorWritten_sand (s : State) : (floorWritten s).sand = s.sand := rfl
@[simp] theorem floorWritten_chain (s : State) : (floorWritten s).chain = s.chain := rfl
@[simp] theorem floorWritten_rep (s : State) : (floorWritten s).rep = s.rep := rfl
@[simp] theorem floorWritten_rw (s : State) : (floorWritten s).rw = s.rw := rfl
@[simp] theorem floorWritten_memory (s : State) : (floorWritten s).memory = s.memory := rfl
@[simp] theorem floorWritten_draws (s : State) : (floorWritten s).draws = s.draws := rfl
@[simp] theorem floorWritten_pending (s : State) : (floorWritten s).pending = s.pending := rfl

/-! `slipGoSetup` changes ev, rep only. -/

@[simp] theorem slipGoSetup_now (s : State) : (slipGoSetup s).now = s.now := by simp [slipGoSetup]
@[simp] theorem slipGoSetup_pins (s : State) : (slipGoSetup s).pins = s.pins := by simp [slipGoSetup]
@[simp] theorem slipGoSetup_lines (s : State) : (slipGoSetup s).lines = s.lines := by simp [slipGoSetup]
@[simp] theorem slipGoSetup_ctl (s : State) : (slipGoSetup s).ctl = s.ctl := by simp [slipGoSetup]
@[simp] theorem slipGoSetup_cfg (s : State) : (slipGoSetup s).cfg = s.cfg := by simp [slipGoSetup]
@[simp] theorem slipGoSetup_ip (s : State) : (slipGoSetup s).ip = s.ip := by simp [slipGoSetup]
@[simp] theorem slipGoSetup_intent (s : State) : (slipGoSetup s).intent = s.intent := by simp [slipGoSetup]
@[simp] theorem slipGoSetup_axle (s : State) : (slipGoSetup s).axle = s.axle := by simp [slipGoSetup]
@[simp] theorem slipGoSetup_ref (s : State) : (slipGoSetup s).ref = s.ref := by simp [slipGoSetup]
@[simp] theorem slipGoSetup_ceil (s : State) : (slipGoSetup s).ceil = s.ceil := by simp [slipGoSetup]
@[simp] theorem slipGoSetup_blend (s : State) : (slipGoSetup s).blend = s.blend := by simp [slipGoSetup]
@[simp] theorem slipGoSetup_sand (s : State) : (slipGoSetup s).sand = s.sand := by simp [slipGoSetup]
@[simp] theorem slipGoSetup_chain (s : State) : (slipGoSetup s).chain = s.chain := by simp [slipGoSetup]
@[simp] theorem slipGoSetup_rw (s : State) : (slipGoSetup s).rw = s.rw := by simp [slipGoSetup]
@[simp] theorem slipGoSetup_memory (s : State) : (slipGoSetup s).memory = s.memory := by simp [slipGoSetup]
@[simp] theorem slipGoSetup_draws (s : State) : (slipGoSetup s).draws = s.draws := by simp [slipGoSetup]
@[simp] theorem slipGoSetup_pending (s : State) : (slipGoSetup s).pending = s.pending := by simp [slipGoSetup]

/-! `slipStandby` changes ev, rep only. -/

@[simp] theorem slipStandby_now (s : State) : (slipStandby s).now = s.now := by simp [slipStandby]
@[simp] theorem slipStandby_pins (s : State) : (slipStandby s).pins = s.pins := by simp [slipStandby]
@[simp] theorem slipStandby_lines (s : State) : (slipStandby s).lines = s.lines := by simp [slipStandby]
@[simp] theorem slipStandby_ctl (s : State) : (slipStandby s).ctl = s.ctl := by simp [slipStandby]
@[simp] theorem slipStandby_cfg (s : State) : (slipStandby s).cfg = s.cfg := by simp [slipStandby]
@[simp] theorem slipStandby_ip (s : State) : (slipStandby s).ip = s.ip := by simp [slipStandby]
@[simp] theorem slipStandby_intent (s : State) : (slipStandby s).intent = s.intent := by simp [slipStandby]
@[simp] theorem slipStandby_axle (s : State) : (slipStandby s).axle = s.axle := by simp [slipStandby]
@[simp] theorem slipStandby_ref (s : State) : (slipStandby s).ref = s.ref := by simp [slipStandby]
@[simp] theorem slipStandby_ceil (s : State) : (slipStandby s).ceil = s.ceil := by simp [slipStandby]
@[simp] theorem slipStandby_blend (s : State) : (slipStandby s).blend = s.blend := by simp [slipStandby]
@[simp] theorem slipStandby_sand (s : State) : (slipStandby s).sand = s.sand := by simp [slipStandby]
@[simp] theorem slipStandby_chain (s : State) : (slipStandby s).chain = s.chain := by simp [slipStandby]
@[simp] theorem slipStandby_rw (s : State) : (slipStandby s).rw = s.rw := by simp [slipStandby]
@[simp] theorem slipStandby_memory (s : State) : (slipStandby s).memory = s.memory := by simp [slipStandby]
@[simp] theorem slipStandby_draws (s : State) : (slipStandby s).draws = s.draws := by simp [slipStandby]
@[simp] theorem slipStandby_pending (s : State) : (slipStandby s).pending = s.pending := by simp [slipStandby]

/-! `slipWake` changes ev only. -/

@[simp] theorem slipWake_now (s : State) : (slipWake s).now = s.now := by simp [slipWake]
@[simp] theorem slipWake_pins (s : State) : (slipWake s).pins = s.pins := by simp [slipWake]
@[simp] theorem slipWake_lines (s : State) : (slipWake s).lines = s.lines := by simp [slipWake]
@[simp] theorem slipWake_ctl (s : State) : (slipWake s).ctl = s.ctl := by simp [slipWake]
@[simp] theorem slipWake_cfg (s : State) : (slipWake s).cfg = s.cfg := by simp [slipWake]
@[simp] theorem slipWake_ip (s : State) : (slipWake s).ip = s.ip := by simp [slipWake]
@[simp] theorem slipWake_intent (s : State) : (slipWake s).intent = s.intent := by simp [slipWake]
@[simp] theorem slipWake_axle (s : State) : (slipWake s).axle = s.axle := by simp [slipWake]
@[simp] theorem slipWake_ref (s : State) : (slipWake s).ref = s.ref := by simp [slipWake]
@[simp] theorem slipWake_ceil (s : State) : (slipWake s).ceil = s.ceil := by simp [slipWake]
@[simp] theorem slipWake_blend (s : State) : (slipWake s).blend = s.blend := by simp [slipWake]
@[simp] theorem slipWake_sand (s : State) : (slipWake s).sand = s.sand := by simp [slipWake]
@[simp] theorem slipWake_chain (s : State) : (slipWake s).chain = s.chain := by simp [slipWake]
@[simp] theorem slipWake_rep (s : State) : (slipWake s).rep = s.rep := by simp [slipWake]
@[simp] theorem slipWake_rw (s : State) : (slipWake s).rw = s.rw := by simp [slipWake]
@[simp] theorem slipWake_memory (s : State) : (slipWake s).memory = s.memory := by simp [slipWake]
@[simp] theorem slipWake_draws (s : State) : (slipWake s).draws = s.draws := by simp [slipWake]
@[simp] theorem slipWake_pending (s : State) : (slipWake s).pending = s.pending := by simp [slipWake]

/-! `slipRestart` changes ev, rep only. -/

@[simp] theorem slipRestart_now (s : State) : (slipRestart s).now = s.now := by simp [slipRestart]
@[simp] theorem slipRestart_pins (s : State) : (slipRestart s).pins = s.pins := by simp [slipRestart]
@[simp] theorem slipRestart_lines (s : State) : (slipRestart s).lines = s.lines := by simp [slipRestart]
@[simp] theorem slipRestart_ctl (s : State) : (slipRestart s).ctl = s.ctl := by simp [slipRestart]
@[simp] theorem slipRestart_cfg (s : State) : (slipRestart s).cfg = s.cfg := by simp [slipRestart]
@[simp] theorem slipRestart_ip (s : State) : (slipRestart s).ip = s.ip := by simp [slipRestart]
@[simp] theorem slipRestart_intent (s : State) : (slipRestart s).intent = s.intent := by simp [slipRestart]
@[simp] theorem slipRestart_axle (s : State) : (slipRestart s).axle = s.axle := by simp [slipRestart]
@[simp] theorem slipRestart_ref (s : State) : (slipRestart s).ref = s.ref := by simp [slipRestart]
@[simp] theorem slipRestart_ceil (s : State) : (slipRestart s).ceil = s.ceil := by simp [slipRestart]
@[simp] theorem slipRestart_blend (s : State) : (slipRestart s).blend = s.blend := by simp [slipRestart]
@[simp] theorem slipRestart_sand (s : State) : (slipRestart s).sand = s.sand := by simp [slipRestart]
@[simp] theorem slipRestart_chain (s : State) : (slipRestart s).chain = s.chain := by simp [slipRestart]
@[simp] theorem slipRestart_rw (s : State) : (slipRestart s).rw = s.rw := by simp [slipRestart]
@[simp] theorem slipRestart_memory (s : State) : (slipRestart s).memory = s.memory := by simp [slipRestart]
@[simp] theorem slipRestart_draws (s : State) : (slipRestart s).draws = s.draws := by simp [slipRestart]
@[simp] theorem slipRestart_pending (s : State) : (slipRestart s).pending = s.pending := by simp [slipRestart]

/-! `rollbackClear` changes ref, ev only. -/

@[simp] theorem rollbackClear_now (b : Bool) (s : State) : (rollbackClear b s).now = s.now := rfl
@[simp] theorem rollbackClear_pins (b : Bool) (s : State) : (rollbackClear b s).pins = s.pins := rfl
@[simp] theorem rollbackClear_lines (b : Bool) (s : State) : (rollbackClear b s).lines = s.lines := rfl
@[simp] theorem rollbackClear_ctl (b : Bool) (s : State) : (rollbackClear b s).ctl = s.ctl := rfl
@[simp] theorem rollbackClear_cfg (b : Bool) (s : State) : (rollbackClear b s).cfg = s.cfg := rfl
@[simp] theorem rollbackClear_ip (b : Bool) (s : State) : (rollbackClear b s).ip = s.ip := rfl
@[simp] theorem rollbackClear_intent (b : Bool) (s : State) : (rollbackClear b s).intent = s.intent := rfl
@[simp] theorem rollbackClear_axle (b : Bool) (s : State) : (rollbackClear b s).axle = s.axle := rfl
@[simp] theorem rollbackClear_ceil (b : Bool) (s : State) : (rollbackClear b s).ceil = s.ceil := rfl
@[simp] theorem rollbackClear_blend (b : Bool) (s : State) : (rollbackClear b s).blend = s.blend := rfl
@[simp] theorem rollbackClear_sand (b : Bool) (s : State) : (rollbackClear b s).sand = s.sand := rfl
@[simp] theorem rollbackClear_chain (b : Bool) (s : State) : (rollbackClear b s).chain = s.chain := rfl
@[simp] theorem rollbackClear_rep (b : Bool) (s : State) : (rollbackClear b s).rep = s.rep := rfl
@[simp] theorem rollbackClear_rw (b : Bool) (s : State) : (rollbackClear b s).rw = s.rw := rfl
@[simp] theorem rollbackClear_memory (b : Bool) (s : State) : (rollbackClear b s).memory = s.memory := rfl
@[simp] theorem rollbackClear_draws (b : Bool) (s : State) : (rollbackClear b s).draws = s.draws := rfl
@[simp] theorem rollbackClear_pending (b : Bool) (s : State) : (rollbackClear b s).pending = s.pending := rfl

/-! `handRun` changes intent, ip only. -/

@[simp] theorem handRun_now (z : State) (w : Walk) (s : State) : (handRun z w s).now = s.now := by simp [handRun]
@[simp] theorem handRun_pins (z : State) (w : Walk) (s : State) : (handRun z w s).pins = s.pins := by simp [handRun]
@[simp] theorem handRun_lines (z : State) (w : Walk) (s : State) : (handRun z w s).lines = s.lines := by simp [handRun]
@[simp] theorem handRun_ctl (z : State) (w : Walk) (s : State) : (handRun z w s).ctl = s.ctl := by simp [handRun]
@[simp] theorem handRun_cfg (z : State) (w : Walk) (s : State) : (handRun z w s).cfg = s.cfg := by simp [handRun]
@[simp] theorem handRun_axle (z : State) (w : Walk) (s : State) : (handRun z w s).axle = s.axle := by simp [handRun]
@[simp] theorem handRun_ref (z : State) (w : Walk) (s : State) : (handRun z w s).ref = s.ref := by simp [handRun]
@[simp] theorem handRun_ev (z : State) (w : Walk) (s : State) : (handRun z w s).ev = s.ev := by simp [handRun]
@[simp] theorem handRun_ceil (z : State) (w : Walk) (s : State) : (handRun z w s).ceil = s.ceil := by simp [handRun]
@[simp] theorem handRun_blend (z : State) (w : Walk) (s : State) : (handRun z w s).blend = s.blend := by simp [handRun]
@[simp] theorem handRun_sand (z : State) (w : Walk) (s : State) : (handRun z w s).sand = s.sand := by simp [handRun]
@[simp] theorem handRun_chain (z : State) (w : Walk) (s : State) : (handRun z w s).chain = s.chain := by simp [handRun]
@[simp] theorem handRun_rep (z : State) (w : Walk) (s : State) : (handRun z w s).rep = s.rep := by simp [handRun]
@[simp] theorem handRun_rw (z : State) (w : Walk) (s : State) : (handRun z w s).rw = s.rw := by simp [handRun]
@[simp] theorem handRun_memory (z : State) (w : Walk) (s : State) : (handRun z w s).memory = s.memory := by simp [handRun]
@[simp] theorem handRun_draws (z : State) (w : Walk) (s : State) : (handRun z w s).draws = s.draws := by simp [handRun]
@[simp] theorem handRun_pending (z : State) (w : Walk) (s : State) : (handRun z w s).pending = s.pending := by simp [handRun]

/-! `run` changes blend, rep, ref, ev, intent, ip, sand only. -/

@[simp] theorem run_now (b d : Bool) (s : State) : (run b d s).now = s.now := by
  simp only [run]; (repeat' split) <;> simp
@[simp] theorem run_pins (b d : Bool) (s : State) : (run b d s).pins = s.pins := by
  simp only [run]; (repeat' split) <;> simp
@[simp] theorem run_lines (b d : Bool) (s : State) : (run b d s).lines = s.lines := by
  simp only [run]; (repeat' split) <;> simp
@[simp] theorem run_ctl (b d : Bool) (s : State) : (run b d s).ctl = s.ctl := by
  simp only [run]; (repeat' split) <;> simp
@[simp] theorem run_cfg (b d : Bool) (s : State) : (run b d s).cfg = s.cfg := by
  simp only [run]; (repeat' split) <;> simp
@[simp] theorem run_axle (b d : Bool) (s : State) : (run b d s).axle = s.axle := by
  simp only [run]; (repeat' split) <;> simp
@[simp] theorem run_ceil (b d : Bool) (s : State) : (run b d s).ceil = s.ceil := by
  simp only [run]; (repeat' split) <;> simp
@[simp] theorem run_chain (b d : Bool) (s : State) : (run b d s).chain = s.chain := by
  simp only [run]; (repeat' split) <;> simp
@[simp] theorem run_rw (b d : Bool) (s : State) : (run b d s).rw = s.rw := by
  simp only [run]; (repeat' split) <;> simp
@[simp] theorem run_memory (b d : Bool) (s : State) : (run b d s).memory = s.memory := by
  simp only [run]; (repeat' split) <;> simp
@[simp] theorem run_draws (b d : Bool) (s : State) : (run b d s).draws = s.draws := by
  simp only [run]; (repeat' split) <;> simp
@[simp] theorem run_pending (b d : Bool) (s : State) : (run b d s).pending = s.pending := by
  simp only [run]; (repeat' split) <;> simp

/-! `runServing` changes blend, rep, ref, ev, intent, ip, sand only. -/

@[simp] theorem runServing_now (s : State) : (runServing s).now = s.now := by
  simp only [runServing]; (repeat' split) <;> simp
@[simp] theorem runServing_pins (s : State) : (runServing s).pins = s.pins := by
  simp only [runServing]; (repeat' split) <;> simp
@[simp] theorem runServing_lines (s : State) : (runServing s).lines = s.lines := by
  simp only [runServing]; (repeat' split) <;> simp
@[simp] theorem runServing_ctl (s : State) : (runServing s).ctl = s.ctl := by
  simp only [runServing]; (repeat' split) <;> simp
@[simp] theorem runServing_cfg (s : State) : (runServing s).cfg = s.cfg := by
  simp only [runServing]; (repeat' split) <;> simp
@[simp] theorem runServing_axle (s : State) : (runServing s).axle = s.axle := by
  simp only [runServing]; (repeat' split) <;> simp
@[simp] theorem runServing_ceil (s : State) : (runServing s).ceil = s.ceil := by
  simp only [runServing]; (repeat' split) <;> simp
@[simp] theorem runServing_chain (s : State) : (runServing s).chain = s.chain := by
  simp only [runServing]; (repeat' split) <;> simp
@[simp] theorem runServing_rw (s : State) : (runServing s).rw = s.rw := by
  simp only [runServing]; (repeat' split) <;> simp
@[simp] theorem runServing_memory (s : State) : (runServing s).memory = s.memory := by
  simp only [runServing]; (repeat' split) <;> simp
@[simp] theorem runServing_draws (s : State) : (runServing s).draws = s.draws := by
  simp only [runServing]; (repeat' split) <;> simp
@[simp] theorem runServing_pending (s : State) : (runServing s).pending = s.pending := by
  simp only [runServing]; (repeat' split) <;> simp

/-! `evaluationRun` changes blend, rep, ref, ev, intent, ip, sand only. -/

@[simp] theorem evaluationRun_now (e : Evaluation) (s : State) : (evaluationRun e s).now = s.now := by simp [evaluationRun]
@[simp] theorem evaluationRun_pins (e : Evaluation) (s : State) : (evaluationRun e s).pins = s.pins := by simp [evaluationRun]
@[simp] theorem evaluationRun_lines (e : Evaluation) (s : State) : (evaluationRun e s).lines = s.lines := by simp [evaluationRun]
@[simp] theorem evaluationRun_ctl (e : Evaluation) (s : State) : (evaluationRun e s).ctl = s.ctl := by simp [evaluationRun]
@[simp] theorem evaluationRun_cfg (e : Evaluation) (s : State) : (evaluationRun e s).cfg = s.cfg := by simp [evaluationRun]
@[simp] theorem evaluationRun_axle (e : Evaluation) (s : State) : (evaluationRun e s).axle = s.axle := by simp [evaluationRun]
@[simp] theorem evaluationRun_ceil (e : Evaluation) (s : State) : (evaluationRun e s).ceil = s.ceil := by simp [evaluationRun]
@[simp] theorem evaluationRun_chain (e : Evaluation) (s : State) : (evaluationRun e s).chain = s.chain := by simp [evaluationRun]
@[simp] theorem evaluationRun_rw (e : Evaluation) (s : State) : (evaluationRun e s).rw = s.rw := by simp [evaluationRun]
@[simp] theorem evaluationRun_memory (e : Evaluation) (s : State) : (evaluationRun e s).memory = s.memory := by simp [evaluationRun]
@[simp] theorem evaluationRun_draws (e : Evaluation) (s : State) : (evaluationRun e s).draws = s.draws := by simp [evaluationRun]
@[simp] theorem evaluationRun_pending (e : Evaluation) (s : State) : (evaluationRun e s).pending = s.pending := by simp [evaluationRun]

/-! `feedbackDelivery` changes blend, rep, ref, ev, intent, ip, sand only. -/

@[simp] theorem feedbackDelivery_now (x : PerMotor (Option Int)) (s : State) : (feedbackDelivery x s).now = s.now := by simp [feedbackDelivery]
@[simp] theorem feedbackDelivery_pins (x : PerMotor (Option Int)) (s : State) : (feedbackDelivery x s).pins = s.pins := by simp [feedbackDelivery]
@[simp] theorem feedbackDelivery_lines (x : PerMotor (Option Int)) (s : State) : (feedbackDelivery x s).lines = s.lines := by simp [feedbackDelivery]
@[simp] theorem feedbackDelivery_ctl (x : PerMotor (Option Int)) (s : State) : (feedbackDelivery x s).ctl = s.ctl := by simp [feedbackDelivery]
@[simp] theorem feedbackDelivery_cfg (x : PerMotor (Option Int)) (s : State) : (feedbackDelivery x s).cfg = s.cfg := by simp [feedbackDelivery]
@[simp] theorem feedbackDelivery_axle (x : PerMotor (Option Int)) (s : State) : (feedbackDelivery x s).axle = s.axle := by simp [feedbackDelivery]
@[simp] theorem feedbackDelivery_ceil (x : PerMotor (Option Int)) (s : State) : (feedbackDelivery x s).ceil = s.ceil := by simp [feedbackDelivery]
@[simp] theorem feedbackDelivery_chain (x : PerMotor (Option Int)) (s : State) : (feedbackDelivery x s).chain = s.chain := by simp [feedbackDelivery]
@[simp] theorem feedbackDelivery_rw (x : PerMotor (Option Int)) (s : State) : (feedbackDelivery x s).rw = s.rw := by simp [feedbackDelivery]
@[simp] theorem feedbackDelivery_memory (x : PerMotor (Option Int)) (s : State) : (feedbackDelivery x s).memory = s.memory := by simp [feedbackDelivery]
@[simp] theorem feedbackDelivery_draws (x : PerMotor (Option Int)) (s : State) : (feedbackDelivery x s).draws = s.draws := by simp [feedbackDelivery]
@[simp] theorem feedbackDelivery_pending (x : PerMotor (Option Int)) (s : State) : (feedbackDelivery x s).pending = s.pending := by simp [feedbackDelivery]

/-! `lagEnd` changes blend, rep, ref, ev, intent, ip, sand only. -/

@[simp] theorem lagEnd_now (m : Motor) (s : State) : (lagEnd m s).now = s.now := by simp [lagEnd]
@[simp] theorem lagEnd_pins (m : Motor) (s : State) : (lagEnd m s).pins = s.pins := by simp [lagEnd]
@[simp] theorem lagEnd_lines (m : Motor) (s : State) : (lagEnd m s).lines = s.lines := by simp [lagEnd]
@[simp] theorem lagEnd_ctl (m : Motor) (s : State) : (lagEnd m s).ctl = s.ctl := by simp [lagEnd]
@[simp] theorem lagEnd_cfg (m : Motor) (s : State) : (lagEnd m s).cfg = s.cfg := by simp [lagEnd]
@[simp] theorem lagEnd_axle (m : Motor) (s : State) : (lagEnd m s).axle = s.axle := by simp [lagEnd]
@[simp] theorem lagEnd_ceil (m : Motor) (s : State) : (lagEnd m s).ceil = s.ceil := by simp [lagEnd]
@[simp] theorem lagEnd_chain (m : Motor) (s : State) : (lagEnd m s).chain = s.chain := by simp [lagEnd]
@[simp] theorem lagEnd_rw (m : Motor) (s : State) : (lagEnd m s).rw = s.rw := by simp [lagEnd]
@[simp] theorem lagEnd_memory (m : Motor) (s : State) : (lagEnd m s).memory = s.memory := by simp [lagEnd]
@[simp] theorem lagEnd_draws (m : Motor) (s : State) : (lagEnd m s).draws = s.draws := by simp [lagEnd]
@[simp] theorem lagEnd_pending (m : Motor) (s : State) : (lagEnd m s).pending = s.pending := by simp [lagEnd]

/-! `probeEnd` changes blend, rep, ref, ev, intent, ip, sand only. -/

@[simp] theorem probeEnd_now (m : Motor) (s : State) : (probeEnd m s).now = s.now := by simp [probeEnd]
@[simp] theorem probeEnd_pins (m : Motor) (s : State) : (probeEnd m s).pins = s.pins := by simp [probeEnd]
@[simp] theorem probeEnd_lines (m : Motor) (s : State) : (probeEnd m s).lines = s.lines := by simp [probeEnd]
@[simp] theorem probeEnd_ctl (m : Motor) (s : State) : (probeEnd m s).ctl = s.ctl := by simp [probeEnd]
@[simp] theorem probeEnd_cfg (m : Motor) (s : State) : (probeEnd m s).cfg = s.cfg := by simp [probeEnd]
@[simp] theorem probeEnd_axle (m : Motor) (s : State) : (probeEnd m s).axle = s.axle := by simp [probeEnd]
@[simp] theorem probeEnd_ceil (m : Motor) (s : State) : (probeEnd m s).ceil = s.ceil := by simp [probeEnd]
@[simp] theorem probeEnd_chain (m : Motor) (s : State) : (probeEnd m s).chain = s.chain := by simp [probeEnd]
@[simp] theorem probeEnd_rw (m : Motor) (s : State) : (probeEnd m s).rw = s.rw := by simp [probeEnd]
@[simp] theorem probeEnd_memory (m : Motor) (s : State) : (probeEnd m s).memory = s.memory := by simp [probeEnd]
@[simp] theorem probeEnd_draws (m : Motor) (s : State) : (probeEnd m s).draws = s.draws := by simp [probeEnd]
@[simp] theorem probeEnd_pending (m : Motor) (s : State) : (probeEnd m s).pending = s.pending := by simp [probeEnd]

/-! `deficitEnd` changes blend, rep, ref, ev, intent, ip, sand only. -/

@[simp] theorem deficitEnd_now (s : State) : (deficitEnd s).now = s.now := by simp [deficitEnd]
@[simp] theorem deficitEnd_pins (s : State) : (deficitEnd s).pins = s.pins := by simp [deficitEnd]
@[simp] theorem deficitEnd_lines (s : State) : (deficitEnd s).lines = s.lines := by simp [deficitEnd]
@[simp] theorem deficitEnd_ctl (s : State) : (deficitEnd s).ctl = s.ctl := by simp [deficitEnd]
@[simp] theorem deficitEnd_cfg (s : State) : (deficitEnd s).cfg = s.cfg := by simp [deficitEnd]
@[simp] theorem deficitEnd_axle (s : State) : (deficitEnd s).axle = s.axle := by simp [deficitEnd]
@[simp] theorem deficitEnd_ceil (s : State) : (deficitEnd s).ceil = s.ceil := by simp [deficitEnd]
@[simp] theorem deficitEnd_chain (s : State) : (deficitEnd s).chain = s.chain := by simp [deficitEnd]
@[simp] theorem deficitEnd_rw (s : State) : (deficitEnd s).rw = s.rw := by simp [deficitEnd]
@[simp] theorem deficitEnd_memory (s : State) : (deficitEnd s).memory = s.memory := by simp [deficitEnd]
@[simp] theorem deficitEnd_draws (s : State) : (deficitEnd s).draws = s.draws := by simp [deficitEnd]
@[simp] theorem deficitEnd_pending (s : State) : (deficitEnd s).pending = s.pending := by simp [deficitEnd]

/-! `allocatorFallback` changes blend only. -/

@[simp] theorem allocatorFallback_now (s : State) : (allocatorFallback s).now = s.now := rfl
@[simp] theorem allocatorFallback_pins (s : State) : (allocatorFallback s).pins = s.pins := rfl
@[simp] theorem allocatorFallback_lines (s : State) : (allocatorFallback s).lines = s.lines := rfl
@[simp] theorem allocatorFallback_ctl (s : State) : (allocatorFallback s).ctl = s.ctl := rfl
@[simp] theorem allocatorFallback_cfg (s : State) : (allocatorFallback s).cfg = s.cfg := rfl
@[simp] theorem allocatorFallback_ip (s : State) : (allocatorFallback s).ip = s.ip := rfl
@[simp] theorem allocatorFallback_intent (s : State) : (allocatorFallback s).intent = s.intent := rfl
@[simp] theorem allocatorFallback_axle (s : State) : (allocatorFallback s).axle = s.axle := rfl
@[simp] theorem allocatorFallback_ref (s : State) : (allocatorFallback s).ref = s.ref := rfl
@[simp] theorem allocatorFallback_ev (s : State) : (allocatorFallback s).ev = s.ev := rfl
@[simp] theorem allocatorFallback_ceil (s : State) : (allocatorFallback s).ceil = s.ceil := rfl
@[simp] theorem allocatorFallback_sand (s : State) : (allocatorFallback s).sand = s.sand := rfl
@[simp] theorem allocatorFallback_chain (s : State) : (allocatorFallback s).chain = s.chain := rfl
@[simp] theorem allocatorFallback_rep (s : State) : (allocatorFallback s).rep = s.rep := rfl
@[simp] theorem allocatorFallback_rw (s : State) : (allocatorFallback s).rw = s.rw := rfl
@[simp] theorem allocatorFallback_memory (s : State) : (allocatorFallback s).memory = s.memory := rfl
@[simp] theorem allocatorFallback_draws (s : State) : (allocatorFallback s).draws = s.draws := rfl
@[simp] theorem allocatorFallback_pending (s : State) : (allocatorFallback s).pending = s.pending := rfl

/-! `allocatorStop` changes blend only. -/

@[simp] theorem allocatorStop_now (s : State) : (allocatorStop s).now = s.now := rfl
@[simp] theorem allocatorStop_pins (s : State) : (allocatorStop s).pins = s.pins := rfl
@[simp] theorem allocatorStop_lines (s : State) : (allocatorStop s).lines = s.lines := rfl
@[simp] theorem allocatorStop_ctl (s : State) : (allocatorStop s).ctl = s.ctl := rfl
@[simp] theorem allocatorStop_cfg (s : State) : (allocatorStop s).cfg = s.cfg := rfl
@[simp] theorem allocatorStop_ip (s : State) : (allocatorStop s).ip = s.ip := rfl
@[simp] theorem allocatorStop_intent (s : State) : (allocatorStop s).intent = s.intent := rfl
@[simp] theorem allocatorStop_axle (s : State) : (allocatorStop s).axle = s.axle := rfl
@[simp] theorem allocatorStop_ref (s : State) : (allocatorStop s).ref = s.ref := rfl
@[simp] theorem allocatorStop_ev (s : State) : (allocatorStop s).ev = s.ev := rfl
@[simp] theorem allocatorStop_ceil (s : State) : (allocatorStop s).ceil = s.ceil := rfl
@[simp] theorem allocatorStop_sand (s : State) : (allocatorStop s).sand = s.sand := rfl
@[simp] theorem allocatorStop_chain (s : State) : (allocatorStop s).chain = s.chain := rfl
@[simp] theorem allocatorStop_rep (s : State) : (allocatorStop s).rep = s.rep := rfl
@[simp] theorem allocatorStop_rw (s : State) : (allocatorStop s).rw = s.rw := rfl
@[simp] theorem allocatorStop_memory (s : State) : (allocatorStop s).memory = s.memory := rfl
@[simp] theorem allocatorStop_draws (s : State) : (allocatorStop s).draws = s.draws := rfl
@[simp] theorem allocatorStop_pending (s : State) : (allocatorStop s).pending = s.pending := rfl

/-! `allocatorEnterActive` changes blend only. -/

@[simp] theorem allocatorEnterActive_now (s : State) : (allocatorEnterActive s).now = s.now := rfl
@[simp] theorem allocatorEnterActive_pins (s : State) : (allocatorEnterActive s).pins = s.pins := rfl
@[simp] theorem allocatorEnterActive_lines (s : State) : (allocatorEnterActive s).lines = s.lines := rfl
@[simp] theorem allocatorEnterActive_ctl (s : State) : (allocatorEnterActive s).ctl = s.ctl := rfl
@[simp] theorem allocatorEnterActive_cfg (s : State) : (allocatorEnterActive s).cfg = s.cfg := rfl
@[simp] theorem allocatorEnterActive_ip (s : State) : (allocatorEnterActive s).ip = s.ip := rfl
@[simp] theorem allocatorEnterActive_intent (s : State) : (allocatorEnterActive s).intent = s.intent := rfl
@[simp] theorem allocatorEnterActive_axle (s : State) : (allocatorEnterActive s).axle = s.axle := rfl
@[simp] theorem allocatorEnterActive_ref (s : State) : (allocatorEnterActive s).ref = s.ref := rfl
@[simp] theorem allocatorEnterActive_ev (s : State) : (allocatorEnterActive s).ev = s.ev := rfl
@[simp] theorem allocatorEnterActive_ceil (s : State) : (allocatorEnterActive s).ceil = s.ceil := rfl
@[simp] theorem allocatorEnterActive_sand (s : State) : (allocatorEnterActive s).sand = s.sand := rfl
@[simp] theorem allocatorEnterActive_chain (s : State) : (allocatorEnterActive s).chain = s.chain := rfl
@[simp] theorem allocatorEnterActive_rep (s : State) : (allocatorEnterActive s).rep = s.rep := rfl
@[simp] theorem allocatorEnterActive_rw (s : State) : (allocatorEnterActive s).rw = s.rw := rfl
@[simp] theorem allocatorEnterActive_memory (s : State) : (allocatorEnterActive s).memory = s.memory := rfl
@[simp] theorem allocatorEnterActive_draws (s : State) : (allocatorEnterActive s).draws = s.draws := rfl
@[simp] theorem allocatorEnterActive_pending (s : State) : (allocatorEnterActive s).pending = s.pending := rfl

/-! `allocatorRestart` changes blend only. -/

@[simp] theorem allocatorRestart_now (s : State) : (allocatorRestart s).now = s.now := rfl
@[simp] theorem allocatorRestart_pins (s : State) : (allocatorRestart s).pins = s.pins := rfl
@[simp] theorem allocatorRestart_lines (s : State) : (allocatorRestart s).lines = s.lines := rfl
@[simp] theorem allocatorRestart_ctl (s : State) : (allocatorRestart s).ctl = s.ctl := rfl
@[simp] theorem allocatorRestart_cfg (s : State) : (allocatorRestart s).cfg = s.cfg := rfl
@[simp] theorem allocatorRestart_ip (s : State) : (allocatorRestart s).ip = s.ip := rfl
@[simp] theorem allocatorRestart_intent (s : State) : (allocatorRestart s).intent = s.intent := rfl
@[simp] theorem allocatorRestart_axle (s : State) : (allocatorRestart s).axle = s.axle := rfl
@[simp] theorem allocatorRestart_ref (s : State) : (allocatorRestart s).ref = s.ref := rfl
@[simp] theorem allocatorRestart_ev (s : State) : (allocatorRestart s).ev = s.ev := rfl
@[simp] theorem allocatorRestart_ceil (s : State) : (allocatorRestart s).ceil = s.ceil := rfl
@[simp] theorem allocatorRestart_sand (s : State) : (allocatorRestart s).sand = s.sand := rfl
@[simp] theorem allocatorRestart_chain (s : State) : (allocatorRestart s).chain = s.chain := rfl
@[simp] theorem allocatorRestart_rep (s : State) : (allocatorRestart s).rep = s.rep := rfl
@[simp] theorem allocatorRestart_rw (s : State) : (allocatorRestart s).rw = s.rw := rfl
@[simp] theorem allocatorRestart_memory (s : State) : (allocatorRestart s).memory = s.memory := rfl
@[simp] theorem allocatorRestart_draws (s : State) : (allocatorRestart s).draws = s.draws := rfl
@[simp] theorem allocatorRestart_pending (s : State) : (allocatorRestart s).pending = s.pending := rfl

/-! `ceilingPass` changes ceil, rep, intent, ip only. -/

@[simp] theorem ceilingPass_now (e : Evaluation) (s : State) : (ceilingPass e s).now = s.now := by
  simp only [ceilingPass]; (repeat' split) <;> simp
@[simp] theorem ceilingPass_pins (e : Evaluation) (s : State) : (ceilingPass e s).pins = s.pins := by
  simp only [ceilingPass]; (repeat' split) <;> simp
@[simp] theorem ceilingPass_lines (e : Evaluation) (s : State) : (ceilingPass e s).lines = s.lines := by
  simp only [ceilingPass]; (repeat' split) <;> simp
@[simp] theorem ceilingPass_ctl (e : Evaluation) (s : State) : (ceilingPass e s).ctl = s.ctl := by
  simp only [ceilingPass]; (repeat' split) <;> simp
@[simp] theorem ceilingPass_cfg (e : Evaluation) (s : State) : (ceilingPass e s).cfg = s.cfg := by
  simp only [ceilingPass]; (repeat' split) <;> simp
@[simp] theorem ceilingPass_axle (e : Evaluation) (s : State) : (ceilingPass e s).axle = s.axle := by
  simp only [ceilingPass]; (repeat' split) <;> simp
@[simp] theorem ceilingPass_ref (e : Evaluation) (s : State) : (ceilingPass e s).ref = s.ref := by
  simp only [ceilingPass]; (repeat' split) <;> simp
@[simp] theorem ceilingPass_ev (e : Evaluation) (s : State) : (ceilingPass e s).ev = s.ev := by
  simp only [ceilingPass]; (repeat' split) <;> simp
@[simp] theorem ceilingPass_blend (e : Evaluation) (s : State) : (ceilingPass e s).blend = s.blend := by
  simp only [ceilingPass]; (repeat' split) <;> simp
@[simp] theorem ceilingPass_sand (e : Evaluation) (s : State) : (ceilingPass e s).sand = s.sand := by
  simp only [ceilingPass]; (repeat' split) <;> simp
@[simp] theorem ceilingPass_chain (e : Evaluation) (s : State) : (ceilingPass e s).chain = s.chain := by
  simp only [ceilingPass]; (repeat' split) <;> simp
@[simp] theorem ceilingPass_rw (e : Evaluation) (s : State) : (ceilingPass e s).rw = s.rw := by
  simp only [ceilingPass]; (repeat' split) <;> simp
@[simp] theorem ceilingPass_memory (e : Evaluation) (s : State) : (ceilingPass e s).memory = s.memory := by
  simp only [ceilingPass]; (repeat' split) <;> simp
@[simp] theorem ceilingPass_draws (e : Evaluation) (s : State) : (ceilingPass e s).draws = s.draws := by
  simp only [ceilingPass]; (repeat' split) <;> simp
@[simp] theorem ceilingPass_pending (e : Evaluation) (s : State) : (ceilingPass e s).pending = s.pending := by
  simp only [ceilingPass]; (repeat' split) <;> simp

/-! `emptyNotices` changes ceil only. -/

@[simp] theorem emptyNotices_now (s : State) : (emptyNotices s).now = s.now := rfl
@[simp] theorem emptyNotices_pins (s : State) : (emptyNotices s).pins = s.pins := rfl
@[simp] theorem emptyNotices_lines (s : State) : (emptyNotices s).lines = s.lines := rfl
@[simp] theorem emptyNotices_ctl (s : State) : (emptyNotices s).ctl = s.ctl := rfl
@[simp] theorem emptyNotices_cfg (s : State) : (emptyNotices s).cfg = s.cfg := rfl
@[simp] theorem emptyNotices_ip (s : State) : (emptyNotices s).ip = s.ip := rfl
@[simp] theorem emptyNotices_intent (s : State) : (emptyNotices s).intent = s.intent := rfl
@[simp] theorem emptyNotices_axle (s : State) : (emptyNotices s).axle = s.axle := rfl
@[simp] theorem emptyNotices_ref (s : State) : (emptyNotices s).ref = s.ref := rfl
@[simp] theorem emptyNotices_ev (s : State) : (emptyNotices s).ev = s.ev := rfl
@[simp] theorem emptyNotices_blend (s : State) : (emptyNotices s).blend = s.blend := rfl
@[simp] theorem emptyNotices_sand (s : State) : (emptyNotices s).sand = s.sand := rfl
@[simp] theorem emptyNotices_chain (s : State) : (emptyNotices s).chain = s.chain := rfl
@[simp] theorem emptyNotices_rep (s : State) : (emptyNotices s).rep = s.rep := rfl
@[simp] theorem emptyNotices_rw (s : State) : (emptyNotices s).rw = s.rw := rfl
@[simp] theorem emptyNotices_memory (s : State) : (emptyNotices s).memory = s.memory := rfl
@[simp] theorem emptyNotices_draws (s : State) : (emptyNotices s).draws = s.draws := rfl
@[simp] theorem emptyNotices_pending (s : State) : (emptyNotices s).pending = s.pending := rfl

/-! `ceilingModeTaken` changes ceil only. -/

@[simp] theorem ceilingModeTaken_now (d : Direction) (s : State) : (ceilingModeTaken d s).now = s.now := rfl
@[simp] theorem ceilingModeTaken_pins (d : Direction) (s : State) : (ceilingModeTaken d s).pins = s.pins := rfl
@[simp] theorem ceilingModeTaken_lines (d : Direction) (s : State) : (ceilingModeTaken d s).lines = s.lines := rfl
@[simp] theorem ceilingModeTaken_ctl (d : Direction) (s : State) : (ceilingModeTaken d s).ctl = s.ctl := rfl
@[simp] theorem ceilingModeTaken_cfg (d : Direction) (s : State) : (ceilingModeTaken d s).cfg = s.cfg := rfl
@[simp] theorem ceilingModeTaken_ip (d : Direction) (s : State) : (ceilingModeTaken d s).ip = s.ip := rfl
@[simp] theorem ceilingModeTaken_intent (d : Direction) (s : State) : (ceilingModeTaken d s).intent = s.intent := rfl
@[simp] theorem ceilingModeTaken_axle (d : Direction) (s : State) : (ceilingModeTaken d s).axle = s.axle := rfl
@[simp] theorem ceilingModeTaken_ref (d : Direction) (s : State) : (ceilingModeTaken d s).ref = s.ref := rfl
@[simp] theorem ceilingModeTaken_ev (d : Direction) (s : State) : (ceilingModeTaken d s).ev = s.ev := rfl
@[simp] theorem ceilingModeTaken_blend (d : Direction) (s : State) : (ceilingModeTaken d s).blend = s.blend := rfl
@[simp] theorem ceilingModeTaken_sand (d : Direction) (s : State) : (ceilingModeTaken d s).sand = s.sand := rfl
@[simp] theorem ceilingModeTaken_chain (d : Direction) (s : State) : (ceilingModeTaken d s).chain = s.chain := rfl
@[simp] theorem ceilingModeTaken_rep (d : Direction) (s : State) : (ceilingModeTaken d s).rep = s.rep := rfl
@[simp] theorem ceilingModeTaken_rw (d : Direction) (s : State) : (ceilingModeTaken d s).rw = s.rw := rfl
@[simp] theorem ceilingModeTaken_memory (d : Direction) (s : State) : (ceilingModeTaken d s).memory = s.memory := rfl
@[simp] theorem ceilingModeTaken_draws (d : Direction) (s : State) : (ceilingModeTaken d s).draws = s.draws := rfl
@[simp] theorem ceilingModeTaken_pending (d : Direction) (s : State) : (ceilingModeTaken d s).pending = s.pending := rfl

/-! `ceilingFloorWritten` changes ceil only. -/

@[simp] theorem ceilingFloorWritten_now (s : State) : (ceilingFloorWritten s).now = s.now := rfl
@[simp] theorem ceilingFloorWritten_pins (s : State) : (ceilingFloorWritten s).pins = s.pins := rfl
@[simp] theorem ceilingFloorWritten_lines (s : State) : (ceilingFloorWritten s).lines = s.lines := rfl
@[simp] theorem ceilingFloorWritten_ctl (s : State) : (ceilingFloorWritten s).ctl = s.ctl := rfl
@[simp] theorem ceilingFloorWritten_cfg (s : State) : (ceilingFloorWritten s).cfg = s.cfg := rfl
@[simp] theorem ceilingFloorWritten_ip (s : State) : (ceilingFloorWritten s).ip = s.ip := rfl
@[simp] theorem ceilingFloorWritten_intent (s : State) : (ceilingFloorWritten s).intent = s.intent := rfl
@[simp] theorem ceilingFloorWritten_axle (s : State) : (ceilingFloorWritten s).axle = s.axle := rfl
@[simp] theorem ceilingFloorWritten_ref (s : State) : (ceilingFloorWritten s).ref = s.ref := rfl
@[simp] theorem ceilingFloorWritten_ev (s : State) : (ceilingFloorWritten s).ev = s.ev := rfl
@[simp] theorem ceilingFloorWritten_blend (s : State) : (ceilingFloorWritten s).blend = s.blend := rfl
@[simp] theorem ceilingFloorWritten_sand (s : State) : (ceilingFloorWritten s).sand = s.sand := rfl
@[simp] theorem ceilingFloorWritten_chain (s : State) : (ceilingFloorWritten s).chain = s.chain := rfl
@[simp] theorem ceilingFloorWritten_rep (s : State) : (ceilingFloorWritten s).rep = s.rep := rfl
@[simp] theorem ceilingFloorWritten_rw (s : State) : (ceilingFloorWritten s).rw = s.rw := rfl
@[simp] theorem ceilingFloorWritten_memory (s : State) : (ceilingFloorWritten s).memory = s.memory := rfl
@[simp] theorem ceilingFloorWritten_draws (s : State) : (ceilingFloorWritten s).draws = s.draws := rfl
@[simp] theorem ceilingFloorWritten_pending (s : State) : (ceilingFloorWritten s).pending = s.pending := rfl

/-! `ceilingRestart` changes ceil only. -/

@[simp] theorem ceilingRestart_now (s : State) : (ceilingRestart s).now = s.now := rfl
@[simp] theorem ceilingRestart_pins (s : State) : (ceilingRestart s).pins = s.pins := rfl
@[simp] theorem ceilingRestart_lines (s : State) : (ceilingRestart s).lines = s.lines := rfl
@[simp] theorem ceilingRestart_ctl (s : State) : (ceilingRestart s).ctl = s.ctl := rfl
@[simp] theorem ceilingRestart_cfg (s : State) : (ceilingRestart s).cfg = s.cfg := rfl
@[simp] theorem ceilingRestart_ip (s : State) : (ceilingRestart s).ip = s.ip := rfl
@[simp] theorem ceilingRestart_intent (s : State) : (ceilingRestart s).intent = s.intent := rfl
@[simp] theorem ceilingRestart_axle (s : State) : (ceilingRestart s).axle = s.axle := rfl
@[simp] theorem ceilingRestart_ref (s : State) : (ceilingRestart s).ref = s.ref := rfl
@[simp] theorem ceilingRestart_ev (s : State) : (ceilingRestart s).ev = s.ev := rfl
@[simp] theorem ceilingRestart_blend (s : State) : (ceilingRestart s).blend = s.blend := rfl
@[simp] theorem ceilingRestart_sand (s : State) : (ceilingRestart s).sand = s.sand := rfl
@[simp] theorem ceilingRestart_chain (s : State) : (ceilingRestart s).chain = s.chain := rfl
@[simp] theorem ceilingRestart_rep (s : State) : (ceilingRestart s).rep = s.rep := rfl
@[simp] theorem ceilingRestart_rw (s : State) : (ceilingRestart s).rw = s.rw := rfl
@[simp] theorem ceilingRestart_memory (s : State) : (ceilingRestart s).memory = s.memory := rfl
@[simp] theorem ceilingRestart_draws (s : State) : (ceilingRestart s).draws = s.draws := rfl
@[simp] theorem ceilingRestart_pending (s : State) : (ceilingRestart s).pending = s.pending := rfl

/-! `endFrame` changes chain, rep only. -/

@[simp] theorem endFrame_now (c : Counter) (s : State) : (endFrame c s).now = s.now := by simp [endFrame]
@[simp] theorem endFrame_pins (c : Counter) (s : State) : (endFrame c s).pins = s.pins := by simp [endFrame]
@[simp] theorem endFrame_lines (c : Counter) (s : State) : (endFrame c s).lines = s.lines := by simp [endFrame]
@[simp] theorem endFrame_ctl (c : Counter) (s : State) : (endFrame c s).ctl = s.ctl := by simp [endFrame]
@[simp] theorem endFrame_cfg (c : Counter) (s : State) : (endFrame c s).cfg = s.cfg := by simp [endFrame]
@[simp] theorem endFrame_ip (c : Counter) (s : State) : (endFrame c s).ip = s.ip := by simp [endFrame]
@[simp] theorem endFrame_intent (c : Counter) (s : State) : (endFrame c s).intent = s.intent := by simp [endFrame]
@[simp] theorem endFrame_axle (c : Counter) (s : State) : (endFrame c s).axle = s.axle := by simp [endFrame]
@[simp] theorem endFrame_ref (c : Counter) (s : State) : (endFrame c s).ref = s.ref := by simp [endFrame]
@[simp] theorem endFrame_ev (c : Counter) (s : State) : (endFrame c s).ev = s.ev := by simp [endFrame]
@[simp] theorem endFrame_ceil (c : Counter) (s : State) : (endFrame c s).ceil = s.ceil := by simp [endFrame]
@[simp] theorem endFrame_blend (c : Counter) (s : State) : (endFrame c s).blend = s.blend := by simp [endFrame]
@[simp] theorem endFrame_sand (c : Counter) (s : State) : (endFrame c s).sand = s.sand := by simp [endFrame]
@[simp] theorem endFrame_rw (c : Counter) (s : State) : (endFrame c s).rw = s.rw := by simp [endFrame]
@[simp] theorem endFrame_memory (c : Counter) (s : State) : (endFrame c s).memory = s.memory := by simp [endFrame]
@[simp] theorem endFrame_draws (c : Counter) (s : State) : (endFrame c s).draws = s.draws := by simp [endFrame]
@[simp] theorem endFrame_pending (c : Counter) (s : State) : (endFrame c s).pending = s.pending := by simp [endFrame]

/-! `linkUp` changes chain only. -/

@[simp] theorem linkUp_now (s : State) : (linkUp s).now = s.now := rfl
@[simp] theorem linkUp_pins (s : State) : (linkUp s).pins = s.pins := rfl
@[simp] theorem linkUp_lines (s : State) : (linkUp s).lines = s.lines := rfl
@[simp] theorem linkUp_ctl (s : State) : (linkUp s).ctl = s.ctl := rfl
@[simp] theorem linkUp_cfg (s : State) : (linkUp s).cfg = s.cfg := rfl
@[simp] theorem linkUp_ip (s : State) : (linkUp s).ip = s.ip := rfl
@[simp] theorem linkUp_intent (s : State) : (linkUp s).intent = s.intent := rfl
@[simp] theorem linkUp_axle (s : State) : (linkUp s).axle = s.axle := rfl
@[simp] theorem linkUp_ref (s : State) : (linkUp s).ref = s.ref := rfl
@[simp] theorem linkUp_ev (s : State) : (linkUp s).ev = s.ev := rfl
@[simp] theorem linkUp_ceil (s : State) : (linkUp s).ceil = s.ceil := rfl
@[simp] theorem linkUp_blend (s : State) : (linkUp s).blend = s.blend := rfl
@[simp] theorem linkUp_sand (s : State) : (linkUp s).sand = s.sand := rfl
@[simp] theorem linkUp_rep (s : State) : (linkUp s).rep = s.rep := rfl
@[simp] theorem linkUp_rw (s : State) : (linkUp s).rw = s.rw := rfl
@[simp] theorem linkUp_memory (s : State) : (linkUp s).memory = s.memory := rfl
@[simp] theorem linkUp_draws (s : State) : (linkUp s).draws = s.draws := rfl
@[simp] theorem linkUp_pending (s : State) : (linkUp s).pending = s.pending := rfl

/-! `alignPeriod` changes ev only. -/

@[simp] theorem alignPeriod_now (s : State) : (alignPeriod s).now = s.now := rfl
@[simp] theorem alignPeriod_pins (s : State) : (alignPeriod s).pins = s.pins := rfl
@[simp] theorem alignPeriod_lines (s : State) : (alignPeriod s).lines = s.lines := rfl
@[simp] theorem alignPeriod_ctl (s : State) : (alignPeriod s).ctl = s.ctl := rfl
@[simp] theorem alignPeriod_cfg (s : State) : (alignPeriod s).cfg = s.cfg := rfl
@[simp] theorem alignPeriod_ip (s : State) : (alignPeriod s).ip = s.ip := rfl
@[simp] theorem alignPeriod_intent (s : State) : (alignPeriod s).intent = s.intent := rfl
@[simp] theorem alignPeriod_axle (s : State) : (alignPeriod s).axle = s.axle := rfl
@[simp] theorem alignPeriod_ref (s : State) : (alignPeriod s).ref = s.ref := rfl
@[simp] theorem alignPeriod_ceil (s : State) : (alignPeriod s).ceil = s.ceil := rfl
@[simp] theorem alignPeriod_blend (s : State) : (alignPeriod s).blend = s.blend := rfl
@[simp] theorem alignPeriod_sand (s : State) : (alignPeriod s).sand = s.sand := rfl
@[simp] theorem alignPeriod_chain (s : State) : (alignPeriod s).chain = s.chain := rfl
@[simp] theorem alignPeriod_rep (s : State) : (alignPeriod s).rep = s.rep := rfl
@[simp] theorem alignPeriod_rw (s : State) : (alignPeriod s).rw = s.rw := rfl
@[simp] theorem alignPeriod_memory (s : State) : (alignPeriod s).memory = s.memory := rfl
@[simp] theorem alignPeriod_draws (s : State) : (alignPeriod s).draws = s.draws := rfl
@[simp] theorem alignPeriod_pending (s : State) : (alignPeriod s).pending = s.pending := rfl

/-! `bufferFrame` changes chain, rep only. -/

@[simp] theorem bufferFrame_now (f : Frame) (s : State) : (bufferFrame f s).now = s.now := by
  simp only [bufferFrame]; (repeat' split) <;> simp
@[simp] theorem bufferFrame_pins (f : Frame) (s : State) : (bufferFrame f s).pins = s.pins := by
  simp only [bufferFrame]; (repeat' split) <;> simp
@[simp] theorem bufferFrame_lines (f : Frame) (s : State) : (bufferFrame f s).lines = s.lines := by
  simp only [bufferFrame]; (repeat' split) <;> simp
@[simp] theorem bufferFrame_ctl (f : Frame) (s : State) : (bufferFrame f s).ctl = s.ctl := by
  simp only [bufferFrame]; (repeat' split) <;> simp
@[simp] theorem bufferFrame_cfg (f : Frame) (s : State) : (bufferFrame f s).cfg = s.cfg := by
  simp only [bufferFrame]; (repeat' split) <;> simp
@[simp] theorem bufferFrame_ip (f : Frame) (s : State) : (bufferFrame f s).ip = s.ip := by
  simp only [bufferFrame]; (repeat' split) <;> simp
@[simp] theorem bufferFrame_intent (f : Frame) (s : State) : (bufferFrame f s).intent = s.intent := by
  simp only [bufferFrame]; (repeat' split) <;> simp
@[simp] theorem bufferFrame_axle (f : Frame) (s : State) : (bufferFrame f s).axle = s.axle := by
  simp only [bufferFrame]; (repeat' split) <;> simp
@[simp] theorem bufferFrame_ref (f : Frame) (s : State) : (bufferFrame f s).ref = s.ref := by
  simp only [bufferFrame]; (repeat' split) <;> simp
@[simp] theorem bufferFrame_ev (f : Frame) (s : State) : (bufferFrame f s).ev = s.ev := by
  simp only [bufferFrame]; (repeat' split) <;> simp
@[simp] theorem bufferFrame_ceil (f : Frame) (s : State) : (bufferFrame f s).ceil = s.ceil := by
  simp only [bufferFrame]; (repeat' split) <;> simp
@[simp] theorem bufferFrame_blend (f : Frame) (s : State) : (bufferFrame f s).blend = s.blend := by
  simp only [bufferFrame]; (repeat' split) <;> simp
@[simp] theorem bufferFrame_sand (f : Frame) (s : State) : (bufferFrame f s).sand = s.sand := by
  simp only [bufferFrame]; (repeat' split) <;> simp
@[simp] theorem bufferFrame_rw (f : Frame) (s : State) : (bufferFrame f s).rw = s.rw := by
  simp only [bufferFrame]; (repeat' split) <;> simp
@[simp] theorem bufferFrame_memory (f : Frame) (s : State) : (bufferFrame f s).memory = s.memory := by
  simp only [bufferFrame]; (repeat' split) <;> simp
@[simp] theorem bufferFrame_draws (f : Frame) (s : State) : (bufferFrame f s).draws = s.draws := by
  simp only [bufferFrame]; (repeat' split) <;> simp
@[simp] theorem bufferFrame_pending (f : Frame) (s : State) : (bufferFrame f s).pending = s.pending := by
  simp only [bufferFrame]; (repeat' split) <;> simp

/-! `hunt` changes chain only. -/

@[simp] theorem hunt_now (s : State) : (hunt s).now = s.now := rfl
@[simp] theorem hunt_pins (s : State) : (hunt s).pins = s.pins := rfl
@[simp] theorem hunt_lines (s : State) : (hunt s).lines = s.lines := rfl
@[simp] theorem hunt_ctl (s : State) : (hunt s).ctl = s.ctl := rfl
@[simp] theorem hunt_cfg (s : State) : (hunt s).cfg = s.cfg := rfl
@[simp] theorem hunt_ip (s : State) : (hunt s).ip = s.ip := rfl
@[simp] theorem hunt_intent (s : State) : (hunt s).intent = s.intent := rfl
@[simp] theorem hunt_axle (s : State) : (hunt s).axle = s.axle := rfl
@[simp] theorem hunt_ref (s : State) : (hunt s).ref = s.ref := rfl
@[simp] theorem hunt_ev (s : State) : (hunt s).ev = s.ev := rfl
@[simp] theorem hunt_ceil (s : State) : (hunt s).ceil = s.ceil := rfl
@[simp] theorem hunt_blend (s : State) : (hunt s).blend = s.blend := rfl
@[simp] theorem hunt_sand (s : State) : (hunt s).sand = s.sand := rfl
@[simp] theorem hunt_rep (s : State) : (hunt s).rep = s.rep := rfl
@[simp] theorem hunt_rw (s : State) : (hunt s).rw = s.rw := rfl
@[simp] theorem hunt_memory (s : State) : (hunt s).memory = s.memory := rfl
@[simp] theorem hunt_draws (s : State) : (hunt s).draws = s.draws := rfl
@[simp] theorem hunt_pending (s : State) : (hunt s).pending = s.pending := rfl

/-! `completeFrame` changes chain, rep, ev only. -/

@[simp] theorem completeFrame_now (l : List FrameByte) (s : State) : (completeFrame l s).now = s.now := by
  simp only [completeFrame]; (repeat' split) <;> simp
@[simp] theorem completeFrame_pins (l : List FrameByte) (s : State) : (completeFrame l s).pins = s.pins := by
  simp only [completeFrame]; (repeat' split) <;> simp
@[simp] theorem completeFrame_lines (l : List FrameByte) (s : State) : (completeFrame l s).lines = s.lines := by
  simp only [completeFrame]; (repeat' split) <;> simp
@[simp] theorem completeFrame_ctl (l : List FrameByte) (s : State) : (completeFrame l s).ctl = s.ctl := by
  simp only [completeFrame]; (repeat' split) <;> simp
@[simp] theorem completeFrame_cfg (l : List FrameByte) (s : State) : (completeFrame l s).cfg = s.cfg := by
  simp only [completeFrame]; (repeat' split) <;> simp
@[simp] theorem completeFrame_ip (l : List FrameByte) (s : State) : (completeFrame l s).ip = s.ip := by
  simp only [completeFrame]; (repeat' split) <;> simp
@[simp] theorem completeFrame_intent (l : List FrameByte) (s : State) : (completeFrame l s).intent = s.intent := by
  simp only [completeFrame]; (repeat' split) <;> simp
@[simp] theorem completeFrame_axle (l : List FrameByte) (s : State) : (completeFrame l s).axle = s.axle := by
  simp only [completeFrame]; (repeat' split) <;> simp
@[simp] theorem completeFrame_ref (l : List FrameByte) (s : State) : (completeFrame l s).ref = s.ref := by
  simp only [completeFrame]; (repeat' split) <;> simp
@[simp] theorem completeFrame_ceil (l : List FrameByte) (s : State) : (completeFrame l s).ceil = s.ceil := by
  simp only [completeFrame]; (repeat' split) <;> simp
@[simp] theorem completeFrame_blend (l : List FrameByte) (s : State) : (completeFrame l s).blend = s.blend := by
  simp only [completeFrame]; (repeat' split) <;> simp
@[simp] theorem completeFrame_sand (l : List FrameByte) (s : State) : (completeFrame l s).sand = s.sand := by
  simp only [completeFrame]; (repeat' split) <;> simp
@[simp] theorem completeFrame_rw (l : List FrameByte) (s : State) : (completeFrame l s).rw = s.rw := by
  simp only [completeFrame]; (repeat' split) <;> simp
@[simp] theorem completeFrame_memory (l : List FrameByte) (s : State) : (completeFrame l s).memory = s.memory := by
  simp only [completeFrame]; (repeat' split) <;> simp
@[simp] theorem completeFrame_draws (l : List FrameByte) (s : State) : (completeFrame l s).draws = s.draws := by
  simp only [completeFrame]; (repeat' split) <;> simp
@[simp] theorem completeFrame_pending (l : List FrameByte) (s : State) : (completeFrame l s).pending = s.pending := by
  simp only [completeFrame]; (repeat' split) <;> simp

/-! `receiveByte` changes chain, rep, ev only. -/

@[simp] theorem receiveByte_now (b : FrameByte) (s : State) : (receiveByte b s).now = s.now := by
  simp only [receiveByte]; (repeat' split) <;> simp
@[simp] theorem receiveByte_pins (b : FrameByte) (s : State) : (receiveByte b s).pins = s.pins := by
  simp only [receiveByte]; (repeat' split) <;> simp
@[simp] theorem receiveByte_lines (b : FrameByte) (s : State) : (receiveByte b s).lines = s.lines := by
  simp only [receiveByte]; (repeat' split) <;> simp
@[simp] theorem receiveByte_ctl (b : FrameByte) (s : State) : (receiveByte b s).ctl = s.ctl := by
  simp only [receiveByte]; (repeat' split) <;> simp
@[simp] theorem receiveByte_cfg (b : FrameByte) (s : State) : (receiveByte b s).cfg = s.cfg := by
  simp only [receiveByte]; (repeat' split) <;> simp
@[simp] theorem receiveByte_ip (b : FrameByte) (s : State) : (receiveByte b s).ip = s.ip := by
  simp only [receiveByte]; (repeat' split) <;> simp
@[simp] theorem receiveByte_intent (b : FrameByte) (s : State) : (receiveByte b s).intent = s.intent := by
  simp only [receiveByte]; (repeat' split) <;> simp
@[simp] theorem receiveByte_axle (b : FrameByte) (s : State) : (receiveByte b s).axle = s.axle := by
  simp only [receiveByte]; (repeat' split) <;> simp
@[simp] theorem receiveByte_ref (b : FrameByte) (s : State) : (receiveByte b s).ref = s.ref := by
  simp only [receiveByte]; (repeat' split) <;> simp
@[simp] theorem receiveByte_ceil (b : FrameByte) (s : State) : (receiveByte b s).ceil = s.ceil := by
  simp only [receiveByte]; (repeat' split) <;> simp
@[simp] theorem receiveByte_blend (b : FrameByte) (s : State) : (receiveByte b s).blend = s.blend := by
  simp only [receiveByte]; (repeat' split) <;> simp
@[simp] theorem receiveByte_sand (b : FrameByte) (s : State) : (receiveByte b s).sand = s.sand := by
  simp only [receiveByte]; (repeat' split) <;> simp
@[simp] theorem receiveByte_rw (b : FrameByte) (s : State) : (receiveByte b s).rw = s.rw := by
  simp only [receiveByte]; (repeat' split) <;> simp
@[simp] theorem receiveByte_memory (b : FrameByte) (s : State) : (receiveByte b s).memory = s.memory := by
  simp only [receiveByte]; (repeat' split) <;> simp
@[simp] theorem receiveByte_draws (b : FrameByte) (s : State) : (receiveByte b s).draws = s.draws := by
  simp only [receiveByte]; (repeat' split) <;> simp
@[simp] theorem receiveByte_pending (b : FrameByte) (s : State) : (receiveByte b s).pending = s.pending := by
  simp only [receiveByte]; (repeat' split) <;> simp

/-! `framingError` changes chain, rep only. -/

@[simp] theorem framingError_now (s : State) : (framingError s).now = s.now := by
  simp only [framingError]; (repeat' split) <;> simp
@[simp] theorem framingError_pins (s : State) : (framingError s).pins = s.pins := by
  simp only [framingError]; (repeat' split) <;> simp
@[simp] theorem framingError_lines (s : State) : (framingError s).lines = s.lines := by
  simp only [framingError]; (repeat' split) <;> simp
@[simp] theorem framingError_ctl (s : State) : (framingError s).ctl = s.ctl := by
  simp only [framingError]; (repeat' split) <;> simp
@[simp] theorem framingError_cfg (s : State) : (framingError s).cfg = s.cfg := by
  simp only [framingError]; (repeat' split) <;> simp
@[simp] theorem framingError_ip (s : State) : (framingError s).ip = s.ip := by
  simp only [framingError]; (repeat' split) <;> simp
@[simp] theorem framingError_intent (s : State) : (framingError s).intent = s.intent := by
  simp only [framingError]; (repeat' split) <;> simp
@[simp] theorem framingError_axle (s : State) : (framingError s).axle = s.axle := by
  simp only [framingError]; (repeat' split) <;> simp
@[simp] theorem framingError_ref (s : State) : (framingError s).ref = s.ref := by
  simp only [framingError]; (repeat' split) <;> simp
@[simp] theorem framingError_ev (s : State) : (framingError s).ev = s.ev := by
  simp only [framingError]; (repeat' split) <;> simp
@[simp] theorem framingError_ceil (s : State) : (framingError s).ceil = s.ceil := by
  simp only [framingError]; (repeat' split) <;> simp
@[simp] theorem framingError_blend (s : State) : (framingError s).blend = s.blend := by
  simp only [framingError]; (repeat' split) <;> simp
@[simp] theorem framingError_sand (s : State) : (framingError s).sand = s.sand := by
  simp only [framingError]; (repeat' split) <;> simp
@[simp] theorem framingError_rw (s : State) : (framingError s).rw = s.rw := by
  simp only [framingError]; (repeat' split) <;> simp
@[simp] theorem framingError_memory (s : State) : (framingError s).memory = s.memory := by
  simp only [framingError]; (repeat' split) <;> simp
@[simp] theorem framingError_draws (s : State) : (framingError s).draws = s.draws := by
  simp only [framingError]; (repeat' split) <;> simp
@[simp] theorem framingError_pending (s : State) : (framingError s).pending = s.pending := by
  simp only [framingError]; (repeat' split) <;> simp

/-! `frameIncomplete` changes chain, rep only. -/

@[simp] theorem frameIncomplete_now (s : State) : (frameIncomplete s).now = s.now := by
  simp only [frameIncomplete]; (repeat' split) <;> simp
@[simp] theorem frameIncomplete_pins (s : State) : (frameIncomplete s).pins = s.pins := by
  simp only [frameIncomplete]; (repeat' split) <;> simp
@[simp] theorem frameIncomplete_lines (s : State) : (frameIncomplete s).lines = s.lines := by
  simp only [frameIncomplete]; (repeat' split) <;> simp
@[simp] theorem frameIncomplete_ctl (s : State) : (frameIncomplete s).ctl = s.ctl := by
  simp only [frameIncomplete]; (repeat' split) <;> simp
@[simp] theorem frameIncomplete_cfg (s : State) : (frameIncomplete s).cfg = s.cfg := by
  simp only [frameIncomplete]; (repeat' split) <;> simp
@[simp] theorem frameIncomplete_ip (s : State) : (frameIncomplete s).ip = s.ip := by
  simp only [frameIncomplete]; (repeat' split) <;> simp
@[simp] theorem frameIncomplete_intent (s : State) : (frameIncomplete s).intent = s.intent := by
  simp only [frameIncomplete]; (repeat' split) <;> simp
@[simp] theorem frameIncomplete_axle (s : State) : (frameIncomplete s).axle = s.axle := by
  simp only [frameIncomplete]; (repeat' split) <;> simp
@[simp] theorem frameIncomplete_ref (s : State) : (frameIncomplete s).ref = s.ref := by
  simp only [frameIncomplete]; (repeat' split) <;> simp
@[simp] theorem frameIncomplete_ev (s : State) : (frameIncomplete s).ev = s.ev := by
  simp only [frameIncomplete]; (repeat' split) <;> simp
@[simp] theorem frameIncomplete_ceil (s : State) : (frameIncomplete s).ceil = s.ceil := by
  simp only [frameIncomplete]; (repeat' split) <;> simp
@[simp] theorem frameIncomplete_blend (s : State) : (frameIncomplete s).blend = s.blend := by
  simp only [frameIncomplete]; (repeat' split) <;> simp
@[simp] theorem frameIncomplete_sand (s : State) : (frameIncomplete s).sand = s.sand := by
  simp only [frameIncomplete]; (repeat' split) <;> simp
@[simp] theorem frameIncomplete_rw (s : State) : (frameIncomplete s).rw = s.rw := by
  simp only [frameIncomplete]; (repeat' split) <;> simp
@[simp] theorem frameIncomplete_memory (s : State) : (frameIncomplete s).memory = s.memory := by
  simp only [frameIncomplete]; (repeat' split) <;> simp
@[simp] theorem frameIncomplete_draws (s : State) : (frameIncomplete s).draws = s.draws := by
  simp only [frameIncomplete]; (repeat' split) <;> simp
@[simp] theorem frameIncomplete_pending (s : State) : (frameIncomplete s).pending = s.pending := by
  simp only [frameIncomplete]; (repeat' split) <;> simp

/-! `silenceEnd` changes chain, rep only. -/

@[simp] theorem silenceEnd_now (s : State) : (silenceEnd s).now = s.now := by simp [silenceEnd]
@[simp] theorem silenceEnd_pins (s : State) : (silenceEnd s).pins = s.pins := by simp [silenceEnd]
@[simp] theorem silenceEnd_lines (s : State) : (silenceEnd s).lines = s.lines := by simp [silenceEnd]
@[simp] theorem silenceEnd_ctl (s : State) : (silenceEnd s).ctl = s.ctl := by simp [silenceEnd]
@[simp] theorem silenceEnd_cfg (s : State) : (silenceEnd s).cfg = s.cfg := by simp [silenceEnd]
@[simp] theorem silenceEnd_ip (s : State) : (silenceEnd s).ip = s.ip := by simp [silenceEnd]
@[simp] theorem silenceEnd_intent (s : State) : (silenceEnd s).intent = s.intent := by simp [silenceEnd]
@[simp] theorem silenceEnd_axle (s : State) : (silenceEnd s).axle = s.axle := by simp [silenceEnd]
@[simp] theorem silenceEnd_ref (s : State) : (silenceEnd s).ref = s.ref := by simp [silenceEnd]
@[simp] theorem silenceEnd_ev (s : State) : (silenceEnd s).ev = s.ev := by simp [silenceEnd]
@[simp] theorem silenceEnd_ceil (s : State) : (silenceEnd s).ceil = s.ceil := by simp [silenceEnd]
@[simp] theorem silenceEnd_blend (s : State) : (silenceEnd s).blend = s.blend := by simp [silenceEnd]
@[simp] theorem silenceEnd_sand (s : State) : (silenceEnd s).sand = s.sand := by simp [silenceEnd]
@[simp] theorem silenceEnd_rw (s : State) : (silenceEnd s).rw = s.rw := by simp [silenceEnd]
@[simp] theorem silenceEnd_memory (s : State) : (silenceEnd s).memory = s.memory := by simp [silenceEnd]
@[simp] theorem silenceEnd_draws (s : State) : (silenceEnd s).draws = s.draws := by simp [silenceEnd]
@[simp] theorem silenceEnd_pending (s : State) : (silenceEnd s).pending = s.pending := by simp [silenceEnd]

/-! `transmit` changes chain, ceil, rep only. -/

@[simp] theorem transmit_now (s : State) : (transmit s).now = s.now := by simp [transmit]
@[simp] theorem transmit_pins (s : State) : (transmit s).pins = s.pins := by simp [transmit]
@[simp] theorem transmit_lines (s : State) : (transmit s).lines = s.lines := by simp [transmit]
@[simp] theorem transmit_ctl (s : State) : (transmit s).ctl = s.ctl := by simp [transmit]
@[simp] theorem transmit_cfg (s : State) : (transmit s).cfg = s.cfg := by simp [transmit]
@[simp] theorem transmit_ip (s : State) : (transmit s).ip = s.ip := by simp [transmit]
@[simp] theorem transmit_intent (s : State) : (transmit s).intent = s.intent := by simp [transmit]
@[simp] theorem transmit_axle (s : State) : (transmit s).axle = s.axle := by simp [transmit]
@[simp] theorem transmit_ref (s : State) : (transmit s).ref = s.ref := by simp [transmit]
@[simp] theorem transmit_ev (s : State) : (transmit s).ev = s.ev := by simp [transmit]
@[simp] theorem transmit_blend (s : State) : (transmit s).blend = s.blend := by simp [transmit]
@[simp] theorem transmit_sand (s : State) : (transmit s).sand = s.sand := by simp [transmit]
@[simp] theorem transmit_rw (s : State) : (transmit s).rw = s.rw := by simp [transmit]
@[simp] theorem transmit_memory (s : State) : (transmit s).memory = s.memory := by simp [transmit]
@[simp] theorem transmit_draws (s : State) : (transmit s).draws = s.draws := by simp [transmit]
@[simp] theorem transmit_pending (s : State) : (transmit s).pending = s.pending := by simp [transmit]

/-! `chainEnterActive` changes chain only. -/

@[simp] theorem chainEnterActive_now (s : State) : (chainEnterActive s).now = s.now := rfl
@[simp] theorem chainEnterActive_pins (s : State) : (chainEnterActive s).pins = s.pins := rfl
@[simp] theorem chainEnterActive_lines (s : State) : (chainEnterActive s).lines = s.lines := rfl
@[simp] theorem chainEnterActive_ctl (s : State) : (chainEnterActive s).ctl = s.ctl := rfl
@[simp] theorem chainEnterActive_cfg (s : State) : (chainEnterActive s).cfg = s.cfg := rfl
@[simp] theorem chainEnterActive_ip (s : State) : (chainEnterActive s).ip = s.ip := rfl
@[simp] theorem chainEnterActive_intent (s : State) : (chainEnterActive s).intent = s.intent := rfl
@[simp] theorem chainEnterActive_axle (s : State) : (chainEnterActive s).axle = s.axle := rfl
@[simp] theorem chainEnterActive_ref (s : State) : (chainEnterActive s).ref = s.ref := rfl
@[simp] theorem chainEnterActive_ev (s : State) : (chainEnterActive s).ev = s.ev := rfl
@[simp] theorem chainEnterActive_ceil (s : State) : (chainEnterActive s).ceil = s.ceil := rfl
@[simp] theorem chainEnterActive_blend (s : State) : (chainEnterActive s).blend = s.blend := rfl
@[simp] theorem chainEnterActive_sand (s : State) : (chainEnterActive s).sand = s.sand := rfl
@[simp] theorem chainEnterActive_rep (s : State) : (chainEnterActive s).rep = s.rep := rfl
@[simp] theorem chainEnterActive_rw (s : State) : (chainEnterActive s).rw = s.rw := rfl
@[simp] theorem chainEnterActive_memory (s : State) : (chainEnterActive s).memory = s.memory := rfl
@[simp] theorem chainEnterActive_draws (s : State) : (chainEnterActive s).draws = s.draws := rfl
@[simp] theorem chainEnterActive_pending (s : State) : (chainEnterActive s).pending = s.pending := rfl

/-! `chainGoSetup` changes chain only. -/

@[simp] theorem chainGoSetup_now (s : State) : (chainGoSetup s).now = s.now := rfl
@[simp] theorem chainGoSetup_pins (s : State) : (chainGoSetup s).pins = s.pins := rfl
@[simp] theorem chainGoSetup_lines (s : State) : (chainGoSetup s).lines = s.lines := rfl
@[simp] theorem chainGoSetup_ctl (s : State) : (chainGoSetup s).ctl = s.ctl := rfl
@[simp] theorem chainGoSetup_cfg (s : State) : (chainGoSetup s).cfg = s.cfg := rfl
@[simp] theorem chainGoSetup_ip (s : State) : (chainGoSetup s).ip = s.ip := rfl
@[simp] theorem chainGoSetup_intent (s : State) : (chainGoSetup s).intent = s.intent := rfl
@[simp] theorem chainGoSetup_axle (s : State) : (chainGoSetup s).axle = s.axle := rfl
@[simp] theorem chainGoSetup_ref (s : State) : (chainGoSetup s).ref = s.ref := rfl
@[simp] theorem chainGoSetup_ev (s : State) : (chainGoSetup s).ev = s.ev := rfl
@[simp] theorem chainGoSetup_ceil (s : State) : (chainGoSetup s).ceil = s.ceil := rfl
@[simp] theorem chainGoSetup_blend (s : State) : (chainGoSetup s).blend = s.blend := rfl
@[simp] theorem chainGoSetup_sand (s : State) : (chainGoSetup s).sand = s.sand := rfl
@[simp] theorem chainGoSetup_rep (s : State) : (chainGoSetup s).rep = s.rep := rfl
@[simp] theorem chainGoSetup_rw (s : State) : (chainGoSetup s).rw = s.rw := rfl
@[simp] theorem chainGoSetup_memory (s : State) : (chainGoSetup s).memory = s.memory := rfl
@[simp] theorem chainGoSetup_draws (s : State) : (chainGoSetup s).draws = s.draws := rfl
@[simp] theorem chainGoSetup_pending (s : State) : (chainGoSetup s).pending = s.pending := rfl

/-! `chainStandby` changes chain only. -/

@[simp] theorem chainStandby_now (s : State) : (chainStandby s).now = s.now := rfl
@[simp] theorem chainStandby_pins (s : State) : (chainStandby s).pins = s.pins := rfl
@[simp] theorem chainStandby_lines (s : State) : (chainStandby s).lines = s.lines := rfl
@[simp] theorem chainStandby_ctl (s : State) : (chainStandby s).ctl = s.ctl := rfl
@[simp] theorem chainStandby_cfg (s : State) : (chainStandby s).cfg = s.cfg := rfl
@[simp] theorem chainStandby_ip (s : State) : (chainStandby s).ip = s.ip := rfl
@[simp] theorem chainStandby_intent (s : State) : (chainStandby s).intent = s.intent := rfl
@[simp] theorem chainStandby_axle (s : State) : (chainStandby s).axle = s.axle := rfl
@[simp] theorem chainStandby_ref (s : State) : (chainStandby s).ref = s.ref := rfl
@[simp] theorem chainStandby_ev (s : State) : (chainStandby s).ev = s.ev := rfl
@[simp] theorem chainStandby_ceil (s : State) : (chainStandby s).ceil = s.ceil := rfl
@[simp] theorem chainStandby_blend (s : State) : (chainStandby s).blend = s.blend := rfl
@[simp] theorem chainStandby_sand (s : State) : (chainStandby s).sand = s.sand := rfl
@[simp] theorem chainStandby_rep (s : State) : (chainStandby s).rep = s.rep := rfl
@[simp] theorem chainStandby_rw (s : State) : (chainStandby s).rw = s.rw := rfl
@[simp] theorem chainStandby_memory (s : State) : (chainStandby s).memory = s.memory := rfl
@[simp] theorem chainStandby_draws (s : State) : (chainStandby s).draws = s.draws := rfl
@[simp] theorem chainStandby_pending (s : State) : (chainStandby s).pending = s.pending := rfl

/-! `chainWake` changes chain only. -/

@[simp] theorem chainWake_now (b : Bool) (s : State) : (chainWake b s).now = s.now := rfl
@[simp] theorem chainWake_pins (b : Bool) (s : State) : (chainWake b s).pins = s.pins := rfl
@[simp] theorem chainWake_lines (b : Bool) (s : State) : (chainWake b s).lines = s.lines := rfl
@[simp] theorem chainWake_ctl (b : Bool) (s : State) : (chainWake b s).ctl = s.ctl := rfl
@[simp] theorem chainWake_cfg (b : Bool) (s : State) : (chainWake b s).cfg = s.cfg := rfl
@[simp] theorem chainWake_ip (b : Bool) (s : State) : (chainWake b s).ip = s.ip := rfl
@[simp] theorem chainWake_intent (b : Bool) (s : State) : (chainWake b s).intent = s.intent := rfl
@[simp] theorem chainWake_axle (b : Bool) (s : State) : (chainWake b s).axle = s.axle := rfl
@[simp] theorem chainWake_ref (b : Bool) (s : State) : (chainWake b s).ref = s.ref := rfl
@[simp] theorem chainWake_ev (b : Bool) (s : State) : (chainWake b s).ev = s.ev := rfl
@[simp] theorem chainWake_ceil (b : Bool) (s : State) : (chainWake b s).ceil = s.ceil := rfl
@[simp] theorem chainWake_blend (b : Bool) (s : State) : (chainWake b s).blend = s.blend := rfl
@[simp] theorem chainWake_sand (b : Bool) (s : State) : (chainWake b s).sand = s.sand := rfl
@[simp] theorem chainWake_rep (b : Bool) (s : State) : (chainWake b s).rep = s.rep := rfl
@[simp] theorem chainWake_rw (b : Bool) (s : State) : (chainWake b s).rw = s.rw := rfl
@[simp] theorem chainWake_memory (b : Bool) (s : State) : (chainWake b s).memory = s.memory := rfl
@[simp] theorem chainWake_draws (b : Bool) (s : State) : (chainWake b s).draws = s.draws := rfl
@[simp] theorem chainWake_pending (b : Bool) (s : State) : (chainWake b s).pending = s.pending := rfl

/-! `chainRestart` changes chain only. -/

@[simp] theorem chainRestart_now (s : State) : (chainRestart s).now = s.now := rfl
@[simp] theorem chainRestart_pins (s : State) : (chainRestart s).pins = s.pins := rfl
@[simp] theorem chainRestart_lines (s : State) : (chainRestart s).lines = s.lines := rfl
@[simp] theorem chainRestart_ctl (s : State) : (chainRestart s).ctl = s.ctl := rfl
@[simp] theorem chainRestart_cfg (s : State) : (chainRestart s).cfg = s.cfg := rfl
@[simp] theorem chainRestart_ip (s : State) : (chainRestart s).ip = s.ip := rfl
@[simp] theorem chainRestart_intent (s : State) : (chainRestart s).intent = s.intent := rfl
@[simp] theorem chainRestart_axle (s : State) : (chainRestart s).axle = s.axle := rfl
@[simp] theorem chainRestart_ref (s : State) : (chainRestart s).ref = s.ref := rfl
@[simp] theorem chainRestart_ev (s : State) : (chainRestart s).ev = s.ev := rfl
@[simp] theorem chainRestart_ceil (s : State) : (chainRestart s).ceil = s.ceil := rfl
@[simp] theorem chainRestart_blend (s : State) : (chainRestart s).blend = s.blend := rfl
@[simp] theorem chainRestart_sand (s : State) : (chainRestart s).sand = s.sand := rfl
@[simp] theorem chainRestart_rep (s : State) : (chainRestart s).rep = s.rep := rfl
@[simp] theorem chainRestart_rw (s : State) : (chainRestart s).rw = s.rw := rfl
@[simp] theorem chainRestart_memory (s : State) : (chainRestart s).memory = s.memory := rfl
@[simp] theorem chainRestart_draws (s : State) : (chainRestart s).draws = s.draws := rfl
@[simp] theorem chainRestart_pending (s : State) : (chainRestart s).pending = s.pending := rfl

/-! `updateDue` changes rw only. -/

@[simp] theorem updateDue_now (s : State) : (updateDue s).now = s.now := rfl
@[simp] theorem updateDue_pins (s : State) : (updateDue s).pins = s.pins := rfl
@[simp] theorem updateDue_lines (s : State) : (updateDue s).lines = s.lines := rfl
@[simp] theorem updateDue_ctl (s : State) : (updateDue s).ctl = s.ctl := rfl
@[simp] theorem updateDue_cfg (s : State) : (updateDue s).cfg = s.cfg := rfl
@[simp] theorem updateDue_ip (s : State) : (updateDue s).ip = s.ip := rfl
@[simp] theorem updateDue_intent (s : State) : (updateDue s).intent = s.intent := rfl
@[simp] theorem updateDue_axle (s : State) : (updateDue s).axle = s.axle := rfl
@[simp] theorem updateDue_ref (s : State) : (updateDue s).ref = s.ref := rfl
@[simp] theorem updateDue_ev (s : State) : (updateDue s).ev = s.ev := rfl
@[simp] theorem updateDue_ceil (s : State) : (updateDue s).ceil = s.ceil := rfl
@[simp] theorem updateDue_blend (s : State) : (updateDue s).blend = s.blend := rfl
@[simp] theorem updateDue_sand (s : State) : (updateDue s).sand = s.sand := rfl
@[simp] theorem updateDue_chain (s : State) : (updateDue s).chain = s.chain := rfl
@[simp] theorem updateDue_rep (s : State) : (updateDue s).rep = s.rep := rfl
@[simp] theorem updateDue_memory (s : State) : (updateDue s).memory = s.memory := rfl
@[simp] theorem updateDue_draws (s : State) : (updateDue s).draws = s.draws := rfl
@[simp] theorem updateDue_pending (s : State) : (updateDue s).pending = s.pending := rfl

/-! `reportEnd` changes rw only. -/

@[simp] theorem reportEnd_now (s : State) : (reportEnd s).now = s.now := by simp [reportEnd]
@[simp] theorem reportEnd_pins (s : State) : (reportEnd s).pins = s.pins := by simp [reportEnd]
@[simp] theorem reportEnd_lines (s : State) : (reportEnd s).lines = s.lines := by simp [reportEnd]
@[simp] theorem reportEnd_ctl (s : State) : (reportEnd s).ctl = s.ctl := by simp [reportEnd]
@[simp] theorem reportEnd_cfg (s : State) : (reportEnd s).cfg = s.cfg := by simp [reportEnd]
@[simp] theorem reportEnd_ip (s : State) : (reportEnd s).ip = s.ip := by simp [reportEnd]
@[simp] theorem reportEnd_intent (s : State) : (reportEnd s).intent = s.intent := by simp [reportEnd]
@[simp] theorem reportEnd_axle (s : State) : (reportEnd s).axle = s.axle := by simp [reportEnd]
@[simp] theorem reportEnd_ref (s : State) : (reportEnd s).ref = s.ref := by simp [reportEnd]
@[simp] theorem reportEnd_ev (s : State) : (reportEnd s).ev = s.ev := by simp [reportEnd]
@[simp] theorem reportEnd_ceil (s : State) : (reportEnd s).ceil = s.ceil := by simp [reportEnd]
@[simp] theorem reportEnd_blend (s : State) : (reportEnd s).blend = s.blend := by simp [reportEnd]
@[simp] theorem reportEnd_sand (s : State) : (reportEnd s).sand = s.sand := by simp [reportEnd]
@[simp] theorem reportEnd_chain (s : State) : (reportEnd s).chain = s.chain := by simp [reportEnd]
@[simp] theorem reportEnd_rep (s : State) : (reportEnd s).rep = s.rep := by simp [reportEnd]
@[simp] theorem reportEnd_memory (s : State) : (reportEnd s).memory = s.memory := by simp [reportEnd]
@[simp] theorem reportEnd_draws (s : State) : (reportEnd s).draws = s.draws := by simp [reportEnd]
@[simp] theorem reportEnd_pending (s : State) : (reportEnd s).pending = s.pending := by simp [reportEnd]

/-! `reportStart` changes rw only. -/

@[simp] theorem reportStart_now (s : State) : (reportStart s).now = s.now := by simp [reportStart]
@[simp] theorem reportStart_pins (s : State) : (reportStart s).pins = s.pins := by simp [reportStart]
@[simp] theorem reportStart_lines (s : State) : (reportStart s).lines = s.lines := by simp [reportStart]
@[simp] theorem reportStart_ctl (s : State) : (reportStart s).ctl = s.ctl := by simp [reportStart]
@[simp] theorem reportStart_cfg (s : State) : (reportStart s).cfg = s.cfg := by simp [reportStart]
@[simp] theorem reportStart_ip (s : State) : (reportStart s).ip = s.ip := by simp [reportStart]
@[simp] theorem reportStart_intent (s : State) : (reportStart s).intent = s.intent := by simp [reportStart]
@[simp] theorem reportStart_axle (s : State) : (reportStart s).axle = s.axle := by simp [reportStart]
@[simp] theorem reportStart_ref (s : State) : (reportStart s).ref = s.ref := by simp [reportStart]
@[simp] theorem reportStart_ev (s : State) : (reportStart s).ev = s.ev := by simp [reportStart]
@[simp] theorem reportStart_ceil (s : State) : (reportStart s).ceil = s.ceil := by simp [reportStart]
@[simp] theorem reportStart_blend (s : State) : (reportStart s).blend = s.blend := by simp [reportStart]
@[simp] theorem reportStart_sand (s : State) : (reportStart s).sand = s.sand := by simp [reportStart]
@[simp] theorem reportStart_chain (s : State) : (reportStart s).chain = s.chain := by simp [reportStart]
@[simp] theorem reportStart_rep (s : State) : (reportStart s).rep = s.rep := by simp [reportStart]
@[simp] theorem reportStart_memory (s : State) : (reportStart s).memory = s.memory := by simp [reportStart]
@[simp] theorem reportStart_draws (s : State) : (reportStart s).draws = s.draws := by simp [reportStart]
@[simp] theorem reportStart_pending (s : State) : (reportStart s).pending = s.pending := by simp [reportStart]

/-! `reportAdvance` changes rw only. -/

@[simp] theorem reportAdvance_now (s : State) : (reportAdvance s).now = s.now := rfl
@[simp] theorem reportAdvance_pins (s : State) : (reportAdvance s).pins = s.pins := rfl
@[simp] theorem reportAdvance_lines (s : State) : (reportAdvance s).lines = s.lines := rfl
@[simp] theorem reportAdvance_ctl (s : State) : (reportAdvance s).ctl = s.ctl := rfl
@[simp] theorem reportAdvance_cfg (s : State) : (reportAdvance s).cfg = s.cfg := rfl
@[simp] theorem reportAdvance_ip (s : State) : (reportAdvance s).ip = s.ip := rfl
@[simp] theorem reportAdvance_intent (s : State) : (reportAdvance s).intent = s.intent := rfl
@[simp] theorem reportAdvance_axle (s : State) : (reportAdvance s).axle = s.axle := rfl
@[simp] theorem reportAdvance_ref (s : State) : (reportAdvance s).ref = s.ref := rfl
@[simp] theorem reportAdvance_ev (s : State) : (reportAdvance s).ev = s.ev := rfl
@[simp] theorem reportAdvance_ceil (s : State) : (reportAdvance s).ceil = s.ceil := rfl
@[simp] theorem reportAdvance_blend (s : State) : (reportAdvance s).blend = s.blend := rfl
@[simp] theorem reportAdvance_sand (s : State) : (reportAdvance s).sand = s.sand := rfl
@[simp] theorem reportAdvance_chain (s : State) : (reportAdvance s).chain = s.chain := rfl
@[simp] theorem reportAdvance_rep (s : State) : (reportAdvance s).rep = s.rep := rfl
@[simp] theorem reportAdvance_memory (s : State) : (reportAdvance s).memory = s.memory := rfl
@[simp] theorem reportAdvance_draws (s : State) : (reportAdvance s).draws = s.draws := rfl
@[simp] theorem reportAdvance_pending (s : State) : (reportAdvance s).pending = s.pending := rfl

/-! `reportStandby` changes rw only. -/

@[simp] theorem reportStandby_now (s : State) : (reportStandby s).now = s.now := rfl
@[simp] theorem reportStandby_pins (s : State) : (reportStandby s).pins = s.pins := rfl
@[simp] theorem reportStandby_lines (s : State) : (reportStandby s).lines = s.lines := rfl
@[simp] theorem reportStandby_ctl (s : State) : (reportStandby s).ctl = s.ctl := rfl
@[simp] theorem reportStandby_cfg (s : State) : (reportStandby s).cfg = s.cfg := rfl
@[simp] theorem reportStandby_ip (s : State) : (reportStandby s).ip = s.ip := rfl
@[simp] theorem reportStandby_intent (s : State) : (reportStandby s).intent = s.intent := rfl
@[simp] theorem reportStandby_axle (s : State) : (reportStandby s).axle = s.axle := rfl
@[simp] theorem reportStandby_ref (s : State) : (reportStandby s).ref = s.ref := rfl
@[simp] theorem reportStandby_ev (s : State) : (reportStandby s).ev = s.ev := rfl
@[simp] theorem reportStandby_ceil (s : State) : (reportStandby s).ceil = s.ceil := rfl
@[simp] theorem reportStandby_blend (s : State) : (reportStandby s).blend = s.blend := rfl
@[simp] theorem reportStandby_sand (s : State) : (reportStandby s).sand = s.sand := rfl
@[simp] theorem reportStandby_chain (s : State) : (reportStandby s).chain = s.chain := rfl
@[simp] theorem reportStandby_rep (s : State) : (reportStandby s).rep = s.rep := rfl
@[simp] theorem reportStandby_memory (s : State) : (reportStandby s).memory = s.memory := rfl
@[simp] theorem reportStandby_draws (s : State) : (reportStandby s).draws = s.draws := rfl
@[simp] theorem reportStandby_pending (s : State) : (reportStandby s).pending = s.pending := rfl

/-! `reportRestart` changes rw only. -/

@[simp] theorem reportRestart_now (s : State) : (reportRestart s).now = s.now := rfl
@[simp] theorem reportRestart_pins (s : State) : (reportRestart s).pins = s.pins := rfl
@[simp] theorem reportRestart_lines (s : State) : (reportRestart s).lines = s.lines := rfl
@[simp] theorem reportRestart_ctl (s : State) : (reportRestart s).ctl = s.ctl := rfl
@[simp] theorem reportRestart_cfg (s : State) : (reportRestart s).cfg = s.cfg := rfl
@[simp] theorem reportRestart_ip (s : State) : (reportRestart s).ip = s.ip := rfl
@[simp] theorem reportRestart_intent (s : State) : (reportRestart s).intent = s.intent := rfl
@[simp] theorem reportRestart_axle (s : State) : (reportRestart s).axle = s.axle := rfl
@[simp] theorem reportRestart_ref (s : State) : (reportRestart s).ref = s.ref := rfl
@[simp] theorem reportRestart_ev (s : State) : (reportRestart s).ev = s.ev := rfl
@[simp] theorem reportRestart_ceil (s : State) : (reportRestart s).ceil = s.ceil := rfl
@[simp] theorem reportRestart_blend (s : State) : (reportRestart s).blend = s.blend := rfl
@[simp] theorem reportRestart_sand (s : State) : (reportRestart s).sand = s.sand := rfl
@[simp] theorem reportRestart_chain (s : State) : (reportRestart s).chain = s.chain := rfl
@[simp] theorem reportRestart_rep (s : State) : (reportRestart s).rep = s.rep := rfl
@[simp] theorem reportRestart_memory (s : State) : (reportRestart s).memory = s.memory := rfl
@[simp] theorem reportRestart_draws (s : State) : (reportRestart s).draws = s.draws := rfl
@[simp] theorem reportRestart_pending (s : State) : (reportRestart s).pending = s.pending := rfl

/-! `releaseHolds` changes ip only. -/

@[simp] theorem releaseHolds_now (s : State) : (releaseHolds s).now = s.now := rfl
@[simp] theorem releaseHolds_pins (s : State) : (releaseHolds s).pins = s.pins := rfl
@[simp] theorem releaseHolds_lines (s : State) : (releaseHolds s).lines = s.lines := rfl
@[simp] theorem releaseHolds_ctl (s : State) : (releaseHolds s).ctl = s.ctl := rfl
@[simp] theorem releaseHolds_cfg (s : State) : (releaseHolds s).cfg = s.cfg := rfl
@[simp] theorem releaseHolds_intent (s : State) : (releaseHolds s).intent = s.intent := rfl
@[simp] theorem releaseHolds_axle (s : State) : (releaseHolds s).axle = s.axle := rfl
@[simp] theorem releaseHolds_ref (s : State) : (releaseHolds s).ref = s.ref := rfl
@[simp] theorem releaseHolds_ev (s : State) : (releaseHolds s).ev = s.ev := rfl
@[simp] theorem releaseHolds_ceil (s : State) : (releaseHolds s).ceil = s.ceil := rfl
@[simp] theorem releaseHolds_blend (s : State) : (releaseHolds s).blend = s.blend := rfl
@[simp] theorem releaseHolds_sand (s : State) : (releaseHolds s).sand = s.sand := rfl
@[simp] theorem releaseHolds_chain (s : State) : (releaseHolds s).chain = s.chain := rfl
@[simp] theorem releaseHolds_rep (s : State) : (releaseHolds s).rep = s.rep := rfl
@[simp] theorem releaseHolds_rw (s : State) : (releaseHolds s).rw = s.rw := rfl
@[simp] theorem releaseHolds_memory (s : State) : (releaseHolds s).memory = s.memory := rfl
@[simp] theorem releaseHolds_draws (s : State) : (releaseHolds s).draws = s.draws := rfl
@[simp] theorem releaseHolds_pending (s : State) : (releaseHolds s).pending = s.pending := rfl

/-! `grant` changes ip, rw only. -/

@[simp] theorem grant_now (c : Claimant) (s : State) : (grant c s).now = s.now := by
  cases c <;> simp only [grant, grantPublish, grantHost, grantQueue, grantFetch, grantReport] <;> (try split) <;> rfl
@[simp] theorem grant_pins (c : Claimant) (s : State) : (grant c s).pins = s.pins := by
  cases c <;> simp only [grant, grantPublish, grantHost, grantQueue, grantFetch, grantReport] <;> (try split) <;> rfl
@[simp] theorem grant_lines (c : Claimant) (s : State) : (grant c s).lines = s.lines := by
  cases c <;> simp only [grant, grantPublish, grantHost, grantQueue, grantFetch, grantReport] <;> (try split) <;> rfl
@[simp] theorem grant_ctl (c : Claimant) (s : State) : (grant c s).ctl = s.ctl := by
  cases c <;> simp only [grant, grantPublish, grantHost, grantQueue, grantFetch, grantReport] <;> (try split) <;> rfl
@[simp] theorem grant_cfg (c : Claimant) (s : State) : (grant c s).cfg = s.cfg := by
  cases c <;> simp only [grant, grantPublish, grantHost, grantQueue, grantFetch, grantReport] <;> (try split) <;> rfl
@[simp] theorem grant_intent (c : Claimant) (s : State) : (grant c s).intent = s.intent := by
  cases c <;> simp only [grant, grantPublish, grantHost, grantQueue, grantFetch, grantReport] <;> (try split) <;> rfl
@[simp] theorem grant_axle (c : Claimant) (s : State) : (grant c s).axle = s.axle := by
  cases c <;> simp only [grant, grantPublish, grantHost, grantQueue, grantFetch, grantReport] <;> (try split) <;> rfl
@[simp] theorem grant_ref (c : Claimant) (s : State) : (grant c s).ref = s.ref := by
  cases c <;> simp only [grant, grantPublish, grantHost, grantQueue, grantFetch, grantReport] <;> (try split) <;> rfl
@[simp] theorem grant_ev (c : Claimant) (s : State) : (grant c s).ev = s.ev := by
  cases c <;> simp only [grant, grantPublish, grantHost, grantQueue, grantFetch, grantReport] <;> (try split) <;> rfl
@[simp] theorem grant_ceil (c : Claimant) (s : State) : (grant c s).ceil = s.ceil := by
  cases c <;> simp only [grant, grantPublish, grantHost, grantQueue, grantFetch, grantReport] <;> (try split) <;> rfl
@[simp] theorem grant_blend (c : Claimant) (s : State) : (grant c s).blend = s.blend := by
  cases c <;> simp only [grant, grantPublish, grantHost, grantQueue, grantFetch, grantReport] <;> (try split) <;> rfl
@[simp] theorem grant_sand (c : Claimant) (s : State) : (grant c s).sand = s.sand := by
  cases c <;> simp only [grant, grantPublish, grantHost, grantQueue, grantFetch, grantReport] <;> (try split) <;> rfl
@[simp] theorem grant_chain (c : Claimant) (s : State) : (grant c s).chain = s.chain := by
  cases c <;> simp only [grant, grantPublish, grantHost, grantQueue, grantFetch, grantReport] <;> (try split) <;> rfl
@[simp] theorem grant_rep (c : Claimant) (s : State) : (grant c s).rep = s.rep := by
  cases c <;> simp only [grant, grantPublish, grantHost, grantQueue, grantFetch, grantReport] <;> (try split) <;> rfl
@[simp] theorem grant_memory (c : Claimant) (s : State) : (grant c s).memory = s.memory := by
  cases c <;> simp only [grant, grantPublish, grantHost, grantQueue, grantFetch, grantReport] <;> (try split) <;> rfl
@[simp] theorem grant_draws (c : Claimant) (s : State) : (grant c s).draws = s.draws := by
  cases c <;> simp only [grant, grantPublish, grantHost, grantQueue, grantFetch, grantReport] <;> (try split) <;> rfl
@[simp] theorem grant_pending (c : Claimant) (s : State) : (grant c s).pending = s.pending := by
  cases c <;> simp only [grant, grantPublish, grantHost, grantQueue, grantFetch, grantReport] <;> (try split) <;> rfl

/-! `arbitrate` changes ip, rw only. -/

@[simp] theorem arbitrate_now (s : State) : (arbitrate s).now = s.now := by
  simp only [arbitrate]; (repeat' split) <;> simp
@[simp] theorem arbitrate_pins (s : State) : (arbitrate s).pins = s.pins := by
  simp only [arbitrate]; (repeat' split) <;> simp
@[simp] theorem arbitrate_lines (s : State) : (arbitrate s).lines = s.lines := by
  simp only [arbitrate]; (repeat' split) <;> simp
@[simp] theorem arbitrate_ctl (s : State) : (arbitrate s).ctl = s.ctl := by
  simp only [arbitrate]; (repeat' split) <;> simp
@[simp] theorem arbitrate_cfg (s : State) : (arbitrate s).cfg = s.cfg := by
  simp only [arbitrate]; (repeat' split) <;> simp
@[simp] theorem arbitrate_intent (s : State) : (arbitrate s).intent = s.intent := by
  simp only [arbitrate]; (repeat' split) <;> simp
@[simp] theorem arbitrate_axle (s : State) : (arbitrate s).axle = s.axle := by
  simp only [arbitrate]; (repeat' split) <;> simp
@[simp] theorem arbitrate_ref (s : State) : (arbitrate s).ref = s.ref := by
  simp only [arbitrate]; (repeat' split) <;> simp
@[simp] theorem arbitrate_ev (s : State) : (arbitrate s).ev = s.ev := by
  simp only [arbitrate]; (repeat' split) <;> simp
@[simp] theorem arbitrate_ceil (s : State) : (arbitrate s).ceil = s.ceil := by
  simp only [arbitrate]; (repeat' split) <;> simp
@[simp] theorem arbitrate_blend (s : State) : (arbitrate s).blend = s.blend := by
  simp only [arbitrate]; (repeat' split) <;> simp
@[simp] theorem arbitrate_sand (s : State) : (arbitrate s).sand = s.sand := by
  simp only [arbitrate]; (repeat' split) <;> simp
@[simp] theorem arbitrate_chain (s : State) : (arbitrate s).chain = s.chain := by
  simp only [arbitrate]; (repeat' split) <;> simp
@[simp] theorem arbitrate_rep (s : State) : (arbitrate s).rep = s.rep := by
  simp only [arbitrate]; (repeat' split) <;> simp
@[simp] theorem arbitrate_memory (s : State) : (arbitrate s).memory = s.memory := by
  simp only [arbitrate]; (repeat' split) <;> simp
@[simp] theorem arbitrate_draws (s : State) : (arbitrate s).draws = s.draws := by
  simp only [arbitrate]; (repeat' split) <;> simp
@[simp] theorem arbitrate_pending (s : State) : (arbitrate s).pending = s.pending := by
  simp only [arbitrate]; (repeat' split) <;> simp

/-! `finish` changes ip, rw, lines only. -/

@[simp] theorem finish_now (s : State) : (finish s).now = s.now := by simp [finish]
@[simp] theorem finish_pins (s : State) : (finish s).pins = s.pins := by simp [finish]
@[simp] theorem finish_ctl (s : State) : (finish s).ctl = s.ctl := by simp [finish]
@[simp] theorem finish_cfg (s : State) : (finish s).cfg = s.cfg := by simp [finish]
@[simp] theorem finish_intent (s : State) : (finish s).intent = s.intent := by simp [finish]
@[simp] theorem finish_axle (s : State) : (finish s).axle = s.axle := by simp [finish]
@[simp] theorem finish_ref (s : State) : (finish s).ref = s.ref := by simp [finish]
@[simp] theorem finish_ev (s : State) : (finish s).ev = s.ev := by simp [finish]
@[simp] theorem finish_ceil (s : State) : (finish s).ceil = s.ceil := by simp [finish]
@[simp] theorem finish_blend (s : State) : (finish s).blend = s.blend := by simp [finish]
@[simp] theorem finish_sand (s : State) : (finish s).sand = s.sand := by simp [finish]
@[simp] theorem finish_chain (s : State) : (finish s).chain = s.chain := by simp [finish]
@[simp] theorem finish_rep (s : State) : (finish s).rep = s.rep := by simp [finish]
@[simp] theorem finish_memory (s : State) : (finish s).memory = s.memory := by simp [finish]
@[simp] theorem finish_draws (s : State) : (finish s).draws = s.draws := by simp [finish]
@[simp] theorem finish_pending (s : State) : (finish s).pending = s.pending := by simp [finish]

/-! `fetchEnd` changes ip, rep only. -/

@[simp] theorem fetchEnd_now (s : State) : (fetchEnd s).now = s.now := by simp [fetchEnd]
@[simp] theorem fetchEnd_pins (s : State) : (fetchEnd s).pins = s.pins := by simp [fetchEnd]
@[simp] theorem fetchEnd_lines (s : State) : (fetchEnd s).lines = s.lines := by simp [fetchEnd]
@[simp] theorem fetchEnd_ctl (s : State) : (fetchEnd s).ctl = s.ctl := by simp [fetchEnd]
@[simp] theorem fetchEnd_cfg (s : State) : (fetchEnd s).cfg = s.cfg := by simp [fetchEnd]
@[simp] theorem fetchEnd_intent (s : State) : (fetchEnd s).intent = s.intent := by simp [fetchEnd]
@[simp] theorem fetchEnd_axle (s : State) : (fetchEnd s).axle = s.axle := by simp [fetchEnd]
@[simp] theorem fetchEnd_ref (s : State) : (fetchEnd s).ref = s.ref := by simp [fetchEnd]
@[simp] theorem fetchEnd_ev (s : State) : (fetchEnd s).ev = s.ev := by simp [fetchEnd]
@[simp] theorem fetchEnd_ceil (s : State) : (fetchEnd s).ceil = s.ceil := by simp [fetchEnd]
@[simp] theorem fetchEnd_blend (s : State) : (fetchEnd s).blend = s.blend := by simp [fetchEnd]
@[simp] theorem fetchEnd_sand (s : State) : (fetchEnd s).sand = s.sand := by simp [fetchEnd]
@[simp] theorem fetchEnd_chain (s : State) : (fetchEnd s).chain = s.chain := by simp [fetchEnd]
@[simp] theorem fetchEnd_rw (s : State) : (fetchEnd s).rw = s.rw := by simp [fetchEnd]
@[simp] theorem fetchEnd_memory (s : State) : (fetchEnd s).memory = s.memory := by simp [fetchEnd]
@[simp] theorem fetchEnd_draws (s : State) : (fetchEnd s).draws = s.draws := by simp [fetchEnd]
@[simp] theorem fetchEnd_pending (s : State) : (fetchEnd s).pending = s.pending := by simp [fetchEnd]

/-! `fetchStart` changes ip only. -/

@[simp] theorem fetchStart_now (s : State) : (fetchStart s).now = s.now := rfl
@[simp] theorem fetchStart_pins (s : State) : (fetchStart s).pins = s.pins := rfl
@[simp] theorem fetchStart_lines (s : State) : (fetchStart s).lines = s.lines := rfl
@[simp] theorem fetchStart_ctl (s : State) : (fetchStart s).ctl = s.ctl := rfl
@[simp] theorem fetchStart_cfg (s : State) : (fetchStart s).cfg = s.cfg := rfl
@[simp] theorem fetchStart_intent (s : State) : (fetchStart s).intent = s.intent := rfl
@[simp] theorem fetchStart_axle (s : State) : (fetchStart s).axle = s.axle := rfl
@[simp] theorem fetchStart_ref (s : State) : (fetchStart s).ref = s.ref := rfl
@[simp] theorem fetchStart_ev (s : State) : (fetchStart s).ev = s.ev := rfl
@[simp] theorem fetchStart_ceil (s : State) : (fetchStart s).ceil = s.ceil := rfl
@[simp] theorem fetchStart_blend (s : State) : (fetchStart s).blend = s.blend := rfl
@[simp] theorem fetchStart_sand (s : State) : (fetchStart s).sand = s.sand := rfl
@[simp] theorem fetchStart_chain (s : State) : (fetchStart s).chain = s.chain := rfl
@[simp] theorem fetchStart_rep (s : State) : (fetchStart s).rep = s.rep := rfl
@[simp] theorem fetchStart_rw (s : State) : (fetchStart s).rw = s.rw := rfl
@[simp] theorem fetchStart_memory (s : State) : (fetchStart s).memory = s.memory := rfl
@[simp] theorem fetchStart_draws (s : State) : (fetchStart s).draws = s.draws := rfl
@[simp] theorem fetchStart_pending (s : State) : (fetchStart s).pending = s.pending := rfl

/-! `fetchStop` changes ip only. -/

@[simp] theorem fetchStop_now (s : State) : (fetchStop s).now = s.now := rfl
@[simp] theorem fetchStop_pins (s : State) : (fetchStop s).pins = s.pins := rfl
@[simp] theorem fetchStop_lines (s : State) : (fetchStop s).lines = s.lines := rfl
@[simp] theorem fetchStop_ctl (s : State) : (fetchStop s).ctl = s.ctl := rfl
@[simp] theorem fetchStop_cfg (s : State) : (fetchStop s).cfg = s.cfg := rfl
@[simp] theorem fetchStop_intent (s : State) : (fetchStop s).intent = s.intent := rfl
@[simp] theorem fetchStop_axle (s : State) : (fetchStop s).axle = s.axle := rfl
@[simp] theorem fetchStop_ref (s : State) : (fetchStop s).ref = s.ref := rfl
@[simp] theorem fetchStop_ev (s : State) : (fetchStop s).ev = s.ev := rfl
@[simp] theorem fetchStop_ceil (s : State) : (fetchStop s).ceil = s.ceil := rfl
@[simp] theorem fetchStop_blend (s : State) : (fetchStop s).blend = s.blend := rfl
@[simp] theorem fetchStop_sand (s : State) : (fetchStop s).sand = s.sand := rfl
@[simp] theorem fetchStop_chain (s : State) : (fetchStop s).chain = s.chain := rfl
@[simp] theorem fetchStop_rep (s : State) : (fetchStop s).rep = s.rep := rfl
@[simp] theorem fetchStop_rw (s : State) : (fetchStop s).rw = s.rw := rfl
@[simp] theorem fetchStop_memory (s : State) : (fetchStop s).memory = s.memory := rfl
@[simp] theorem fetchStop_draws (s : State) : (fetchStop s).draws = s.draws := rfl
@[simp] theorem fetchStop_pending (s : State) : (fetchStop s).pending = s.pending := rfl

/-! `withCtl` changes ctl only. -/

@[simp] theorem withCtl_now (f : Controller → Controller) (s : State) : (withCtl f s).now = s.now := rfl
@[simp] theorem withCtl_pins (f : Controller → Controller) (s : State) : (withCtl f s).pins = s.pins := rfl
@[simp] theorem withCtl_lines (f : Controller → Controller) (s : State) : (withCtl f s).lines = s.lines := rfl
@[simp] theorem withCtl_cfg (f : Controller → Controller) (s : State) : (withCtl f s).cfg = s.cfg := rfl
@[simp] theorem withCtl_ip (f : Controller → Controller) (s : State) : (withCtl f s).ip = s.ip := rfl
@[simp] theorem withCtl_intent (f : Controller → Controller) (s : State) : (withCtl f s).intent = s.intent := rfl
@[simp] theorem withCtl_axle (f : Controller → Controller) (s : State) : (withCtl f s).axle = s.axle := rfl
@[simp] theorem withCtl_ref (f : Controller → Controller) (s : State) : (withCtl f s).ref = s.ref := rfl
@[simp] theorem withCtl_ev (f : Controller → Controller) (s : State) : (withCtl f s).ev = s.ev := rfl
@[simp] theorem withCtl_ceil (f : Controller → Controller) (s : State) : (withCtl f s).ceil = s.ceil := rfl
@[simp] theorem withCtl_blend (f : Controller → Controller) (s : State) : (withCtl f s).blend = s.blend := rfl
@[simp] theorem withCtl_sand (f : Controller → Controller) (s : State) : (withCtl f s).sand = s.sand := rfl
@[simp] theorem withCtl_chain (f : Controller → Controller) (s : State) : (withCtl f s).chain = s.chain := rfl
@[simp] theorem withCtl_rep (f : Controller → Controller) (s : State) : (withCtl f s).rep = s.rep := rfl
@[simp] theorem withCtl_rw (f : Controller → Controller) (s : State) : (withCtl f s).rw = s.rw := rfl
@[simp] theorem withCtl_memory (f : Controller → Controller) (s : State) : (withCtl f s).memory = s.memory := rfl
@[simp] theorem withCtl_draws (f : Controller → Controller) (s : State) : (withCtl f s).draws = s.draws := rfl
@[simp] theorem withCtl_pending (f : Controller → Controller) (s : State) : (withCtl f s).pending = s.pending := rfl

/-! `rewords` changes blend, rep, ref, ev, intent, ip, sand only. -/

@[simp] theorem rewords_now (b : Bool) (s : State) : (rewords b s).now = s.now := by simp [rewords]
@[simp] theorem rewords_pins (b : Bool) (s : State) : (rewords b s).pins = s.pins := by simp [rewords]
@[simp] theorem rewords_lines (b : Bool) (s : State) : (rewords b s).lines = s.lines := by simp [rewords]
@[simp] theorem rewords_ctl (b : Bool) (s : State) : (rewords b s).ctl = s.ctl := by simp [rewords]
@[simp] theorem rewords_cfg (b : Bool) (s : State) : (rewords b s).cfg = s.cfg := by simp [rewords]
@[simp] theorem rewords_axle (b : Bool) (s : State) : (rewords b s).axle = s.axle := by simp [rewords]
@[simp] theorem rewords_ceil (b : Bool) (s : State) : (rewords b s).ceil = s.ceil := by simp [rewords]
@[simp] theorem rewords_chain (b : Bool) (s : State) : (rewords b s).chain = s.chain := by simp [rewords]
@[simp] theorem rewords_rw (b : Bool) (s : State) : (rewords b s).rw = s.rw := by simp [rewords]
@[simp] theorem rewords_memory (b : Bool) (s : State) : (rewords b s).memory = s.memory := by simp [rewords]
@[simp] theorem rewords_draws (b : Bool) (s : State) : (rewords b s).draws = s.draws := by simp [rewords]
@[simp] theorem rewords_pending (b : Bool) (s : State) : (rewords b s).pending = s.pending := by simp [rewords]

/-! `enterFallback` changes blend, rep, ref, ev, intent, ip, sand, ctl only. -/

@[simp] theorem enterFallback_now (s : State) : (enterFallback s).now = s.now := by simp [enterFallback]
@[simp] theorem enterFallback_pins (s : State) : (enterFallback s).pins = s.pins := by simp [enterFallback]
@[simp] theorem enterFallback_lines (s : State) : (enterFallback s).lines = s.lines := by simp [enterFallback]
@[simp] theorem enterFallback_cfg (s : State) : (enterFallback s).cfg = s.cfg := by simp [enterFallback]
@[simp] theorem enterFallback_axle (s : State) : (enterFallback s).axle = s.axle := by simp [enterFallback]
@[simp] theorem enterFallback_ceil (s : State) : (enterFallback s).ceil = s.ceil := by simp [enterFallback]
@[simp] theorem enterFallback_chain (s : State) : (enterFallback s).chain = s.chain := by simp [enterFallback]
@[simp] theorem enterFallback_rw (s : State) : (enterFallback s).rw = s.rw := by simp [enterFallback]
@[simp] theorem enterFallback_memory (s : State) : (enterFallback s).memory = s.memory := by simp [enterFallback]
@[simp] theorem enterFallback_draws (s : State) : (enterFallback s).draws = s.draws := by simp [enterFallback]
@[simp] theorem enterFallback_pending (s : State) : (enterFallback s).pending = s.pending := by simp [enterFallback]

/-! `deliverCause` changes blend, rep, ref, ev, intent, ip, sand, ctl only. -/

@[simp] theorem deliverCause_now (x : FallbackCause) (s : State) : (deliverCause x s).now = s.now := by
  simp only [deliverCause]; (repeat' split) <;> simp
@[simp] theorem deliverCause_pins (x : FallbackCause) (s : State) : (deliverCause x s).pins = s.pins := by
  simp only [deliverCause]; (repeat' split) <;> simp
@[simp] theorem deliverCause_lines (x : FallbackCause) (s : State) : (deliverCause x s).lines = s.lines := by
  simp only [deliverCause]; (repeat' split) <;> simp
@[simp] theorem deliverCause_cfg (x : FallbackCause) (s : State) : (deliverCause x s).cfg = s.cfg := by
  simp only [deliverCause]; (repeat' split) <;> simp
@[simp] theorem deliverCause_axle (x : FallbackCause) (s : State) : (deliverCause x s).axle = s.axle := by
  simp only [deliverCause]; (repeat' split) <;> simp
@[simp] theorem deliverCause_ceil (x : FallbackCause) (s : State) : (deliverCause x s).ceil = s.ceil := by
  simp only [deliverCause]; (repeat' split) <;> simp
@[simp] theorem deliverCause_chain (x : FallbackCause) (s : State) : (deliverCause x s).chain = s.chain := by
  simp only [deliverCause]; (repeat' split) <;> simp
@[simp] theorem deliverCause_rw (x : FallbackCause) (s : State) : (deliverCause x s).rw = s.rw := by
  simp only [deliverCause]; (repeat' split) <;> simp
@[simp] theorem deliverCause_memory (x : FallbackCause) (s : State) : (deliverCause x s).memory = s.memory := by
  simp only [deliverCause]; (repeat' split) <;> simp
@[simp] theorem deliverCause_draws (x : FallbackCause) (s : State) : (deliverCause x s).draws = s.draws := by
  simp only [deliverCause]; (repeat' split) <;> simp
@[simp] theorem deliverCause_pending (x : FallbackCause) (s : State) : (deliverCause x s).pending = s.pending := by
  simp only [deliverCause]; (repeat' split) <;> simp

/-! `copyWindows` changes ip only. -/

@[simp] theorem copyWindows_now (s : State) : (copyWindows s).now = s.now := rfl
@[simp] theorem copyWindows_pins (s : State) : (copyWindows s).pins = s.pins := rfl
@[simp] theorem copyWindows_lines (s : State) : (copyWindows s).lines = s.lines := rfl
@[simp] theorem copyWindows_ctl (s : State) : (copyWindows s).ctl = s.ctl := rfl
@[simp] theorem copyWindows_cfg (s : State) : (copyWindows s).cfg = s.cfg := rfl
@[simp] theorem copyWindows_intent (s : State) : (copyWindows s).intent = s.intent := rfl
@[simp] theorem copyWindows_axle (s : State) : (copyWindows s).axle = s.axle := rfl
@[simp] theorem copyWindows_ref (s : State) : (copyWindows s).ref = s.ref := rfl
@[simp] theorem copyWindows_ev (s : State) : (copyWindows s).ev = s.ev := rfl
@[simp] theorem copyWindows_ceil (s : State) : (copyWindows s).ceil = s.ceil := rfl
@[simp] theorem copyWindows_blend (s : State) : (copyWindows s).blend = s.blend := rfl
@[simp] theorem copyWindows_sand (s : State) : (copyWindows s).sand = s.sand := rfl
@[simp] theorem copyWindows_chain (s : State) : (copyWindows s).chain = s.chain := rfl
@[simp] theorem copyWindows_rep (s : State) : (copyWindows s).rep = s.rep := rfl
@[simp] theorem copyWindows_rw (s : State) : (copyWindows s).rw = s.rw := rfl
@[simp] theorem copyWindows_memory (s : State) : (copyWindows s).memory = s.memory := rfl
@[simp] theorem copyWindows_draws (s : State) : (copyWindows s).draws = s.draws := rfl
@[simp] theorem copyWindows_pending (s : State) : (copyWindows s).pending = s.pending := rfl

/-! `result` changes ctl only. -/

@[simp] theorem result_now (v : BitVec 8) (x : CommandOutcome) (s : State) : (result v x s).now = s.now := by simp [result]
@[simp] theorem result_pins (v : BitVec 8) (x : CommandOutcome) (s : State) : (result v x s).pins = s.pins := by simp [result]
@[simp] theorem result_lines (v : BitVec 8) (x : CommandOutcome) (s : State) : (result v x s).lines = s.lines := by simp [result]
@[simp] theorem result_cfg (v : BitVec 8) (x : CommandOutcome) (s : State) : (result v x s).cfg = s.cfg := by simp [result]
@[simp] theorem result_ip (v : BitVec 8) (x : CommandOutcome) (s : State) : (result v x s).ip = s.ip := by simp [result]
@[simp] theorem result_intent (v : BitVec 8) (x : CommandOutcome) (s : State) : (result v x s).intent = s.intent := by simp [result]
@[simp] theorem result_axle (v : BitVec 8) (x : CommandOutcome) (s : State) : (result v x s).axle = s.axle := by simp [result]
@[simp] theorem result_ref (v : BitVec 8) (x : CommandOutcome) (s : State) : (result v x s).ref = s.ref := by simp [result]
@[simp] theorem result_ev (v : BitVec 8) (x : CommandOutcome) (s : State) : (result v x s).ev = s.ev := by simp [result]
@[simp] theorem result_ceil (v : BitVec 8) (x : CommandOutcome) (s : State) : (result v x s).ceil = s.ceil := by simp [result]
@[simp] theorem result_blend (v : BitVec 8) (x : CommandOutcome) (s : State) : (result v x s).blend = s.blend := by simp [result]
@[simp] theorem result_sand (v : BitVec 8) (x : CommandOutcome) (s : State) : (result v x s).sand = s.sand := by simp [result]
@[simp] theorem result_chain (v : BitVec 8) (x : CommandOutcome) (s : State) : (result v x s).chain = s.chain := by simp [result]
@[simp] theorem result_rep (v : BitVec 8) (x : CommandOutcome) (s : State) : (result v x s).rep = s.rep := by simp [result]
@[simp] theorem result_rw (v : BitVec 8) (x : CommandOutcome) (s : State) : (result v x s).rw = s.rw := by simp [result]
@[simp] theorem result_memory (v : BitVec 8) (x : CommandOutcome) (s : State) : (result v x s).memory = s.memory := by simp [result]
@[simp] theorem result_draws (v : BitVec 8) (x : CommandOutcome) (s : State) : (result v x s).draws = s.draws := by simp [result]
@[simp] theorem result_pending (v : BitVec 8) (x : CommandOutcome) (s : State) : (result v x s).pending = s.pending := by simp [result]

/-! `decline` changes ctl, rep only. -/

@[simp] theorem decline_now (v : BitVec 8) (x : CommandOutcome) (s : State) : (decline v x s).now = s.now := by simp [decline]
@[simp] theorem decline_pins (v : BitVec 8) (x : CommandOutcome) (s : State) : (decline v x s).pins = s.pins := by simp [decline]
@[simp] theorem decline_lines (v : BitVec 8) (x : CommandOutcome) (s : State) : (decline v x s).lines = s.lines := by simp [decline]
@[simp] theorem decline_cfg (v : BitVec 8) (x : CommandOutcome) (s : State) : (decline v x s).cfg = s.cfg := by simp [decline]
@[simp] theorem decline_ip (v : BitVec 8) (x : CommandOutcome) (s : State) : (decline v x s).ip = s.ip := by simp [decline]
@[simp] theorem decline_intent (v : BitVec 8) (x : CommandOutcome) (s : State) : (decline v x s).intent = s.intent := by simp [decline]
@[simp] theorem decline_axle (v : BitVec 8) (x : CommandOutcome) (s : State) : (decline v x s).axle = s.axle := by simp [decline]
@[simp] theorem decline_ref (v : BitVec 8) (x : CommandOutcome) (s : State) : (decline v x s).ref = s.ref := by simp [decline]
@[simp] theorem decline_ev (v : BitVec 8) (x : CommandOutcome) (s : State) : (decline v x s).ev = s.ev := by simp [decline]
@[simp] theorem decline_ceil (v : BitVec 8) (x : CommandOutcome) (s : State) : (decline v x s).ceil = s.ceil := by simp [decline]
@[simp] theorem decline_blend (v : BitVec 8) (x : CommandOutcome) (s : State) : (decline v x s).blend = s.blend := by simp [decline]
@[simp] theorem decline_sand (v : BitVec 8) (x : CommandOutcome) (s : State) : (decline v x s).sand = s.sand := by simp [decline]
@[simp] theorem decline_chain (v : BitVec 8) (x : CommandOutcome) (s : State) : (decline v x s).chain = s.chain := by simp [decline]
@[simp] theorem decline_rw (v : BitVec 8) (x : CommandOutcome) (s : State) : (decline v x s).rw = s.rw := by simp [decline]
@[simp] theorem decline_memory (v : BitVec 8) (x : CommandOutcome) (s : State) : (decline v x s).memory = s.memory := by simp [decline]
@[simp] theorem decline_draws (v : BitVec 8) (x : CommandOutcome) (s : State) : (decline v x s).draws = s.draws := by simp [decline]
@[simp] theorem decline_pending (v : BitVec 8) (x : CommandOutcome) (s : State) : (decline v x s).pending = s.pending := by simp [decline]

/-! `queueDiscard` changes ip only. -/

@[simp] theorem queueDiscard_now (s : State) : (queueDiscard s).now = s.now := rfl
@[simp] theorem queueDiscard_pins (s : State) : (queueDiscard s).pins = s.pins := rfl
@[simp] theorem queueDiscard_lines (s : State) : (queueDiscard s).lines = s.lines := rfl
@[simp] theorem queueDiscard_ctl (s : State) : (queueDiscard s).ctl = s.ctl := rfl
@[simp] theorem queueDiscard_cfg (s : State) : (queueDiscard s).cfg = s.cfg := rfl
@[simp] theorem queueDiscard_intent (s : State) : (queueDiscard s).intent = s.intent := rfl
@[simp] theorem queueDiscard_axle (s : State) : (queueDiscard s).axle = s.axle := rfl
@[simp] theorem queueDiscard_ref (s : State) : (queueDiscard s).ref = s.ref := rfl
@[simp] theorem queueDiscard_ev (s : State) : (queueDiscard s).ev = s.ev := rfl
@[simp] theorem queueDiscard_ceil (s : State) : (queueDiscard s).ceil = s.ceil := rfl
@[simp] theorem queueDiscard_blend (s : State) : (queueDiscard s).blend = s.blend := rfl
@[simp] theorem queueDiscard_sand (s : State) : (queueDiscard s).sand = s.sand := rfl
@[simp] theorem queueDiscard_chain (s : State) : (queueDiscard s).chain = s.chain := rfl
@[simp] theorem queueDiscard_rep (s : State) : (queueDiscard s).rep = s.rep := rfl
@[simp] theorem queueDiscard_rw (s : State) : (queueDiscard s).rw = s.rw := rfl
@[simp] theorem queueDiscard_memory (s : State) : (queueDiscard s).memory = s.memory := rfl
@[simp] theorem queueDiscard_draws (s : State) : (queueDiscard s).draws = s.draws := rfl
@[simp] theorem queueDiscard_pending (s : State) : (queueDiscard s).pending = s.pending := rfl

/-! `startWaking` changes ctl only. -/

@[simp] theorem startWaking_now (s : State) : (startWaking s).now = s.now := by
  simp only [startWaking]; (repeat' split) <;> simp
@[simp] theorem startWaking_pins (s : State) : (startWaking s).pins = s.pins := by
  simp only [startWaking]; (repeat' split) <;> simp
@[simp] theorem startWaking_lines (s : State) : (startWaking s).lines = s.lines := by
  simp only [startWaking]; (repeat' split) <;> simp
@[simp] theorem startWaking_cfg (s : State) : (startWaking s).cfg = s.cfg := by
  simp only [startWaking]; (repeat' split) <;> simp
@[simp] theorem startWaking_ip (s : State) : (startWaking s).ip = s.ip := by
  simp only [startWaking]; (repeat' split) <;> simp
@[simp] theorem startWaking_intent (s : State) : (startWaking s).intent = s.intent := by
  simp only [startWaking]; (repeat' split) <;> simp
@[simp] theorem startWaking_axle (s : State) : (startWaking s).axle = s.axle := by
  simp only [startWaking]; (repeat' split) <;> simp
@[simp] theorem startWaking_ref (s : State) : (startWaking s).ref = s.ref := by
  simp only [startWaking]; (repeat' split) <;> simp
@[simp] theorem startWaking_ev (s : State) : (startWaking s).ev = s.ev := by
  simp only [startWaking]; (repeat' split) <;> simp
@[simp] theorem startWaking_ceil (s : State) : (startWaking s).ceil = s.ceil := by
  simp only [startWaking]; (repeat' split) <;> simp
@[simp] theorem startWaking_blend (s : State) : (startWaking s).blend = s.blend := by
  simp only [startWaking]; (repeat' split) <;> simp
@[simp] theorem startWaking_sand (s : State) : (startWaking s).sand = s.sand := by
  simp only [startWaking]; (repeat' split) <;> simp
@[simp] theorem startWaking_chain (s : State) : (startWaking s).chain = s.chain := by
  simp only [startWaking]; (repeat' split) <;> simp
@[simp] theorem startWaking_rep (s : State) : (startWaking s).rep = s.rep := by
  simp only [startWaking]; (repeat' split) <;> simp
@[simp] theorem startWaking_rw (s : State) : (startWaking s).rw = s.rw := by
  simp only [startWaking]; (repeat' split) <;> simp
@[simp] theorem startWaking_memory (s : State) : (startWaking s).memory = s.memory := by
  simp only [startWaking]; (repeat' split) <;> simp
@[simp] theorem startWaking_draws (s : State) : (startWaking s).draws = s.draws := by
  simp only [startWaking]; (repeat' split) <;> simp
@[simp] theorem startWaking_pending (s : State) : (startWaking s).pending = s.pending := by
  simp only [startWaking]; (repeat' split) <;> simp

/-! `movementWake` changes ctl, rep only. -/

@[simp] theorem movementWake_now (s : State) : (movementWake s).now = s.now := by simp [movementWake]
@[simp] theorem movementWake_pins (s : State) : (movementWake s).pins = s.pins := by simp [movementWake]
@[simp] theorem movementWake_lines (s : State) : (movementWake s).lines = s.lines := by simp [movementWake]
@[simp] theorem movementWake_cfg (s : State) : (movementWake s).cfg = s.cfg := by simp [movementWake]
@[simp] theorem movementWake_ip (s : State) : (movementWake s).ip = s.ip := by simp [movementWake]
@[simp] theorem movementWake_intent (s : State) : (movementWake s).intent = s.intent := by simp [movementWake]
@[simp] theorem movementWake_axle (s : State) : (movementWake s).axle = s.axle := by simp [movementWake]
@[simp] theorem movementWake_ref (s : State) : (movementWake s).ref = s.ref := by simp [movementWake]
@[simp] theorem movementWake_ev (s : State) : (movementWake s).ev = s.ev := by simp [movementWake]
@[simp] theorem movementWake_ceil (s : State) : (movementWake s).ceil = s.ceil := by simp [movementWake]
@[simp] theorem movementWake_blend (s : State) : (movementWake s).blend = s.blend := by simp [movementWake]
@[simp] theorem movementWake_sand (s : State) : (movementWake s).sand = s.sand := by simp [movementWake]
@[simp] theorem movementWake_chain (s : State) : (movementWake s).chain = s.chain := by simp [movementWake]
@[simp] theorem movementWake_rw (s : State) : (movementWake s).rw = s.rw := by simp [movementWake]
@[simp] theorem movementWake_memory (s : State) : (movementWake s).memory = s.memory := by simp [movementWake]
@[simp] theorem movementWake_draws (s : State) : (movementWake s).draws = s.draws := by simp [movementWake]
@[simp] theorem movementWake_pending (s : State) : (movementWake s).pending = s.pending := by simp [movementWake]

/-! `reply` changes ip only. -/

@[simp] theorem reply_now (b : Bool) (w : Word) (s : State) : (reply b w s).now = s.now := rfl
@[simp] theorem reply_pins (b : Bool) (w : Word) (s : State) : (reply b w s).pins = s.pins := rfl
@[simp] theorem reply_lines (b : Bool) (w : Word) (s : State) : (reply b w s).lines = s.lines := rfl
@[simp] theorem reply_ctl (b : Bool) (w : Word) (s : State) : (reply b w s).ctl = s.ctl := rfl
@[simp] theorem reply_cfg (b : Bool) (w : Word) (s : State) : (reply b w s).cfg = s.cfg := rfl
@[simp] theorem reply_intent (b : Bool) (w : Word) (s : State) : (reply b w s).intent = s.intent := rfl
@[simp] theorem reply_axle (b : Bool) (w : Word) (s : State) : (reply b w s).axle = s.axle := rfl
@[simp] theorem reply_ref (b : Bool) (w : Word) (s : State) : (reply b w s).ref = s.ref := rfl
@[simp] theorem reply_ev (b : Bool) (w : Word) (s : State) : (reply b w s).ev = s.ev := rfl
@[simp] theorem reply_ceil (b : Bool) (w : Word) (s : State) : (reply b w s).ceil = s.ceil := rfl
@[simp] theorem reply_blend (b : Bool) (w : Word) (s : State) : (reply b w s).blend = s.blend := rfl
@[simp] theorem reply_sand (b : Bool) (w : Word) (s : State) : (reply b w s).sand = s.sand := rfl
@[simp] theorem reply_chain (b : Bool) (w : Word) (s : State) : (reply b w s).chain = s.chain := rfl
@[simp] theorem reply_rep (b : Bool) (w : Word) (s : State) : (reply b w s).rep = s.rep := rfl
@[simp] theorem reply_rw (b : Bool) (w : Word) (s : State) : (reply b w s).rw = s.rw := rfl
@[simp] theorem reply_memory (b : Bool) (w : Word) (s : State) : (reply b w s).memory = s.memory := rfl
@[simp] theorem reply_draws (b : Bool) (w : Word) (s : State) : (reply b w s).draws = s.draws := rfl
@[simp] theorem reply_pending (b : Bool) (w : Word) (s : State) : (reply b w s).pending = s.pending := rfl

/-! `refuse` changes ip, rep only. -/

@[simp] theorem refuse_now (c : Cause) (s : State) : (refuse c s).now = s.now := by simp [refuse]
@[simp] theorem refuse_pins (c : Cause) (s : State) : (refuse c s).pins = s.pins := by simp [refuse]
@[simp] theorem refuse_lines (c : Cause) (s : State) : (refuse c s).lines = s.lines := by simp [refuse]
@[simp] theorem refuse_ctl (c : Cause) (s : State) : (refuse c s).ctl = s.ctl := by simp [refuse]
@[simp] theorem refuse_cfg (c : Cause) (s : State) : (refuse c s).cfg = s.cfg := by simp [refuse]
@[simp] theorem refuse_intent (c : Cause) (s : State) : (refuse c s).intent = s.intent := by simp [refuse]
@[simp] theorem refuse_axle (c : Cause) (s : State) : (refuse c s).axle = s.axle := by simp [refuse]
@[simp] theorem refuse_ref (c : Cause) (s : State) : (refuse c s).ref = s.ref := by simp [refuse]
@[simp] theorem refuse_ev (c : Cause) (s : State) : (refuse c s).ev = s.ev := by simp [refuse]
@[simp] theorem refuse_ceil (c : Cause) (s : State) : (refuse c s).ceil = s.ceil := by simp [refuse]
@[simp] theorem refuse_blend (c : Cause) (s : State) : (refuse c s).blend = s.blend := by simp [refuse]
@[simp] theorem refuse_sand (c : Cause) (s : State) : (refuse c s).sand = s.sand := by simp [refuse]
@[simp] theorem refuse_chain (c : Cause) (s : State) : (refuse c s).chain = s.chain := by simp [refuse]
@[simp] theorem refuse_rw (c : Cause) (s : State) : (refuse c s).rw = s.rw := by simp [refuse]
@[simp] theorem refuse_memory (c : Cause) (s : State) : (refuse c s).memory = s.memory := by simp [refuse]
@[simp] theorem refuse_draws (c : Cause) (s : State) : (refuse c s).draws = s.draws := by simp [refuse]
@[simp] theorem refuse_pending (c : Cause) (s : State) : (refuse c s).pending = s.pending := by simp [refuse]

/-! `occupy` changes ip only. -/

@[simp] theorem occupy_now (t : HostTxn) (w : HostWait) (o : Option (BitVec 8)) (s : State) : (occupy t w o s).now = s.now := rfl
@[simp] theorem occupy_pins (t : HostTxn) (w : HostWait) (o : Option (BitVec 8)) (s : State) : (occupy t w o s).pins = s.pins := rfl
@[simp] theorem occupy_lines (t : HostTxn) (w : HostWait) (o : Option (BitVec 8)) (s : State) : (occupy t w o s).lines = s.lines := rfl
@[simp] theorem occupy_ctl (t : HostTxn) (w : HostWait) (o : Option (BitVec 8)) (s : State) : (occupy t w o s).ctl = s.ctl := rfl
@[simp] theorem occupy_cfg (t : HostTxn) (w : HostWait) (o : Option (BitVec 8)) (s : State) : (occupy t w o s).cfg = s.cfg := rfl
@[simp] theorem occupy_intent (t : HostTxn) (w : HostWait) (o : Option (BitVec 8)) (s : State) : (occupy t w o s).intent = s.intent := rfl
@[simp] theorem occupy_axle (t : HostTxn) (w : HostWait) (o : Option (BitVec 8)) (s : State) : (occupy t w o s).axle = s.axle := rfl
@[simp] theorem occupy_ref (t : HostTxn) (w : HostWait) (o : Option (BitVec 8)) (s : State) : (occupy t w o s).ref = s.ref := rfl
@[simp] theorem occupy_ev (t : HostTxn) (w : HostWait) (o : Option (BitVec 8)) (s : State) : (occupy t w o s).ev = s.ev := rfl
@[simp] theorem occupy_ceil (t : HostTxn) (w : HostWait) (o : Option (BitVec 8)) (s : State) : (occupy t w o s).ceil = s.ceil := rfl
@[simp] theorem occupy_blend (t : HostTxn) (w : HostWait) (o : Option (BitVec 8)) (s : State) : (occupy t w o s).blend = s.blend := rfl
@[simp] theorem occupy_sand (t : HostTxn) (w : HostWait) (o : Option (BitVec 8)) (s : State) : (occupy t w o s).sand = s.sand := rfl
@[simp] theorem occupy_chain (t : HostTxn) (w : HostWait) (o : Option (BitVec 8)) (s : State) : (occupy t w o s).chain = s.chain := rfl
@[simp] theorem occupy_rep (t : HostTxn) (w : HostWait) (o : Option (BitVec 8)) (s : State) : (occupy t w o s).rep = s.rep := rfl
@[simp] theorem occupy_rw (t : HostTxn) (w : HostWait) (o : Option (BitVec 8)) (s : State) : (occupy t w o s).rw = s.rw := rfl
@[simp] theorem occupy_memory (t : HostTxn) (w : HostWait) (o : Option (BitVec 8)) (s : State) : (occupy t w o s).memory = s.memory := rfl
@[simp] theorem occupy_draws (t : HostTxn) (w : HostWait) (o : Option (BitVec 8)) (s : State) : (occupy t w o s).draws = s.draws := rfl
@[simp] theorem occupy_pending (t : HostTxn) (w : HostWait) (o : Option (BitVec 8)) (s : State) : (occupy t w o s).pending = s.pending := rfl

/-! `freePort` changes ip only. -/

@[simp] theorem freePort_now (s : State) : (freePort s).now = s.now := rfl
@[simp] theorem freePort_pins (s : State) : (freePort s).pins = s.pins := rfl
@[simp] theorem freePort_lines (s : State) : (freePort s).lines = s.lines := rfl
@[simp] theorem freePort_ctl (s : State) : (freePort s).ctl = s.ctl := rfl
@[simp] theorem freePort_cfg (s : State) : (freePort s).cfg = s.cfg := rfl
@[simp] theorem freePort_intent (s : State) : (freePort s).intent = s.intent := rfl
@[simp] theorem freePort_axle (s : State) : (freePort s).axle = s.axle := rfl
@[simp] theorem freePort_ref (s : State) : (freePort s).ref = s.ref := rfl
@[simp] theorem freePort_ev (s : State) : (freePort s).ev = s.ev := rfl
@[simp] theorem freePort_ceil (s : State) : (freePort s).ceil = s.ceil := rfl
@[simp] theorem freePort_blend (s : State) : (freePort s).blend = s.blend := rfl
@[simp] theorem freePort_sand (s : State) : (freePort s).sand = s.sand := rfl
@[simp] theorem freePort_chain (s : State) : (freePort s).chain = s.chain := rfl
@[simp] theorem freePort_rep (s : State) : (freePort s).rep = s.rep := rfl
@[simp] theorem freePort_rw (s : State) : (freePort s).rw = s.rw := rfl
@[simp] theorem freePort_memory (s : State) : (freePort s).memory = s.memory := rfl
@[simp] theorem freePort_draws (s : State) : (freePort s).draws = s.draws := rfl
@[simp] theorem freePort_pending (s : State) : (freePort s).pending = s.pending := rfl

/-! `landFlight` changes ip only. -/

@[simp] theorem landFlight_now (s : State) : (landFlight s).now = s.now := rfl
@[simp] theorem landFlight_pins (s : State) : (landFlight s).pins = s.pins := rfl
@[simp] theorem landFlight_lines (s : State) : (landFlight s).lines = s.lines := rfl
@[simp] theorem landFlight_ctl (s : State) : (landFlight s).ctl = s.ctl := rfl
@[simp] theorem landFlight_cfg (s : State) : (landFlight s).cfg = s.cfg := rfl
@[simp] theorem landFlight_intent (s : State) : (landFlight s).intent = s.intent := rfl
@[simp] theorem landFlight_axle (s : State) : (landFlight s).axle = s.axle := rfl
@[simp] theorem landFlight_ref (s : State) : (landFlight s).ref = s.ref := rfl
@[simp] theorem landFlight_ev (s : State) : (landFlight s).ev = s.ev := rfl
@[simp] theorem landFlight_ceil (s : State) : (landFlight s).ceil = s.ceil := rfl
@[simp] theorem landFlight_blend (s : State) : (landFlight s).blend = s.blend := rfl
@[simp] theorem landFlight_sand (s : State) : (landFlight s).sand = s.sand := rfl
@[simp] theorem landFlight_chain (s : State) : (landFlight s).chain = s.chain := rfl
@[simp] theorem landFlight_rep (s : State) : (landFlight s).rep = s.rep := rfl
@[simp] theorem landFlight_rw (s : State) : (landFlight s).rw = s.rw := rfl
@[simp] theorem landFlight_memory (s : State) : (landFlight s).memory = s.memory := rfl
@[simp] theorem landFlight_draws (s : State) : (landFlight s).draws = s.draws := rfl
@[simp] theorem landFlight_pending (s : State) : (landFlight s).pending = s.pending := rfl

/-! `setLevel` changes pins only. -/

@[simp] theorem setLevel_now (i : SanderId) (b : Bool) (s : State) : (setLevel i b s).now = s.now := rfl
@[simp] theorem setLevel_lines (i : SanderId) (b : Bool) (s : State) : (setLevel i b s).lines = s.lines := rfl
@[simp] theorem setLevel_ctl (i : SanderId) (b : Bool) (s : State) : (setLevel i b s).ctl = s.ctl := rfl
@[simp] theorem setLevel_cfg (i : SanderId) (b : Bool) (s : State) : (setLevel i b s).cfg = s.cfg := rfl
@[simp] theorem setLevel_ip (i : SanderId) (b : Bool) (s : State) : (setLevel i b s).ip = s.ip := rfl
@[simp] theorem setLevel_intent (i : SanderId) (b : Bool) (s : State) : (setLevel i b s).intent = s.intent := rfl
@[simp] theorem setLevel_axle (i : SanderId) (b : Bool) (s : State) : (setLevel i b s).axle = s.axle := rfl
@[simp] theorem setLevel_ref (i : SanderId) (b : Bool) (s : State) : (setLevel i b s).ref = s.ref := rfl
@[simp] theorem setLevel_ev (i : SanderId) (b : Bool) (s : State) : (setLevel i b s).ev = s.ev := rfl
@[simp] theorem setLevel_ceil (i : SanderId) (b : Bool) (s : State) : (setLevel i b s).ceil = s.ceil := rfl
@[simp] theorem setLevel_blend (i : SanderId) (b : Bool) (s : State) : (setLevel i b s).blend = s.blend := rfl
@[simp] theorem setLevel_sand (i : SanderId) (b : Bool) (s : State) : (setLevel i b s).sand = s.sand := rfl
@[simp] theorem setLevel_chain (i : SanderId) (b : Bool) (s : State) : (setLevel i b s).chain = s.chain := rfl
@[simp] theorem setLevel_rep (i : SanderId) (b : Bool) (s : State) : (setLevel i b s).rep = s.rep := rfl
@[simp] theorem setLevel_rw (i : SanderId) (b : Bool) (s : State) : (setLevel i b s).rw = s.rw := rfl
@[simp] theorem setLevel_memory (i : SanderId) (b : Bool) (s : State) : (setLevel i b s).memory = s.memory := rfl
@[simp] theorem setLevel_draws (i : SanderId) (b : Bool) (s : State) : (setLevel i b s).draws = s.draws := rfl
@[simp] theorem setLevel_pending (i : SanderId) (b : Bool) (s : State) : (setLevel i b s).pending = s.pending := rfl

/-! `setSupply` changes pins only. -/

@[simp] theorem setSupply_now (v : Nat) (s : State) : (setSupply v s).now = s.now := rfl
@[simp] theorem setSupply_lines (v : Nat) (s : State) : (setSupply v s).lines = s.lines := rfl
@[simp] theorem setSupply_ctl (v : Nat) (s : State) : (setSupply v s).ctl = s.ctl := rfl
@[simp] theorem setSupply_cfg (v : Nat) (s : State) : (setSupply v s).cfg = s.cfg := rfl
@[simp] theorem setSupply_ip (v : Nat) (s : State) : (setSupply v s).ip = s.ip := rfl
@[simp] theorem setSupply_intent (v : Nat) (s : State) : (setSupply v s).intent = s.intent := rfl
@[simp] theorem setSupply_axle (v : Nat) (s : State) : (setSupply v s).axle = s.axle := rfl
@[simp] theorem setSupply_ref (v : Nat) (s : State) : (setSupply v s).ref = s.ref := rfl
@[simp] theorem setSupply_ev (v : Nat) (s : State) : (setSupply v s).ev = s.ev := rfl
@[simp] theorem setSupply_ceil (v : Nat) (s : State) : (setSupply v s).ceil = s.ceil := rfl
@[simp] theorem setSupply_blend (v : Nat) (s : State) : (setSupply v s).blend = s.blend := rfl
@[simp] theorem setSupply_sand (v : Nat) (s : State) : (setSupply v s).sand = s.sand := rfl
@[simp] theorem setSupply_chain (v : Nat) (s : State) : (setSupply v s).chain = s.chain := rfl
@[simp] theorem setSupply_rep (v : Nat) (s : State) : (setSupply v s).rep = s.rep := rfl
@[simp] theorem setSupply_rw (v : Nat) (s : State) : (setSupply v s).rw = s.rw := rfl
@[simp] theorem setSupply_memory (v : Nat) (s : State) : (setSupply v s).memory = s.memory := rfl
@[simp] theorem setSupply_draws (v : Nat) (s : State) : (setSupply v s).draws = s.draws := rfl
@[simp] theorem setSupply_pending (v : Nat) (s : State) : (setSupply v s).pending = s.pending := rfl

end Sys2Proof.Machine
end

