-- ==== Sys2Proof/Laws/FramesWithin.lean ====
section
/-! SUPPORT. Frames within the interposer, the intent table, the reference and the evaluator: what the operations that
hand words, claim and run leave alone inside them. -/

namespace Sys2Proof.Machine

/-- The part of an outstanding host transaction that no command changes while it waits: the transaction itself and how a
page write was judged. -/
def HostSlot.key (h : HostSlot) : HostTxn × Option (BitVec 8) := (h.txn, h.page)

@[simp] theorem HostSlot.joinPending_key (h : HostSlot) (f : Option InFlight) (a : Addr) (i : Nat) :
    (h.joinPending f a i).key = h.key := by
  simp only [HostSlot.joinPending]
  split
  · split <;> rfl
  · rfl

@[simp] theorem Interposer.enqueue_copy (ip : Interposer) (r : Role) (a : Addr) (w : Word) :
    (ip.enqueue r a w).copy = ip.copy := by
  simp only [Interposer.enqueue]; split <;> rfl
@[simp] theorem Interposer.enqueue_inflight (ip : Interposer) (r : Role) (a : Addr) (w : Word) :
    (ip.enqueue r a w).inflight = ip.inflight := by
  simp only [Interposer.enqueue]; split <;> rfl
@[simp] theorem Interposer.enqueue_lastAbandoned (ip : Interposer) (r : Role) (a : Addr) (w : Word) :
    (ip.enqueue r a w).lastAbandoned = ip.lastAbandoned := by
  simp only [Interposer.enqueue]; split <;> rfl
@[simp] theorem Interposer.enqueue_fetchWait (ip : Interposer) (r : Role) (a : Addr) (w : Word) :
    (ip.enqueue r a w).fetchWait = ip.fetchWait := by
  simp only [Interposer.enqueue]; split <;> rfl
@[simp] theorem Interposer.enqueue_reply (ip : Interposer) (r : Role) (a : Addr) (w : Word) :
    (ip.enqueue r a w).reply = ip.reply := by
  simp only [Interposer.enqueue]; split <;> rfl
@[simp] theorem Interposer.enqueue_port (ip : Interposer) (r : Role) (a : Addr) (w : Word) :
    (ip.enqueue r a w).port = ip.port := by
  simp only [Interposer.enqueue]; split <;> rfl
@[simp] theorem Interposer.enqueue_fetchTimer (ip : Interposer) (r : Role) (a : Addr) (w : Word) :
    (ip.enqueue r a w).fetchTimer = ip.fetchTimer := by
  simp only [Interposer.enqueue]; split <;> rfl
@[simp] theorem Interposer.enqueue_fetch (ip : Interposer) (r : Role) (a : Addr) (w : Word) :
    (ip.enqueue r a w).fetch = ip.fetch := by
  simp only [Interposer.enqueue]; split <;> rfl
@[simp] theorem Interposer.enqueue_key (ip : Interposer) (r : Role) (a : Addr) (w : Word) :
    (ip.enqueue r a w).host.map HostSlot.key = ip.host.map HostSlot.key := by
  simp only [Interposer.enqueue]
  split
  · rfl
  · simp only [Option.map_map]; congr 1; funext h; simp

/-! `hand`. -/

@[simp] theorem hand_ip_copy (r : Role) (w : Word) (s : State) : (hand r w s).ip.copy = s.ip.copy := by
  simp only [hand]; split <;> simp
@[simp] theorem hand_ip_inflight (r : Role) (w : Word) (s : State) : (hand r w s).ip.inflight = s.ip.inflight := by
  simp only [hand]; split <;> simp
@[simp] theorem hand_ip_lastAbandoned (r : Role) (w : Word) (s : State) : (hand r w s).ip.lastAbandoned = s.ip.lastAbandoned := by
  simp only [hand]; split <;> simp
@[simp] theorem hand_ip_fetchWait (r : Role) (w : Word) (s : State) : (hand r w s).ip.fetchWait = s.ip.fetchWait := by
  simp only [hand]; split <;> simp
@[simp] theorem hand_ip_reply (r : Role) (w : Word) (s : State) : (hand r w s).ip.reply = s.ip.reply := by
  simp only [hand]; split <;> simp
@[simp] theorem hand_ip_port (r : Role) (w : Word) (s : State) : (hand r w s).ip.port = s.ip.port := by
  simp only [hand]; split <;> simp
@[simp] theorem hand_ip_fetchTimer (r : Role) (w : Word) (s : State) : (hand r w s).ip.fetchTimer = s.ip.fetchTimer := by
  simp only [hand]; split <;> simp
@[simp] theorem hand_ip_fetch (r : Role) (w : Word) (s : State) : (hand r w s).ip.fetch = s.ip.fetch := by
  simp only [hand]; split <;> simp
@[simp] theorem hand_ip_key (r : Role) (w : Word) (s : State) : (hand r w s).ip.host.map HostSlot.key = s.ip.host.map HostSlot.key := by
  simp only [hand]; split <;> simp
@[simp] theorem hand_intent_channels (r : Role) (w : Word) (s : State) : (hand r w s).intent.channels = s.intent.channels := by
  simp only [hand]; split <;> rfl
@[simp] theorem hand_intent_mode (r : Role) (w : Word) (s : State) : (hand r w s).intent.mode = s.intent.mode := by
  simp only [hand]; split <;> rfl
@[simp] theorem hand_intent_accepted (r : Role) (w : Word) (s : State) : (hand r w s).intent.accepted = s.intent.accepted := by
  simp only [hand]; split <;> rfl
@[simp] theorem hand_intent_adjusted (r : Role) (w : Word) (s : State) : (hand r w s).intent.adjusted = s.intent.adjusted := by
  simp only [hand]; split <;> rfl
@[simp] theorem hand_intent_addrs (r : Role) (w : Word) (s : State) : (hand r w s).intent.addrs = s.intent.addrs := by
  simp only [hand]; split <;> rfl
@[simp] theorem hand_intent_held (r : Role) (w : Word) (s : State) : (hand r w s).intent.held = s.intent.held := by
  simp only [hand]; split <;> rfl

/-! `handTraction`. -/

@[simp] theorem handTraction_ip_copy (m : Motor) (s : State) : (handTraction m s).ip.copy = s.ip.copy := by simp [handTraction]
@[simp] theorem handTraction_ip_inflight (m : Motor) (s : State) : (handTraction m s).ip.inflight = s.ip.inflight := by simp [handTraction]
@[simp] theorem handTraction_ip_lastAbandoned (m : Motor) (s : State) : (handTraction m s).ip.lastAbandoned = s.ip.lastAbandoned := by simp [handTraction]
@[simp] theorem handTraction_ip_fetchWait (m : Motor) (s : State) : (handTraction m s).ip.fetchWait = s.ip.fetchWait := by simp [handTraction]
@[simp] theorem handTraction_ip_reply (m : Motor) (s : State) : (handTraction m s).ip.reply = s.ip.reply := by simp [handTraction]
@[simp] theorem handTraction_ip_port (m : Motor) (s : State) : (handTraction m s).ip.port = s.ip.port := by simp [handTraction]
@[simp] theorem handTraction_ip_fetchTimer (m : Motor) (s : State) : (handTraction m s).ip.fetchTimer = s.ip.fetchTimer := by simp [handTraction]
@[simp] theorem handTraction_ip_fetch (m : Motor) (s : State) : (handTraction m s).ip.fetch = s.ip.fetch := by simp [handTraction]
@[simp] theorem handTraction_ip_key (m : Motor) (s : State) : (handTraction m s).ip.host.map HostSlot.key = s.ip.host.map HostSlot.key := by simp [handTraction]
@[simp] theorem handTraction_intent_channels (m : Motor) (s : State) : (handTraction m s).intent.channels = s.intent.channels := by simp [handTraction]
@[simp] theorem handTraction_intent_mode (m : Motor) (s : State) : (handTraction m s).intent.mode = s.intent.mode := by simp [handTraction]
@[simp] theorem handTraction_intent_accepted (m : Motor) (s : State) : (handTraction m s).intent.accepted = s.intent.accepted := by simp [handTraction]
@[simp] theorem handTraction_intent_adjusted (m : Motor) (s : State) : (handTraction m s).intent.adjusted = s.intent.adjusted := by simp [handTraction]
@[simp] theorem handTraction_intent_addrs (m : Motor) (s : State) : (handTraction m s).intent.addrs = s.intent.addrs := by simp [handTraction]
@[simp] theorem handTraction_intent_held (m : Motor) (s : State) : (handTraction m s).intent.held = s.intent.held := by simp [handTraction]

/-! `handBrake`. -/

@[simp] theorem handBrake_ip_copy (n : Nat) (s : State) : (handBrake n s).ip.copy = s.ip.copy := by simp [handBrake]
@[simp] theorem handBrake_ip_inflight (n : Nat) (s : State) : (handBrake n s).ip.inflight = s.ip.inflight := by simp [handBrake]
@[simp] theorem handBrake_ip_lastAbandoned (n : Nat) (s : State) : (handBrake n s).ip.lastAbandoned = s.ip.lastAbandoned := by simp [handBrake]
@[simp] theorem handBrake_ip_fetchWait (n : Nat) (s : State) : (handBrake n s).ip.fetchWait = s.ip.fetchWait := by simp [handBrake]
@[simp] theorem handBrake_ip_reply (n : Nat) (s : State) : (handBrake n s).ip.reply = s.ip.reply := by simp [handBrake]
@[simp] theorem handBrake_ip_port (n : Nat) (s : State) : (handBrake n s).ip.port = s.ip.port := by simp [handBrake]
@[simp] theorem handBrake_ip_fetchTimer (n : Nat) (s : State) : (handBrake n s).ip.fetchTimer = s.ip.fetchTimer := by simp [handBrake]
@[simp] theorem handBrake_ip_fetch (n : Nat) (s : State) : (handBrake n s).ip.fetch = s.ip.fetch := by simp [handBrake]
@[simp] theorem handBrake_ip_key (n : Nat) (s : State) : (handBrake n s).ip.host.map HostSlot.key = s.ip.host.map HostSlot.key := by simp [handBrake]
@[simp] theorem handBrake_intent_channels (n : Nat) (s : State) : (handBrake n s).intent.channels = s.intent.channels := by simp [handBrake]
@[simp] theorem handBrake_intent_mode (n : Nat) (s : State) : (handBrake n s).intent.mode = s.intent.mode := by simp [handBrake]
@[simp] theorem handBrake_intent_accepted (n : Nat) (s : State) : (handBrake n s).intent.accepted = s.intent.accepted := by simp [handBrake]
@[simp] theorem handBrake_intent_adjusted (n : Nat) (s : State) : (handBrake n s).intent.adjusted = s.intent.adjusted := by simp [handBrake]
@[simp] theorem handBrake_intent_addrs (n : Nat) (s : State) : (handBrake n s).intent.addrs = s.intent.addrs := by simp [handBrake]
@[simp] theorem handBrake_intent_held (n : Nat) (s : State) : (handBrake n s).intent.held = s.intent.held := by simp [handBrake]

/-! `handMode`. -/

@[simp] theorem handMode_ip_copy (s : State) : (handMode s).ip.copy = s.ip.copy := by simp [handMode]
@[simp] theorem handMode_ip_inflight (s : State) : (handMode s).ip.inflight = s.ip.inflight := by simp [handMode]
@[simp] theorem handMode_ip_lastAbandoned (s : State) : (handMode s).ip.lastAbandoned = s.ip.lastAbandoned := by simp [handMode]
@[simp] theorem handMode_ip_fetchWait (s : State) : (handMode s).ip.fetchWait = s.ip.fetchWait := by simp [handMode]
@[simp] theorem handMode_ip_reply (s : State) : (handMode s).ip.reply = s.ip.reply := by simp [handMode]
@[simp] theorem handMode_ip_port (s : State) : (handMode s).ip.port = s.ip.port := by simp [handMode]
@[simp] theorem handMode_ip_fetchTimer (s : State) : (handMode s).ip.fetchTimer = s.ip.fetchTimer := by simp [handMode]
@[simp] theorem handMode_ip_fetch (s : State) : (handMode s).ip.fetch = s.ip.fetch := by simp [handMode]
@[simp] theorem handMode_ip_key (s : State) : (handMode s).ip.host.map HostSlot.key = s.ip.host.map HostSlot.key := by simp [handMode]
@[simp] theorem handMode_intent_channels (s : State) : (handMode s).intent.channels = s.intent.channels := by simp [handMode]
@[simp] theorem handMode_intent_mode (s : State) : (handMode s).intent.mode = s.intent.mode := by simp [handMode]
@[simp] theorem handMode_intent_accepted (s : State) : (handMode s).intent.accepted = s.intent.accepted := by simp [handMode]
@[simp] theorem handMode_intent_adjusted (s : State) : (handMode s).intent.adjusted = s.intent.adjusted := by simp [handMode]
@[simp] theorem handMode_intent_addrs (s : State) : (handMode s).intent.addrs = s.intent.addrs := by simp [handMode]
@[simp] theorem handMode_intent_held (s : State) : (handMode s).intent.held = s.intent.held := by simp [handMode]

/-! `claim`. -/

@[simp] theorem claim_ip_copy (b : Bool) (m : Motor) (s : State) : (claim b m s).ip.copy = s.ip.copy := by simp [claim]
@[simp] theorem claim_ip_inflight (b : Bool) (m : Motor) (s : State) : (claim b m s).ip.inflight = s.ip.inflight := by simp [claim]
@[simp] theorem claim_ip_lastAbandoned (b : Bool) (m : Motor) (s : State) : (claim b m s).ip.lastAbandoned = s.ip.lastAbandoned := by simp [claim]
@[simp] theorem claim_ip_fetchWait (b : Bool) (m : Motor) (s : State) : (claim b m s).ip.fetchWait = s.ip.fetchWait := by simp [claim]
@[simp] theorem claim_ip_reply (b : Bool) (m : Motor) (s : State) : (claim b m s).ip.reply = s.ip.reply := by simp [claim]
@[simp] theorem claim_ip_port (b : Bool) (m : Motor) (s : State) : (claim b m s).ip.port = s.ip.port := by simp [claim]
@[simp] theorem claim_ip_fetchTimer (b : Bool) (m : Motor) (s : State) : (claim b m s).ip.fetchTimer = s.ip.fetchTimer := by simp [claim]
@[simp] theorem claim_ip_fetch (b : Bool) (m : Motor) (s : State) : (claim b m s).ip.fetch = s.ip.fetch := by simp [claim]
@[simp] theorem claim_ip_key (b : Bool) (m : Motor) (s : State) : (claim b m s).ip.host.map HostSlot.key = s.ip.host.map HostSlot.key := by simp [claim]
@[simp] theorem claim_intent_channels (b : Bool) (m : Motor) (s : State) : (claim b m s).intent.channels = s.intent.channels := by simp [claim]
@[simp] theorem claim_intent_mode (b : Bool) (m : Motor) (s : State) : (claim b m s).intent.mode = s.intent.mode := by simp [claim]
@[simp] theorem claim_intent_accepted (b : Bool) (m : Motor) (s : State) : (claim b m s).intent.accepted = s.intent.accepted := by simp [claim]
@[simp] theorem claim_intent_adjusted (b : Bool) (m : Motor) (s : State) : (claim b m s).intent.adjusted = s.intent.adjusted := by simp [claim]
@[simp] theorem claim_intent_addrs (b : Bool) (m : Motor) (s : State) : (claim b m s).intent.addrs = s.intent.addrs := by simp [claim]

/-! `claimBoth`. -/

@[simp] theorem claimBoth_ip_copy (b : Bool) (s : State) : (claimBoth b s).ip.copy = s.ip.copy := by simp [claimBoth]
@[simp] theorem claimBoth_ip_inflight (b : Bool) (s : State) : (claimBoth b s).ip.inflight = s.ip.inflight := by simp [claimBoth]
@[simp] theorem claimBoth_ip_lastAbandoned (b : Bool) (s : State) : (claimBoth b s).ip.lastAbandoned = s.ip.lastAbandoned := by simp [claimBoth]
@[simp] theorem claimBoth_ip_fetchWait (b : Bool) (s : State) : (claimBoth b s).ip.fetchWait = s.ip.fetchWait := by simp [claimBoth]
@[simp] theorem claimBoth_ip_reply (b : Bool) (s : State) : (claimBoth b s).ip.reply = s.ip.reply := by simp [claimBoth]
@[simp] theorem claimBoth_ip_port (b : Bool) (s : State) : (claimBoth b s).ip.port = s.ip.port := by simp [claimBoth]
@[simp] theorem claimBoth_ip_fetchTimer (b : Bool) (s : State) : (claimBoth b s).ip.fetchTimer = s.ip.fetchTimer := by simp [claimBoth]
@[simp] theorem claimBoth_ip_fetch (b : Bool) (s : State) : (claimBoth b s).ip.fetch = s.ip.fetch := by simp [claimBoth]
@[simp] theorem claimBoth_ip_key (b : Bool) (s : State) : (claimBoth b s).ip.host.map HostSlot.key = s.ip.host.map HostSlot.key := by simp [claimBoth]
@[simp] theorem claimBoth_intent_channels (b : Bool) (s : State) : (claimBoth b s).intent.channels = s.intent.channels := by simp [claimBoth]
@[simp] theorem claimBoth_intent_mode (b : Bool) (s : State) : (claimBoth b s).intent.mode = s.intent.mode := by simp [claimBoth]
@[simp] theorem claimBoth_intent_accepted (b : Bool) (s : State) : (claimBoth b s).intent.accepted = s.intent.accepted := by simp [claimBoth]
@[simp] theorem claimBoth_intent_adjusted (b : Bool) (s : State) : (claimBoth b s).intent.adjusted = s.intent.adjusted := by simp [claimBoth]
@[simp] theorem claimBoth_intent_addrs (b : Bool) (s : State) : (claimBoth b s).intent.addrs = s.intent.addrs := by simp [claimBoth]

/-! `sweepOutput`. -/

@[simp] theorem sweepOutput_ip_copy (x : Source) (s : State) : (sweepOutput x s).ip.copy = s.ip.copy := by simp [sweepOutput]
@[simp] theorem sweepOutput_ip_inflight (x : Source) (s : State) : (sweepOutput x s).ip.inflight = s.ip.inflight := by simp [sweepOutput]
@[simp] theorem sweepOutput_ip_lastAbandoned (x : Source) (s : State) : (sweepOutput x s).ip.lastAbandoned = s.ip.lastAbandoned := by simp [sweepOutput]
@[simp] theorem sweepOutput_ip_fetchWait (x : Source) (s : State) : (sweepOutput x s).ip.fetchWait = s.ip.fetchWait := by simp [sweepOutput]
@[simp] theorem sweepOutput_ip_reply (x : Source) (s : State) : (sweepOutput x s).ip.reply = s.ip.reply := by simp [sweepOutput]
@[simp] theorem sweepOutput_ip_port (x : Source) (s : State) : (sweepOutput x s).ip.port = s.ip.port := by simp [sweepOutput]
@[simp] theorem sweepOutput_ip_fetchTimer (x : Source) (s : State) : (sweepOutput x s).ip.fetchTimer = s.ip.fetchTimer := by simp [sweepOutput]
@[simp] theorem sweepOutput_ip_fetch (x : Source) (s : State) : (sweepOutput x s).ip.fetch = s.ip.fetch := by simp [sweepOutput]
@[simp] theorem sweepOutput_ip_key (x : Source) (s : State) : (sweepOutput x s).ip.host.map HostSlot.key = s.ip.host.map HostSlot.key := by simp [sweepOutput]
@[simp] theorem sweepOutput_intent_channels (x : Source) (s : State) : (sweepOutput x s).intent.channels = s.intent.channels := by simp [sweepOutput]
@[simp] theorem sweepOutput_intent_mode (x : Source) (s : State) : (sweepOutput x s).intent.mode = s.intent.mode := by simp [sweepOutput]
@[simp] theorem sweepOutput_intent_accepted (x : Source) (s : State) : (sweepOutput x s).intent.accepted = s.intent.accepted := by simp [sweepOutput]
@[simp] theorem sweepOutput_intent_adjusted (x : Source) (s : State) : (sweepOutput x s).intent.adjusted = s.intent.adjusted := by simp [sweepOutput]
@[simp] theorem sweepOutput_intent_addrs (x : Source) (s : State) : (sweepOutput x s).intent.addrs = s.intent.addrs := by simp [sweepOutput]
@[simp] theorem sweepOutput_intent_held (x : Source) (s : State) : (sweepOutput x s).intent.held = s.intent.held := by simp [sweepOutput]

/-! `initialSweep`. -/

@[simp] theorem initialSweep_ip_copy (s : State) : (initialSweep s).ip.copy = s.ip.copy := by simp [initialSweep]
@[simp] theorem initialSweep_ip_inflight (s : State) : (initialSweep s).ip.inflight = s.ip.inflight := by simp [initialSweep]
@[simp] theorem initialSweep_ip_lastAbandoned (s : State) : (initialSweep s).ip.lastAbandoned = s.ip.lastAbandoned := by simp [initialSweep]
@[simp] theorem initialSweep_ip_fetchWait (s : State) : (initialSweep s).ip.fetchWait = s.ip.fetchWait := by simp [initialSweep]
@[simp] theorem initialSweep_ip_reply (s : State) : (initialSweep s).ip.reply = s.ip.reply := by simp [initialSweep]
@[simp] theorem initialSweep_ip_port (s : State) : (initialSweep s).ip.port = s.ip.port := by simp [initialSweep]
@[simp] theorem initialSweep_ip_fetchTimer (s : State) : (initialSweep s).ip.fetchTimer = s.ip.fetchTimer := by simp [initialSweep]
@[simp] theorem initialSweep_ip_fetch (s : State) : (initialSweep s).ip.fetch = s.ip.fetch := by simp [initialSweep]
@[simp] theorem initialSweep_ip_key (s : State) : (initialSweep s).ip.host.map HostSlot.key = s.ip.host.map HostSlot.key := by simp [initialSweep]
@[simp] theorem initialSweep_intent_channels (s : State) : (initialSweep s).intent.channels = s.intent.channels := by simp [initialSweep]
@[simp] theorem initialSweep_intent_mode (s : State) : (initialSweep s).intent.mode = s.intent.mode := by simp [initialSweep]
@[simp] theorem initialSweep_intent_accepted (s : State) : (initialSweep s).intent.accepted = s.intent.accepted := by simp [initialSweep]
@[simp] theorem initialSweep_intent_adjusted (s : State) : (initialSweep s).intent.adjusted = s.intent.adjusted := by simp [initialSweep]
@[simp] theorem initialSweep_intent_addrs (s : State) : (initialSweep s).intent.addrs = s.intent.addrs := by simp [initialSweep]
@[simp] theorem initialSweep_intent_held (s : State) : (initialSweep s).intent.held = s.intent.held := by simp [initialSweep]

/-! `rollbackClear`. -/

@[simp] theorem rollbackClear_ref_magnitude (b : Bool) (s : State) : (rollbackClear b s).ref.magnitude = s.ref.magnitude := rfl
@[simp] theorem rollbackClear_ref_sense (b : Bool) (s : State) : (rollbackClear b s).ref.sense = s.ref.sense := rfl
@[simp] theorem rollbackClear_ref_acceleration (b : Bool) (s : State) : (rollbackClear b s).ref.acceleration = s.ref.acceleration := rfl
@[simp] theorem rollbackClear_ref_source (b : Bool) (s : State) : (rollbackClear b s).ref.source = s.ref.source := rfl
@[simp] theorem rollbackClear_ref_hold (b : Bool) (s : State) : (rollbackClear b s).ref.hold = s.ref.hold := rfl
@[simp] theorem rollbackClear_ref_chainRef (b : Bool) (s : State) : (rollbackClear b s).ref.chainRef = s.ref.chainRef := rfl
@[simp] theorem rollbackClear_ref_odometer (b : Bool) (s : State) : (rollbackClear b s).ref.odometer = s.ref.odometer := rfl
@[simp] theorem rollbackClear_ref_remainder (b : Bool) (s : State) : (rollbackClear b s).ref.remainder = s.ref.remainder := rfl
@[simp] theorem rollbackClear_ref_step (b : Bool) (s : State) : (rollbackClear b s).ref.step = s.ref.step := rfl
@[simp] theorem rollbackClear_ev_period (b : Bool) (s : State) : (rollbackClear b s).ev.period = s.ev.period := rfl
@[simp] theorem rollbackClear_ev_length (b : Bool) (s : State) : (rollbackClear b s).ev.length = s.ev.length := rfl
@[simp] theorem rollbackClear_ev_slips (b : Bool) (s : State) : (rollbackClear b s).ev.slips = s.ev.slips := rfl
@[simp] theorem rollbackClear_ev_bogies (b : Bool) (s : State) : (rollbackClear b s).ev.bogies = s.ev.bogies := rfl
@[simp] theorem rollbackClear_ev_timers (b : Bool) (s : State) : (rollbackClear b s).ev.timers = s.ev.timers := rfl
@[simp] theorem rollbackClear_ev_running (b : Bool) (s : State) :
    (rollbackClear b s).ev.running.map (fun e => (e.slips, e.bogies)) = s.ev.running.map (fun e => (e.slips, e.bogies)) := by
  simp [rollbackClear, Function.comp_def]

/-! `handRun`. -/

@[simp] theorem handRun_ip_copy (o : State) (w : Walk) (s : State) : (handRun o w s).ip.copy = s.ip.copy := by simp [handRun]
@[simp] theorem handRun_ip_inflight (o : State) (w : Walk) (s : State) : (handRun o w s).ip.inflight = s.ip.inflight := by simp [handRun]
@[simp] theorem handRun_ip_lastAbandoned (o : State) (w : Walk) (s : State) : (handRun o w s).ip.lastAbandoned = s.ip.lastAbandoned := by simp [handRun]
@[simp] theorem handRun_ip_fetchWait (o : State) (w : Walk) (s : State) : (handRun o w s).ip.fetchWait = s.ip.fetchWait := by simp [handRun]
@[simp] theorem handRun_ip_reply (o : State) (w : Walk) (s : State) : (handRun o w s).ip.reply = s.ip.reply := by simp [handRun]
@[simp] theorem handRun_ip_port (o : State) (w : Walk) (s : State) : (handRun o w s).ip.port = s.ip.port := by simp [handRun]
@[simp] theorem handRun_ip_fetchTimer (o : State) (w : Walk) (s : State) : (handRun o w s).ip.fetchTimer = s.ip.fetchTimer := by simp [handRun]
@[simp] theorem handRun_ip_fetch (o : State) (w : Walk) (s : State) : (handRun o w s).ip.fetch = s.ip.fetch := by simp [handRun]
@[simp] theorem handRun_ip_key (o : State) (w : Walk) (s : State) : (handRun o w s).ip.host.map HostSlot.key = s.ip.host.map HostSlot.key := by simp [handRun]
@[simp] theorem handRun_intent_channels (o : State) (w : Walk) (s : State) : (handRun o w s).intent.channels = s.intent.channels := by simp [handRun]
@[simp] theorem handRun_intent_mode (o : State) (w : Walk) (s : State) : (handRun o w s).intent.mode = s.intent.mode := by simp [handRun]
@[simp] theorem handRun_intent_accepted (o : State) (w : Walk) (s : State) : (handRun o w s).intent.accepted = s.intent.accepted := by simp [handRun]
@[simp] theorem handRun_intent_adjusted (o : State) (w : Walk) (s : State) : (handRun o w s).intent.adjusted = s.intent.adjusted := by simp [handRun]
@[simp] theorem handRun_intent_addrs (o : State) (w : Walk) (s : State) : (handRun o w s).intent.addrs = s.intent.addrs := by simp [handRun]
@[simp] theorem handRun_intent_held (o : State) (w : Walk) (s : State) : (handRun o w s).intent.held = s.intent.held := by simp [handRun]

/-! `run`. -/

@[simp] theorem run_ip_copy (b d : Bool) (s : State) : (run b d s).ip.copy = s.ip.copy := by
  simp only [run]; split <;> simp
@[simp] theorem run_ip_inflight (b d : Bool) (s : State) : (run b d s).ip.inflight = s.ip.inflight := by
  simp only [run]; split <;> simp
@[simp] theorem run_ip_lastAbandoned (b d : Bool) (s : State) : (run b d s).ip.lastAbandoned = s.ip.lastAbandoned := by
  simp only [run]; split <;> simp
@[simp] theorem run_ip_fetchWait (b d : Bool) (s : State) : (run b d s).ip.fetchWait = s.ip.fetchWait := by
  simp only [run]; split <;> simp
@[simp] theorem run_ip_reply (b d : Bool) (s : State) : (run b d s).ip.reply = s.ip.reply := by
  simp only [run]; split <;> simp
@[simp] theorem run_ip_port (b d : Bool) (s : State) : (run b d s).ip.port = s.ip.port := by
  simp only [run]; split <;> simp
@[simp] theorem run_ip_fetchTimer (b d : Bool) (s : State) : (run b d s).ip.fetchTimer = s.ip.fetchTimer := by
  simp only [run]; split <;> simp
@[simp] theorem run_ip_fetch (b d : Bool) (s : State) : (run b d s).ip.fetch = s.ip.fetch := by
  simp only [run]; split <;> simp
@[simp] theorem run_ip_key (b d : Bool) (s : State) : (run b d s).ip.host.map HostSlot.key = s.ip.host.map HostSlot.key := by
  simp only [run]; split <;> simp
@[simp] theorem run_intent_channels (b d : Bool) (s : State) : (run b d s).intent.channels = s.intent.channels := by
  simp only [run]; split <;> simp
@[simp] theorem run_intent_mode (b d : Bool) (s : State) : (run b d s).intent.mode = s.intent.mode := by
  simp only [run]; split <;> simp
@[simp] theorem run_intent_accepted (b d : Bool) (s : State) : (run b d s).intent.accepted = s.intent.accepted := by
  simp only [run]; split <;> simp
@[simp] theorem run_intent_adjusted (b d : Bool) (s : State) : (run b d s).intent.adjusted = s.intent.adjusted := by
  simp only [run]; split <;> simp
@[simp] theorem run_intent_addrs (b d : Bool) (s : State) : (run b d s).intent.addrs = s.intent.addrs := by
  simp only [run]; split <;> simp
@[simp] theorem run_intent_held (b d : Bool) (s : State) : (run b d s).intent.held = s.intent.held := by
  simp only [run]; split <;> simp
@[simp] theorem run_ref_magnitude (b d : Bool) (s : State) : (run b d s).ref.magnitude = s.ref.magnitude := by
  simp only [run]; split <;> simp
@[simp] theorem run_ref_sense (b d : Bool) (s : State) : (run b d s).ref.sense = s.ref.sense := by
  simp only [run]; split <;> simp
@[simp] theorem run_ref_acceleration (b d : Bool) (s : State) : (run b d s).ref.acceleration = s.ref.acceleration := by
  simp only [run]; split <;> simp
@[simp] theorem run_ref_source (b d : Bool) (s : State) : (run b d s).ref.source = s.ref.source := by
  simp only [run]; split <;> simp
@[simp] theorem run_ref_hold (b d : Bool) (s : State) : (run b d s).ref.hold = s.ref.hold := by
  simp only [run]; split <;> simp
@[simp] theorem run_ref_chainRef (b d : Bool) (s : State) : (run b d s).ref.chainRef = s.ref.chainRef := by
  simp only [run]; split <;> simp
@[simp] theorem run_ref_odometer (b d : Bool) (s : State) : (run b d s).ref.odometer = s.ref.odometer := by
  simp only [run]; split <;> simp
@[simp] theorem run_ref_remainder (b d : Bool) (s : State) : (run b d s).ref.remainder = s.ref.remainder := by
  simp only [run]; split <;> simp
@[simp] theorem run_ref_step (b d : Bool) (s : State) : (run b d s).ref.step = s.ref.step := by
  simp only [run]; split <;> simp
@[simp] theorem run_ev_period (b d : Bool) (s : State) : (run b d s).ev.period = s.ev.period := by
  simp only [run]; split <;> simp
@[simp] theorem run_ev_length (b d : Bool) (s : State) : (run b d s).ev.length = s.ev.length := by
  simp only [run]; split <;> simp
@[simp] theorem run_ev_slips (b d : Bool) (s : State) : (run b d s).ev.slips = s.ev.slips := by
  simp only [run]; split <;> simp
@[simp] theorem run_ev_bogies (b d : Bool) (s : State) : (run b d s).ev.bogies = s.ev.bogies := by
  simp only [run]; split <;> simp
@[simp] theorem run_ev_timers (b d : Bool) (s : State) : (run b d s).ev.timers = s.ev.timers := by
  simp only [run]; split <;> simp
@[simp] theorem run_ev_running (b d : Bool) (s : State) :
    (run b d s).ev.running.map (fun e => (e.slips, e.bogies)) = s.ev.running.map (fun e => (e.slips, e.bogies)) := by
  simp only [run]; split <;> simp

/-! `runServing`. -/

@[simp] theorem runServing_ip_copy (s : State) : (runServing s).ip.copy = s.ip.copy := by
  simp only [runServing]; (repeat' split) <;> simp
@[simp] theorem runServing_ip_inflight (s : State) : (runServing s).ip.inflight = s.ip.inflight := by
  simp only [runServing]; (repeat' split) <;> simp
@[simp] theorem runServing_ip_lastAbandoned (s : State) : (runServing s).ip.lastAbandoned = s.ip.lastAbandoned := by
  simp only [runServing]; (repeat' split) <;> simp
@[simp] theorem runServing_ip_fetchWait (s : State) : (runServing s).ip.fetchWait = s.ip.fetchWait := by
  simp only [runServing]; (repeat' split) <;> simp
@[simp] theorem runServing_ip_reply (s : State) : (runServing s).ip.reply = s.ip.reply := by
  simp only [runServing]; (repeat' split) <;> simp
@[simp] theorem runServing_ip_port (s : State) : (runServing s).ip.port = s.ip.port := by
  simp only [runServing]; (repeat' split) <;> simp
@[simp] theorem runServing_ip_fetchTimer (s : State) : (runServing s).ip.fetchTimer = s.ip.fetchTimer := by
  simp only [runServing]; (repeat' split) <;> simp
@[simp] theorem runServing_ip_fetch (s : State) : (runServing s).ip.fetch = s.ip.fetch := by
  simp only [runServing]; (repeat' split) <;> simp
@[simp] theorem runServing_ip_key (s : State) : (runServing s).ip.host.map HostSlot.key = s.ip.host.map HostSlot.key := by
  simp only [runServing]; (repeat' split) <;> simp
@[simp] theorem runServing_intent_channels (s : State) : (runServing s).intent.channels = s.intent.channels := by
  simp only [runServing]; (repeat' split) <;> simp
@[simp] theorem runServing_intent_mode (s : State) : (runServing s).intent.mode = s.intent.mode := by
  simp only [runServing]; (repeat' split) <;> simp
@[simp] theorem runServing_intent_accepted (s : State) : (runServing s).intent.accepted = s.intent.accepted := by
  simp only [runServing]; (repeat' split) <;> simp
@[simp] theorem runServing_intent_adjusted (s : State) : (runServing s).intent.adjusted = s.intent.adjusted := by
  simp only [runServing]; (repeat' split) <;> simp
@[simp] theorem runServing_intent_addrs (s : State) : (runServing s).intent.addrs = s.intent.addrs := by
  simp only [runServing]; (repeat' split) <;> simp
@[simp] theorem runServing_intent_held (s : State) : (runServing s).intent.held = s.intent.held := by
  simp only [runServing]; (repeat' split) <;> simp
@[simp] theorem runServing_ref_magnitude (s : State) : (runServing s).ref.magnitude = s.ref.magnitude := by
  simp only [runServing]; (repeat' split) <;> simp
@[simp] theorem runServing_ref_sense (s : State) : (runServing s).ref.sense = s.ref.sense := by
  simp only [runServing]; (repeat' split) <;> simp
@[simp] theorem runServing_ref_acceleration (s : State) : (runServing s).ref.acceleration = s.ref.acceleration := by
  simp only [runServing]; (repeat' split) <;> simp
@[simp] theorem runServing_ref_source (s : State) : (runServing s).ref.source = s.ref.source := by
  simp only [runServing]; (repeat' split) <;> simp
@[simp] theorem runServing_ref_hold (s : State) : (runServing s).ref.hold = s.ref.hold := by
  simp only [runServing]; (repeat' split) <;> simp
@[simp] theorem runServing_ref_chainRef (s : State) : (runServing s).ref.chainRef = s.ref.chainRef := by
  simp only [runServing]; (repeat' split) <;> simp
@[simp] theorem runServing_ref_odometer (s : State) : (runServing s).ref.odometer = s.ref.odometer := by
  simp only [runServing]; (repeat' split) <;> simp
@[simp] theorem runServing_ref_remainder (s : State) : (runServing s).ref.remainder = s.ref.remainder := by
  simp only [runServing]; (repeat' split) <;> simp
@[simp] theorem runServing_ref_step (s : State) : (runServing s).ref.step = s.ref.step := by
  simp only [runServing]; (repeat' split) <;> simp
@[simp] theorem runServing_ev_period (s : State) : (runServing s).ev.period = s.ev.period := by
  simp only [runServing]; (repeat' split) <;> simp
@[simp] theorem runServing_ev_length (s : State) : (runServing s).ev.length = s.ev.length := by
  simp only [runServing]; (repeat' split) <;> simp
@[simp] theorem runServing_ev_slips (s : State) : (runServing s).ev.slips = s.ev.slips := by
  simp only [runServing]; (repeat' split) <;> simp
@[simp] theorem runServing_ev_bogies (s : State) : (runServing s).ev.bogies = s.ev.bogies := by
  simp only [runServing]; (repeat' split) <;> simp
@[simp] theorem runServing_ev_timers (s : State) : (runServing s).ev.timers = s.ev.timers := by
  simp only [runServing]; (repeat' split) <;> simp
@[simp] theorem runServing_ev_running (s : State) :
    (runServing s).ev.running.map (fun e => (e.slips, e.bogies)) = s.ev.running.map (fun e => (e.slips, e.bogies)) := by
  simp only [runServing]; (repeat' split) <;> simp

/-! `rewords`. -/

@[simp] theorem rewords_ip_copy (b : Bool) (s : State) : (rewords b s).ip.copy = s.ip.copy := by simp [rewords]
@[simp] theorem rewords_ip_inflight (b : Bool) (s : State) : (rewords b s).ip.inflight = s.ip.inflight := by simp [rewords]
@[simp] theorem rewords_ip_lastAbandoned (b : Bool) (s : State) : (rewords b s).ip.lastAbandoned = s.ip.lastAbandoned := by simp [rewords]
@[simp] theorem rewords_ip_fetchWait (b : Bool) (s : State) : (rewords b s).ip.fetchWait = s.ip.fetchWait := by simp [rewords]
@[simp] theorem rewords_ip_reply (b : Bool) (s : State) : (rewords b s).ip.reply = s.ip.reply := by simp [rewords]
@[simp] theorem rewords_ip_port (b : Bool) (s : State) : (rewords b s).ip.port = s.ip.port := by simp [rewords]
@[simp] theorem rewords_ip_fetchTimer (b : Bool) (s : State) : (rewords b s).ip.fetchTimer = s.ip.fetchTimer := by simp [rewords]
@[simp] theorem rewords_ip_fetch (b : Bool) (s : State) : (rewords b s).ip.fetch = s.ip.fetch := by simp [rewords]
@[simp] theorem rewords_ip_key (b : Bool) (s : State) : (rewords b s).ip.host.map HostSlot.key = s.ip.host.map HostSlot.key := by simp [rewords]
@[simp] theorem rewords_intent_channels (b : Bool) (s : State) : (rewords b s).intent.channels = s.intent.channels := by simp [rewords]
@[simp] theorem rewords_intent_mode (b : Bool) (s : State) : (rewords b s).intent.mode = s.intent.mode := by simp [rewords]
@[simp] theorem rewords_intent_accepted (b : Bool) (s : State) : (rewords b s).intent.accepted = s.intent.accepted := by simp [rewords]
@[simp] theorem rewords_intent_adjusted (b : Bool) (s : State) : (rewords b s).intent.adjusted = s.intent.adjusted := by simp [rewords]
@[simp] theorem rewords_intent_addrs (b : Bool) (s : State) : (rewords b s).intent.addrs = s.intent.addrs := by simp [rewords]
@[simp] theorem rewords_ref_magnitude (b : Bool) (s : State) : (rewords b s).ref.magnitude = s.ref.magnitude := by simp [rewords]
@[simp] theorem rewords_ref_sense (b : Bool) (s : State) : (rewords b s).ref.sense = s.ref.sense := by simp [rewords]
@[simp] theorem rewords_ref_acceleration (b : Bool) (s : State) : (rewords b s).ref.acceleration = s.ref.acceleration := by simp [rewords]
@[simp] theorem rewords_ref_source (b : Bool) (s : State) : (rewords b s).ref.source = s.ref.source := by simp [rewords]
@[simp] theorem rewords_ref_hold (b : Bool) (s : State) : (rewords b s).ref.hold = s.ref.hold := by simp [rewords]
@[simp] theorem rewords_ref_chainRef (b : Bool) (s : State) : (rewords b s).ref.chainRef = s.ref.chainRef := by simp [rewords]
@[simp] theorem rewords_ref_odometer (b : Bool) (s : State) : (rewords b s).ref.odometer = s.ref.odometer := by simp [rewords]
@[simp] theorem rewords_ref_remainder (b : Bool) (s : State) : (rewords b s).ref.remainder = s.ref.remainder := by simp [rewords]
@[simp] theorem rewords_ref_step (b : Bool) (s : State) : (rewords b s).ref.step = s.ref.step := by simp [rewords]
@[simp] theorem rewords_ev_period (b : Bool) (s : State) : (rewords b s).ev.period = s.ev.period := by simp [rewords]
@[simp] theorem rewords_ev_length (b : Bool) (s : State) : (rewords b s).ev.length = s.ev.length := by simp [rewords]
@[simp] theorem rewords_ev_slips (b : Bool) (s : State) : (rewords b s).ev.slips = s.ev.slips := by simp [rewords]
@[simp] theorem rewords_ev_bogies (b : Bool) (s : State) : (rewords b s).ev.bogies = s.ev.bogies := by simp [rewords]
@[simp] theorem rewords_ev_timers (b : Bool) (s : State) : (rewords b s).ev.timers = s.ev.timers := by simp [rewords]
@[simp] theorem rewords_ev_running (b : Bool) (s : State) :
    (rewords b s).ev.running.map (fun e => (e.slips, e.bogies)) = s.ev.running.map (fun e => (e.slips, e.bogies)) := by simp [rewords]

/-! `enterFallback`. -/

@[simp] theorem enterFallback_ip_copy (s : State) : (enterFallback s).ip.copy = s.ip.copy := by simp [enterFallback]
@[simp] theorem enterFallback_ip_inflight (s : State) : (enterFallback s).ip.inflight = s.ip.inflight := by simp [enterFallback]
@[simp] theorem enterFallback_ip_lastAbandoned (s : State) : (enterFallback s).ip.lastAbandoned = s.ip.lastAbandoned := by simp [enterFallback]
@[simp] theorem enterFallback_ip_fetchWait (s : State) : (enterFallback s).ip.fetchWait = s.ip.fetchWait := by simp [enterFallback]
@[simp] theorem enterFallback_ip_reply (s : State) : (enterFallback s).ip.reply = s.ip.reply := by simp [enterFallback]
@[simp] theorem enterFallback_ip_port (s : State) : (enterFallback s).ip.port = s.ip.port := by simp [enterFallback]
@[simp] theorem enterFallback_ip_fetchTimer (s : State) : (enterFallback s).ip.fetchTimer = s.ip.fetchTimer := by simp [enterFallback]
@[simp] theorem enterFallback_ip_fetch (s : State) : (enterFallback s).ip.fetch = s.ip.fetch := by simp [enterFallback]
@[simp] theorem enterFallback_ip_key (s : State) : (enterFallback s).ip.host.map HostSlot.key = s.ip.host.map HostSlot.key := by simp [enterFallback]
@[simp] theorem enterFallback_intent_channels (s : State) : (enterFallback s).intent.channels = s.intent.channels := by simp [enterFallback]
@[simp] theorem enterFallback_intent_mode (s : State) : (enterFallback s).intent.mode = s.intent.mode := by simp [enterFallback]
@[simp] theorem enterFallback_intent_accepted (s : State) : (enterFallback s).intent.accepted = s.intent.accepted := by simp [enterFallback]
@[simp] theorem enterFallback_intent_adjusted (s : State) : (enterFallback s).intent.adjusted = s.intent.adjusted := by simp [enterFallback]
@[simp] theorem enterFallback_intent_addrs (s : State) : (enterFallback s).intent.addrs = s.intent.addrs := by simp [enterFallback]
@[simp] theorem enterFallback_ref_magnitude (s : State) : (enterFallback s).ref.magnitude = s.ref.magnitude := by simp [enterFallback]
@[simp] theorem enterFallback_ref_sense (s : State) : (enterFallback s).ref.sense = s.ref.sense := by simp [enterFallback]
@[simp] theorem enterFallback_ref_acceleration (s : State) : (enterFallback s).ref.acceleration = s.ref.acceleration := by simp [enterFallback]
@[simp] theorem enterFallback_ref_source (s : State) : (enterFallback s).ref.source = s.ref.source := by simp [enterFallback]
@[simp] theorem enterFallback_ref_hold (s : State) : (enterFallback s).ref.hold = s.ref.hold := by simp [enterFallback]
@[simp] theorem enterFallback_ref_chainRef (s : State) : (enterFallback s).ref.chainRef = s.ref.chainRef := by simp [enterFallback]
@[simp] theorem enterFallback_ref_odometer (s : State) : (enterFallback s).ref.odometer = s.ref.odometer := by simp [enterFallback]
@[simp] theorem enterFallback_ref_remainder (s : State) : (enterFallback s).ref.remainder = s.ref.remainder := by simp [enterFallback]
@[simp] theorem enterFallback_ref_step (s : State) : (enterFallback s).ref.step = s.ref.step := by simp [enterFallback]
@[simp] theorem enterFallback_ev_period (s : State) : (enterFallback s).ev.period = s.ev.period := by simp [enterFallback]
@[simp] theorem enterFallback_ev_length (s : State) : (enterFallback s).ev.length = s.ev.length := by simp [enterFallback]
@[simp] theorem enterFallback_ev_slips (s : State) : (enterFallback s).ev.slips = s.ev.slips := by simp [enterFallback]
@[simp] theorem enterFallback_ev_bogies (s : State) : (enterFallback s).ev.bogies = s.ev.bogies := by simp [enterFallback]
@[simp] theorem enterFallback_ev_timers (s : State) : (enterFallback s).ev.timers = s.ev.timers := by simp [enterFallback]
@[simp] theorem enterFallback_ev_running (s : State) :
    (enterFallback s).ev.running.map (fun e => (e.slips, e.bogies)) = s.ev.running.map (fun e => (e.slips, e.bogies)) := by simp [enterFallback]

/-! `deliverCause`. -/

@[simp] theorem deliverCause_ip_copy (x : FallbackCause) (s : State) : (deliverCause x s).ip.copy = s.ip.copy := by
  simp only [deliverCause]; (repeat' split) <;> simp
@[simp] theorem deliverCause_ip_inflight (x : FallbackCause) (s : State) : (deliverCause x s).ip.inflight = s.ip.inflight := by
  simp only [deliverCause]; (repeat' split) <;> simp
@[simp] theorem deliverCause_ip_lastAbandoned (x : FallbackCause) (s : State) : (deliverCause x s).ip.lastAbandoned = s.ip.lastAbandoned := by
  simp only [deliverCause]; (repeat' split) <;> simp
@[simp] theorem deliverCause_ip_fetchWait (x : FallbackCause) (s : State) : (deliverCause x s).ip.fetchWait = s.ip.fetchWait := by
  simp only [deliverCause]; (repeat' split) <;> simp
@[simp] theorem deliverCause_ip_reply (x : FallbackCause) (s : State) : (deliverCause x s).ip.reply = s.ip.reply := by
  simp only [deliverCause]; (repeat' split) <;> simp
@[simp] theorem deliverCause_ip_port (x : FallbackCause) (s : State) : (deliverCause x s).ip.port = s.ip.port := by
  simp only [deliverCause]; (repeat' split) <;> simp
@[simp] theorem deliverCause_ip_fetchTimer (x : FallbackCause) (s : State) : (deliverCause x s).ip.fetchTimer = s.ip.fetchTimer := by
  simp only [deliverCause]; (repeat' split) <;> simp
@[simp] theorem deliverCause_ip_fetch (x : FallbackCause) (s : State) : (deliverCause x s).ip.fetch = s.ip.fetch := by
  simp only [deliverCause]; (repeat' split) <;> simp
@[simp] theorem deliverCause_ip_key (x : FallbackCause) (s : State) : (deliverCause x s).ip.host.map HostSlot.key = s.ip.host.map HostSlot.key := by
  simp only [deliverCause]; (repeat' split) <;> simp
@[simp] theorem deliverCause_intent_channels (x : FallbackCause) (s : State) : (deliverCause x s).intent.channels = s.intent.channels := by
  simp only [deliverCause]; (repeat' split) <;> simp
@[simp] theorem deliverCause_intent_mode (x : FallbackCause) (s : State) : (deliverCause x s).intent.mode = s.intent.mode := by
  simp only [deliverCause]; (repeat' split) <;> simp
@[simp] theorem deliverCause_intent_accepted (x : FallbackCause) (s : State) : (deliverCause x s).intent.accepted = s.intent.accepted := by
  simp only [deliverCause]; (repeat' split) <;> simp
@[simp] theorem deliverCause_intent_adjusted (x : FallbackCause) (s : State) : (deliverCause x s).intent.adjusted = s.intent.adjusted := by
  simp only [deliverCause]; (repeat' split) <;> simp
@[simp] theorem deliverCause_intent_addrs (x : FallbackCause) (s : State) : (deliverCause x s).intent.addrs = s.intent.addrs := by
  simp only [deliverCause]; (repeat' split) <;> simp
@[simp] theorem deliverCause_ref_magnitude (x : FallbackCause) (s : State) : (deliverCause x s).ref.magnitude = s.ref.magnitude := by
  simp only [deliverCause]; (repeat' split) <;> simp
@[simp] theorem deliverCause_ref_sense (x : FallbackCause) (s : State) : (deliverCause x s).ref.sense = s.ref.sense := by
  simp only [deliverCause]; (repeat' split) <;> simp
@[simp] theorem deliverCause_ref_acceleration (x : FallbackCause) (s : State) : (deliverCause x s).ref.acceleration = s.ref.acceleration := by
  simp only [deliverCause]; (repeat' split) <;> simp
@[simp] theorem deliverCause_ref_source (x : FallbackCause) (s : State) : (deliverCause x s).ref.source = s.ref.source := by
  simp only [deliverCause]; (repeat' split) <;> simp
@[simp] theorem deliverCause_ref_hold (x : FallbackCause) (s : State) : (deliverCause x s).ref.hold = s.ref.hold := by
  simp only [deliverCause]; (repeat' split) <;> simp
@[simp] theorem deliverCause_ref_chainRef (x : FallbackCause) (s : State) : (deliverCause x s).ref.chainRef = s.ref.chainRef := by
  simp only [deliverCause]; (repeat' split) <;> simp
@[simp] theorem deliverCause_ref_odometer (x : FallbackCause) (s : State) : (deliverCause x s).ref.odometer = s.ref.odometer := by
  simp only [deliverCause]; (repeat' split) <;> simp
@[simp] theorem deliverCause_ref_remainder (x : FallbackCause) (s : State) : (deliverCause x s).ref.remainder = s.ref.remainder := by
  simp only [deliverCause]; (repeat' split) <;> simp
@[simp] theorem deliverCause_ref_step (x : FallbackCause) (s : State) : (deliverCause x s).ref.step = s.ref.step := by
  simp only [deliverCause]; (repeat' split) <;> simp
@[simp] theorem deliverCause_ev_period (x : FallbackCause) (s : State) : (deliverCause x s).ev.period = s.ev.period := by
  simp only [deliverCause]; (repeat' split) <;> simp
@[simp] theorem deliverCause_ev_length (x : FallbackCause) (s : State) : (deliverCause x s).ev.length = s.ev.length := by
  simp only [deliverCause]; (repeat' split) <;> simp
@[simp] theorem deliverCause_ev_slips (x : FallbackCause) (s : State) : (deliverCause x s).ev.slips = s.ev.slips := by
  simp only [deliverCause]; (repeat' split) <;> simp
@[simp] theorem deliverCause_ev_bogies (x : FallbackCause) (s : State) : (deliverCause x s).ev.bogies = s.ev.bogies := by
  simp only [deliverCause]; (repeat' split) <;> simp
@[simp] theorem deliverCause_ev_timers (x : FallbackCause) (s : State) : (deliverCause x s).ev.timers = s.ev.timers := by
  simp only [deliverCause]; (repeat' split) <;> simp
@[simp] theorem deliverCause_ev_running (x : FallbackCause) (s : State) :
    (deliverCause x s).ev.running.map (fun e => (e.slips, e.bogies)) = s.ev.running.map (fun e => (e.slips, e.bogies)) := by
  simp only [deliverCause]; (repeat' split) <;> simp

/-! `evaluationRun`. -/

@[simp] theorem evaluationRun_ip_copy (e : Evaluation) (s : State) : (evaluationRun e s).ip.copy = s.ip.copy := by simp [evaluationRun]
@[simp] theorem evaluationRun_ip_inflight (e : Evaluation) (s : State) : (evaluationRun e s).ip.inflight = s.ip.inflight := by simp [evaluationRun]
@[simp] theorem evaluationRun_ip_lastAbandoned (e : Evaluation) (s : State) : (evaluationRun e s).ip.lastAbandoned = s.ip.lastAbandoned := by simp [evaluationRun]
@[simp] theorem evaluationRun_ip_fetchWait (e : Evaluation) (s : State) : (evaluationRun e s).ip.fetchWait = s.ip.fetchWait := by simp [evaluationRun]
@[simp] theorem evaluationRun_ip_reply (e : Evaluation) (s : State) : (evaluationRun e s).ip.reply = s.ip.reply := by simp [evaluationRun]
@[simp] theorem evaluationRun_ip_port (e : Evaluation) (s : State) : (evaluationRun e s).ip.port = s.ip.port := by simp [evaluationRun]
@[simp] theorem evaluationRun_ip_fetchTimer (e : Evaluation) (s : State) : (evaluationRun e s).ip.fetchTimer = s.ip.fetchTimer := by simp [evaluationRun]
@[simp] theorem evaluationRun_ip_fetch (e : Evaluation) (s : State) : (evaluationRun e s).ip.fetch = s.ip.fetch := by simp [evaluationRun]
@[simp] theorem evaluationRun_ip_key (e : Evaluation) (s : State) : (evaluationRun e s).ip.host.map HostSlot.key = s.ip.host.map HostSlot.key := by simp [evaluationRun]
@[simp] theorem evaluationRun_intent_channels (e : Evaluation) (s : State) : (evaluationRun e s).intent.channels = s.intent.channels := by simp [evaluationRun]
@[simp] theorem evaluationRun_intent_mode (e : Evaluation) (s : State) : (evaluationRun e s).intent.mode = s.intent.mode := by simp [evaluationRun]
@[simp] theorem evaluationRun_intent_accepted (e : Evaluation) (s : State) : (evaluationRun e s).intent.accepted = s.intent.accepted := by simp [evaluationRun]
@[simp] theorem evaluationRun_intent_adjusted (e : Evaluation) (s : State) : (evaluationRun e s).intent.adjusted = s.intent.adjusted := by simp [evaluationRun]
@[simp] theorem evaluationRun_intent_addrs (e : Evaluation) (s : State) : (evaluationRun e s).intent.addrs = s.intent.addrs := by simp [evaluationRun]
@[simp] theorem evaluationRun_intent_held (e : Evaluation) (s : State) : (evaluationRun e s).intent.held = s.intent.held := by simp [evaluationRun]
@[simp] theorem evaluationRun_ref_magnitude (e : Evaluation) (s : State) : (evaluationRun e s).ref.magnitude = s.ref.magnitude := by simp [evaluationRun]
@[simp] theorem evaluationRun_ref_sense (e : Evaluation) (s : State) : (evaluationRun e s).ref.sense = s.ref.sense := by simp [evaluationRun]
@[simp] theorem evaluationRun_ref_acceleration (e : Evaluation) (s : State) : (evaluationRun e s).ref.acceleration = s.ref.acceleration := by simp [evaluationRun]
@[simp] theorem evaluationRun_ref_source (e : Evaluation) (s : State) : (evaluationRun e s).ref.source = s.ref.source := by simp [evaluationRun]
@[simp] theorem evaluationRun_ref_hold (e : Evaluation) (s : State) : (evaluationRun e s).ref.hold = s.ref.hold := by simp [evaluationRun]
@[simp] theorem evaluationRun_ref_chainRef (e : Evaluation) (s : State) : (evaluationRun e s).ref.chainRef = s.ref.chainRef := by simp [evaluationRun]
@[simp] theorem evaluationRun_ref_odometer (e : Evaluation) (s : State) : (evaluationRun e s).ref.odometer = s.ref.odometer := by simp [evaluationRun]
@[simp] theorem evaluationRun_ref_remainder (e : Evaluation) (s : State) : (evaluationRun e s).ref.remainder = s.ref.remainder := by simp [evaluationRun]
@[simp] theorem evaluationRun_ref_step (e : Evaluation) (s : State) : (evaluationRun e s).ref.step = s.ref.step := by simp [evaluationRun]
@[simp] theorem evaluationRun_ev_period (e : Evaluation) (s : State) : (evaluationRun e s).ev.period = s.ev.period := by simp [evaluationRun]
@[simp] theorem evaluationRun_ev_length (e : Evaluation) (s : State) : (evaluationRun e s).ev.length = s.ev.length := by simp [evaluationRun]
@[simp] theorem evaluationRun_ev_slips (e : Evaluation) (s : State) : (evaluationRun e s).ev.slips = s.ev.slips := by simp [evaluationRun]
@[simp] theorem evaluationRun_ev_bogies (e : Evaluation) (s : State) : (evaluationRun e s).ev.bogies = s.ev.bogies := by simp [evaluationRun]
@[simp] theorem evaluationRun_ev_timers (e : Evaluation) (s : State) : (evaluationRun e s).ev.timers = s.ev.timers := by simp [evaluationRun]
@[simp] theorem evaluationRun_ev_running (e : Evaluation) (s : State) :
    (evaluationRun e s).ev.running.map (fun e => (e.slips, e.bogies)) = s.ev.running.map (fun e => (e.slips, e.bogies)) := by simp [evaluationRun]

/-! `feedbackDelivery`. -/

@[simp] theorem feedbackDelivery_ip_copy (x : PerMotor (Option Int)) (s : State) : (feedbackDelivery x s).ip.copy = s.ip.copy := by simp [feedbackDelivery]
@[simp] theorem feedbackDelivery_ip_inflight (x : PerMotor (Option Int)) (s : State) : (feedbackDelivery x s).ip.inflight = s.ip.inflight := by simp [feedbackDelivery]
@[simp] theorem feedbackDelivery_ip_lastAbandoned (x : PerMotor (Option Int)) (s : State) : (feedbackDelivery x s).ip.lastAbandoned = s.ip.lastAbandoned := by simp [feedbackDelivery]
@[simp] theorem feedbackDelivery_ip_fetchWait (x : PerMotor (Option Int)) (s : State) : (feedbackDelivery x s).ip.fetchWait = s.ip.fetchWait := by simp [feedbackDelivery]
@[simp] theorem feedbackDelivery_ip_reply (x : PerMotor (Option Int)) (s : State) : (feedbackDelivery x s).ip.reply = s.ip.reply := by simp [feedbackDelivery]
@[simp] theorem feedbackDelivery_ip_port (x : PerMotor (Option Int)) (s : State) : (feedbackDelivery x s).ip.port = s.ip.port := by simp [feedbackDelivery]
@[simp] theorem feedbackDelivery_ip_fetchTimer (x : PerMotor (Option Int)) (s : State) : (feedbackDelivery x s).ip.fetchTimer = s.ip.fetchTimer := by simp [feedbackDelivery]
@[simp] theorem feedbackDelivery_ip_fetch (x : PerMotor (Option Int)) (s : State) : (feedbackDelivery x s).ip.fetch = s.ip.fetch := by simp [feedbackDelivery]
@[simp] theorem feedbackDelivery_ip_key (x : PerMotor (Option Int)) (s : State) : (feedbackDelivery x s).ip.host.map HostSlot.key = s.ip.host.map HostSlot.key := by simp [feedbackDelivery]
@[simp] theorem feedbackDelivery_intent_channels (x : PerMotor (Option Int)) (s : State) : (feedbackDelivery x s).intent.channels = s.intent.channels := by simp [feedbackDelivery]
@[simp] theorem feedbackDelivery_intent_mode (x : PerMotor (Option Int)) (s : State) : (feedbackDelivery x s).intent.mode = s.intent.mode := by simp [feedbackDelivery]
@[simp] theorem feedbackDelivery_intent_accepted (x : PerMotor (Option Int)) (s : State) : (feedbackDelivery x s).intent.accepted = s.intent.accepted := by simp [feedbackDelivery]
@[simp] theorem feedbackDelivery_intent_adjusted (x : PerMotor (Option Int)) (s : State) : (feedbackDelivery x s).intent.adjusted = s.intent.adjusted := by simp [feedbackDelivery]
@[simp] theorem feedbackDelivery_intent_addrs (x : PerMotor (Option Int)) (s : State) : (feedbackDelivery x s).intent.addrs = s.intent.addrs := by simp [feedbackDelivery]
@[simp] theorem feedbackDelivery_intent_held (x : PerMotor (Option Int)) (s : State) : (feedbackDelivery x s).intent.held = s.intent.held := by simp [feedbackDelivery]
@[simp] theorem feedbackDelivery_ref_magnitude (x : PerMotor (Option Int)) (s : State) : (feedbackDelivery x s).ref.magnitude = s.ref.magnitude := by simp [feedbackDelivery]
@[simp] theorem feedbackDelivery_ref_sense (x : PerMotor (Option Int)) (s : State) : (feedbackDelivery x s).ref.sense = s.ref.sense := by simp [feedbackDelivery]
@[simp] theorem feedbackDelivery_ref_acceleration (x : PerMotor (Option Int)) (s : State) : (feedbackDelivery x s).ref.acceleration = s.ref.acceleration := by simp [feedbackDelivery]
@[simp] theorem feedbackDelivery_ref_source (x : PerMotor (Option Int)) (s : State) : (feedbackDelivery x s).ref.source = s.ref.source := by simp [feedbackDelivery]
@[simp] theorem feedbackDelivery_ref_hold (x : PerMotor (Option Int)) (s : State) : (feedbackDelivery x s).ref.hold = s.ref.hold := by simp [feedbackDelivery]
@[simp] theorem feedbackDelivery_ref_chainRef (x : PerMotor (Option Int)) (s : State) : (feedbackDelivery x s).ref.chainRef = s.ref.chainRef := by simp [feedbackDelivery]
@[simp] theorem feedbackDelivery_ref_odometer (x : PerMotor (Option Int)) (s : State) : (feedbackDelivery x s).ref.odometer = s.ref.odometer := by simp [feedbackDelivery]
@[simp] theorem feedbackDelivery_ref_remainder (x : PerMotor (Option Int)) (s : State) : (feedbackDelivery x s).ref.remainder = s.ref.remainder := by simp [feedbackDelivery]
@[simp] theorem feedbackDelivery_ref_step (x : PerMotor (Option Int)) (s : State) : (feedbackDelivery x s).ref.step = s.ref.step := by simp [feedbackDelivery]
@[simp] theorem feedbackDelivery_ev_period (x : PerMotor (Option Int)) (s : State) : (feedbackDelivery x s).ev.period = s.ev.period := by simp [feedbackDelivery]
@[simp] theorem feedbackDelivery_ev_length (x : PerMotor (Option Int)) (s : State) : (feedbackDelivery x s).ev.length = s.ev.length := by simp [feedbackDelivery]
@[simp] theorem feedbackDelivery_ev_slips (x : PerMotor (Option Int)) (s : State) : (feedbackDelivery x s).ev.slips = s.ev.slips := by simp [feedbackDelivery]
@[simp] theorem feedbackDelivery_ev_bogies (x : PerMotor (Option Int)) (s : State) : (feedbackDelivery x s).ev.bogies = s.ev.bogies := by simp [feedbackDelivery]
@[simp] theorem feedbackDelivery_ev_timers (x : PerMotor (Option Int)) (s : State) : (feedbackDelivery x s).ev.timers = s.ev.timers := by simp [feedbackDelivery]
@[simp] theorem feedbackDelivery_ev_running (x : PerMotor (Option Int)) (s : State) :
    (feedbackDelivery x s).ev.running.map (fun e => (e.slips, e.bogies)) = s.ev.running.map (fun e => (e.slips, e.bogies)) := by simp [feedbackDelivery]

/-! `ceilingPass`. -/

@[simp] theorem ceilingPass_ip_copy (e : Evaluation) (s : State) : (ceilingPass e s).ip.copy = s.ip.copy := by
  simp only [ceilingPass]; (repeat' split) <;> simp
@[simp] theorem ceilingPass_ip_inflight (e : Evaluation) (s : State) : (ceilingPass e s).ip.inflight = s.ip.inflight := by
  simp only [ceilingPass]; (repeat' split) <;> simp
@[simp] theorem ceilingPass_ip_lastAbandoned (e : Evaluation) (s : State) : (ceilingPass e s).ip.lastAbandoned = s.ip.lastAbandoned := by
  simp only [ceilingPass]; (repeat' split) <;> simp
@[simp] theorem ceilingPass_ip_fetchWait (e : Evaluation) (s : State) : (ceilingPass e s).ip.fetchWait = s.ip.fetchWait := by
  simp only [ceilingPass]; (repeat' split) <;> simp
@[simp] theorem ceilingPass_ip_reply (e : Evaluation) (s : State) : (ceilingPass e s).ip.reply = s.ip.reply := by
  simp only [ceilingPass]; (repeat' split) <;> simp
@[simp] theorem ceilingPass_ip_port (e : Evaluation) (s : State) : (ceilingPass e s).ip.port = s.ip.port := by
  simp only [ceilingPass]; (repeat' split) <;> simp
@[simp] theorem ceilingPass_ip_fetchTimer (e : Evaluation) (s : State) : (ceilingPass e s).ip.fetchTimer = s.ip.fetchTimer := by
  simp only [ceilingPass]; (repeat' split) <;> simp
@[simp] theorem ceilingPass_ip_fetch (e : Evaluation) (s : State) : (ceilingPass e s).ip.fetch = s.ip.fetch := by
  simp only [ceilingPass]; (repeat' split) <;> simp
@[simp] theorem ceilingPass_ip_key (e : Evaluation) (s : State) : (ceilingPass e s).ip.host.map HostSlot.key = s.ip.host.map HostSlot.key := by
  simp only [ceilingPass]; (repeat' split) <;> simp
@[simp] theorem ceilingPass_intent_channels (e : Evaluation) (s : State) : (ceilingPass e s).intent.channels = s.intent.channels := by
  simp only [ceilingPass]; (repeat' split) <;> simp
@[simp] theorem ceilingPass_intent_mode (e : Evaluation) (s : State) : (ceilingPass e s).intent.mode = s.intent.mode := by
  simp only [ceilingPass]; (repeat' split) <;> simp
@[simp] theorem ceilingPass_intent_accepted (e : Evaluation) (s : State) : (ceilingPass e s).intent.accepted = s.intent.accepted := by
  simp only [ceilingPass]; (repeat' split) <;> simp
@[simp] theorem ceilingPass_intent_adjusted (e : Evaluation) (s : State) : (ceilingPass e s).intent.adjusted = s.intent.adjusted := by
  simp only [ceilingPass]; (repeat' split) <;> simp
@[simp] theorem ceilingPass_intent_addrs (e : Evaluation) (s : State) : (ceilingPass e s).intent.addrs = s.intent.addrs := by
  simp only [ceilingPass]; (repeat' split) <;> simp

end Sys2Proof.Machine
end

