-- ==== Sys2Proof/Laws/State.lean ====
section
/-! SUPPORT. Reading back what was built or set in the fixed collections of `State`, and the fields of the updates the
statements name. -/

namespace Sys2Proof.Machine

/-! ### `PerAxle` -/

@[simp] theorem PerAxle.get_build {α : Type} (f : Axle → α) (i : Axle) : (PerAxle.build f).get i = f i := by
  cases i <;> rfl

@[simp] theorem PerAxle.get_set {α : Type} (v : PerAxle α) (i j : Axle) (x : α) :
    (v.set i x).get j = if j = i then x else v.get j := by
  simp [PerAxle.set]

theorem PerAxle.get_set_self {α : Type} (v : PerAxle α) (i : Axle) (x : α) : (v.set i x).get i = x := by simp

theorem PerAxle.get_set_ne {α : Type} (v : PerAxle α) {i j : Axle} (x : α) (h : j ≠ i) : (v.set i x).get j = v.get j := by
  simp [h]

theorem PerAxle.ext_get {α : Type} {v w : PerAxle α} (h : ∀ i, v.get i = w.get i) : v = w := by
  cases v; cases w
  simp only [PerAxle.mk.injEq]
  refine ⟨h .a1, h .a2, h .t1, h .t2, h .b1, h .b2⟩

/-! ### `PerBogie` -/

@[simp] theorem PerBogie.get_build {α : Type} (f : Bogie → α) (i : Bogie) : (PerBogie.build f).get i = f i := by
  cases i <;> rfl

@[simp] theorem PerBogie.get_set {α : Type} (v : PerBogie α) (i j : Bogie) (x : α) :
    (v.set i x).get j = if j = i then x else v.get j := by
  simp [PerBogie.set]

theorem PerBogie.get_set_self {α : Type} (v : PerBogie α) (i : Bogie) (x : α) : (v.set i x).get i = x := by simp

theorem PerBogie.get_set_ne {α : Type} (v : PerBogie α) {i j : Bogie} (x : α) (h : j ≠ i) : (v.set i x).get j = v.get j := by
  simp [h]

theorem PerBogie.ext_get {α : Type} {v w : PerBogie α} (h : ∀ i, v.get i = w.get i) : v = w := by
  cases v; cases w
  simp only [PerBogie.mk.injEq]
  refine ⟨h .a, h .t, h .b⟩

/-! ### `PerMotor` -/

@[simp] theorem PerMotor.get_build {α : Type} (f : Motor → α) (i : Motor) : (PerMotor.build f).get i = f i := by
  cases i <;> rfl

@[simp] theorem PerMotor.get_set {α : Type} (v : PerMotor α) (i j : Motor) (x : α) :
    (v.set i x).get j = if j = i then x else v.get j := by
  simp [PerMotor.set]

theorem PerMotor.get_set_self {α : Type} (v : PerMotor α) (i : Motor) (x : α) : (v.set i x).get i = x := by simp

theorem PerMotor.get_set_ne {α : Type} (v : PerMotor α) {i j : Motor} (x : α) (h : j ≠ i) : (v.set i x).get j = v.get j := by
  simp [h]

theorem PerMotor.ext_get {α : Type} {v w : PerMotor α} (h : ∀ i, v.get i = w.get i) : v = w := by
  cases v; cases w
  simp only [PerMotor.mk.injEq]
  refine ⟨h .a, h .b⟩

/-! ### `PerSander` -/

@[simp] theorem PerSander.get_build {α : Type} (f : SanderId → α) (i : SanderId) : (PerSander.build f).get i = f i := by
  cases i <;> rfl

@[simp] theorem PerSander.get_set {α : Type} (v : PerSander α) (i j : SanderId) (x : α) :
    (v.set i x).get j = if j = i then x else v.get j := by
  simp [PerSander.set]

theorem PerSander.get_set_self {α : Type} (v : PerSander α) (i : SanderId) (x : α) : (v.set i x).get i = x := by simp

theorem PerSander.get_set_ne {α : Type} (v : PerSander α) {i j : SanderId} (x : α) (h : j ≠ i) : (v.set i x).get j = v.get j := by
  simp [h]

theorem PerSander.ext_get {α : Type} {v w : PerSander α} (h : ∀ i, v.get i = w.get i) : v = w := by
  cases v; cases w
  simp only [PerSander.mk.injEq]
  refine ⟨h .s1, h .s2, h .s3, h .s4⟩

/-! ### `PerEffort` -/

@[simp] theorem PerEffort.get_build {α : Type} (f : EffortRole → α) (i : EffortRole) : (PerEffort.build f).get i = f i := by
  cases i <;> rfl

@[simp] theorem PerEffort.get_set {α : Type} (v : PerEffort α) (i j : EffortRole) (x : α) :
    (v.set i x).get j = if j = i then x else v.get j := by
  simp [PerEffort.set]

theorem PerEffort.get_set_self {α : Type} (v : PerEffort α) (i : EffortRole) (x : α) : (v.set i x).get i = x := by simp

theorem PerEffort.get_set_ne {α : Type} (v : PerEffort α) {i j : EffortRole} (x : α) (h : j ≠ i) : (v.set i x).get j = v.get j := by
  simp [h]

theorem PerEffort.ext_get {α : Type} {v w : PerEffort α} (h : ∀ i, v.get i = w.get i) : v = w := by
  cases v; cases w
  simp only [PerEffort.mk.injEq]
  refine ⟨h .tractionA, h .tractionB, h .brake⟩

/-! ### `PerSource` -/

@[simp] theorem PerSource.get_build {α : Type} (f : Source → α) (i : Source) : (PerSource.build f).get i = f i := by
  cases i <;> rfl

@[simp] theorem PerSource.get_set {α : Type} (v : PerSource α) (i j : Source) (x : α) :
    (v.set i x).get j = if j = i then x else v.get j := by
  simp [PerSource.set]

theorem PerSource.get_set_self {α : Type} (v : PerSource α) (i : Source) (x : α) : (v.set i x).get i = x := by simp

theorem PerSource.get_set_ne {α : Type} (v : PerSource α) {i j : Source} (x : α) (h : j ≠ i) : (v.set i x).get j = v.get j := by
  simp [h]

theorem PerSource.ext_get {α : Type} {v w : PerSource α} (h : ∀ i, v.get i = w.get i) : v = w := by
  cases v; cases w
  simp only [PerSource.mk.injEq]
  refine ⟨h .edA, h .edB, h .frA, h .frT, h .frB⟩

/-! ### `PerRole` -/

@[simp] theorem PerRole.get_set {α : Type} (v : PerRole α) (r q : Role) (x : α) :
    (v.set r x).get q = if q = r then x else v.get q := by
  cases r <;> cases q <;> simp [PerRole.set, PerRole.get]

theorem PerRole.get_set_self {α : Type} (v : PerRole α) (r : Role) (x : α) : (v.set r x).get r = x := by simp

theorem PerRole.get_set_ne {α : Type} (v : PerRole α) {r q : Role} (x : α) (h : q ≠ r) :
    (v.set r x).get q = v.get q := by
  simp [h]

@[simp] theorem PerRole.get_same {α : Type} (x : α) (r : Role) : (PerRole.same x).get r = x := by
  rcases r with r | _ | r <;> first | rfl | (cases r <;> rfl)

/-! ### The updates the statements name -/

@[simp] theorem State.completed_ctl (s : State) (ok : Bool) (d : Word) : (s.completed ok d).ctl = s.ctl := rfl
@[simp] theorem State.completed_cfg (s : State) (ok : Bool) (d : Word) : (s.completed ok d).cfg = s.cfg := rfl
@[simp] theorem State.completed_rep (s : State) (ok : Bool) (d : Word) : (s.completed ok d).rep = s.rep := rfl
@[simp] theorem State.completed_host (s : State) (ok : Bool) (d : Word) : (s.completed ok d).ip.host = none := rfl
@[simp] theorem State.completed_port (s : State) (ok : Bool) (d : Word) : (s.completed ok d).ip.port = none := rfl
@[simp] theorem State.completed_queue (s : State) (ok : Bool) (d : Word) : (s.completed ok d).ip.queue = s.ip.queue :=
  rfl
@[simp] theorem State.answered_ctl (s : State) (ok : Bool) : (s.answered ok).ctl = s.ctl := rfl
@[simp] theorem State.answered_rep (s : State) (ok : Bool) : (s.answered ok).rep = s.rep := rfl
@[simp] theorem State.answered_host (s : State) (ok : Bool) : (s.answered ok).ip.host = none := rfl
@[simp] theorem State.raised_ctl (s : State) (c : Cause) : (s.raised c).ctl = s.ctl := rfl
@[simp] theorem State.raised_rep (s : State) (c : Cause) : (s.raised c).rep = s.rep.raise c := rfl
@[simp] theorem State.counted_rep (s : State) (c : Counter) : (s.counted c).rep = s.rep.bump c.number := rfl

end Sys2Proof.Machine
end

