-- ==== Sys2Proof/Laws/Operations.lean ====
section
/-! SUPPORT. What the shared operations do, said once each: raising, counting and clearing in the reporter, handing a
word to the write-back queue, clipping, the target of the held traction, timers and the reaching of marks. -/

namespace Sys2Proof.Machine

/-! ### Flags and counters (R185, R186, R188) -/

/-- Causes have distinct numbers. -/
theorem Cause.number_inj {c d : Cause} (h : c.number = d.number) : c = d := by
  cases c <;> cases d <;> first | rfl | exact absurd h (by decide)

@[simp] theorem Reporter.bump_flag (r : Reporter) (i : Fin 40) (c : Cause) : (r.bump i).flag c = r.flag c := rfl

@[simp] theorem Reporter.bump_flags (r : Reporter) (i : Fin 40) : (r.bump i).flags = r.flags := rfl

@[simp] theorem Reporter.bump_mask (r : Reporter) (i : Fin 40) : (r.bump i).mask = r.mask := rfl

/-- Counting an event moves its own counter alone, by one up to 65,535. -/
theorem Reporter.bump_counter (r : Reporter) (i j : Fin 40) :
    (r.bump i).counter j = if j = i ∧ r.counter i < 65535 then r.counter i + 1 else r.counter j := by
  have e : (r.bump i).counter j
      = (r.counters.set i (if r.counters[i] < 65535 then r.counters[i] + 1 else r.counters[i]))[j] := rfl
  rw [e]
  by_cases h : j = i
  · subst h
    simp only [Reporter.counter, Fin.getElem_fin, Vector.getElem_set_self]
    split <;> simp_all
  · have h' : (i : Nat) ≠ (j : Nat) := fun hh => h (Fin.ext hh.symm)
    simp [h, h', Reporter.counter]

/-- The flags after a cause is raised. -/
theorem Reporter.raise_flags (r : Reporter) (c : Cause) :
    (r.raise c).flags = if r.flag c then r.flags else r.flags ||| BitVec.twoPow 22 c.number := by
  simp only [Reporter.raise]
  split
  · rfl
  · split <;> rfl

@[simp] theorem Reporter.raise_mask (r : Reporter) (c : Cause) : (r.raise c).mask = r.mask := by
  simp only [Reporter.raise]; (repeat' split) <;> rfl

/-- A raised cause is set, and no other flag moves. -/
@[simp] theorem Reporter.raise_flag (r : Reporter) (c d : Cause) :
    (r.raise c).flag d = (r.flag d || decide (d = c)) := by
  have hb : ∀ n : Fin 22, (BitVec.twoPow 22 n.val).getLsbD d.number = decide (d.number = n) := by
    intro n
    rw [BitVec.getLsbD_twoPow]
    by_cases hn : d.number = n
    · have := n.isLt; simp [hn]
    · have : ¬ (n : Nat) = (d.number : Nat) := fun hh => hn (Fin.ext hh.symm)
      simp [hn, this]
  by_cases hc : d = c
  · subst hc
    by_cases hf : r.flag d = true
    · simp [Reporter.raise, hf]
    · rw [show (r.raise d).flag d = (r.raise d).flags.getLsbD d.number from rfl, Reporter.raise_flags, if_neg hf,
        BitVec.getLsbD_or, hb]
      simp
  · have hn : d.number ≠ c.number := fun h => hc (Cause.number_inj h)
    by_cases hf : r.flag c = true
    · simp [Reporter.raise, hf, hc]
    · rw [show (r.raise c).flag d = (r.raise c).flags.getLsbD d.number from rfl, Reporter.raise_flags, if_neg hf,
        BitVec.getLsbD_or, hb]
      simp [hn, hc, Reporter.flag]

/-- Counting keeps every counter within 65,535. -/
theorem Reporter.bump_bounded {r : Reporter} (h : ∀ j, r.counter j ≤ 65535) (i j : Fin 40) :
    (r.bump i).counter j ≤ 65535 := by
  rw [Reporter.bump_counter]
  split
  · omega
  · exact h j

/-- Raising keeps every counter within 65,535. -/
theorem Reporter.raise_bounded {r : Reporter} (h : ∀ j, r.counter j ≤ 65535) (c : Cause) (j : Fin 40) :
    (r.raise c).counter j ≤ 65535 := by
  simp only [Reporter.raise]
  split
  · exact h j
  · split
    · exact Reporter.bump_bounded (r := { r with flags := _ }) h _ j
    · exact h j

/-- Raising a cause whose flag is set changes nothing. -/
theorem Reporter.raise_of_set {r : Reporter} {c : Cause} (h : r.flag c = true) : r.raise c = r := by
  simp [Reporter.raise, h]

/-! ### The write-back queue (R18, R33, R34) -/

/-- The addresses in the queue after a word is handed to it. -/
theorem Interposer.enqueue_addrs (ip : Interposer) (origin : Role) (addr : Addr) (word : Word) :
    (ip.enqueue origin addr word).queue.map (·.addr)
      = if addr ∈ ip.queue.map (·.addr) then ip.queue.map (·.addr) else ip.queue.map (·.addr) ++ [addr] := by
  simp only [Interposer.enqueue]
  by_cases h : addr ∈ ip.queue.map (·.addr)
  · have h' : (ip.queue.any fun e => e.addr = addr) = true := by
      simpa [List.any_eq_true, List.mem_map] using h
    rw [if_pos h', if_pos h, List.map_map]
    refine List.map_congr_left fun e _ => ?_
    simp only [Function.comp_apply]
    split <;> rfl
  · have h' : ¬ (ip.queue.any fun e => e.addr = addr) = true := by
      simpa [List.any_eq_true, List.mem_map] using h
    rw [if_neg h', if_neg h]
    simp

/-- Handing a word keeps the queue free of two entries for one address. -/
theorem Interposer.enqueue_nodup {ip : Interposer} (h : (ip.queue.map (·.addr)).Nodup) (origin : Role) (addr : Addr)
    (word : Word) : ((ip.enqueue origin addr word).queue.map (·.addr)).Nodup := by
  rw [Interposer.enqueue_addrs]
  split
  · exact h
  · rename_i hn
    exact List.nodup_append.2 ⟨h, List.nodup_singleton _, fun a ha b hb => by
      rw [List.mem_singleton] at hb; subst hb; rintro rfl; exact hn ha⟩

/-- Handing a formed word keeps the queue distinct. -/
theorem hand_queueDistinct {s : State} (h : s.queueDistinct) (role : Role) (w : Word) :
    (hand role w s).queueDistinct := by
  simp only [State.queueDistinct, hand]
  split
  · exact Interposer.enqueue_nodup h _ _ _
  · exact h

/-! ### Clipping and the held traction (R4, R10) -/

/-- A clipped effort lies at most at the maximum. -/
theorem clip_le_max {l : Limits} (h : l.min ≤ l.max) (v : Nat) : clip l v ≤ l.max := by
  simp only [clip]
  (repeat' split) <;> omega

/-- A clipped effort lies at least at the minimum. -/
theorem min_le_clip {l : Limits} (h : l.min ≤ l.max) (v : Nat) : l.min ≤ clip l v := by
  simp only [clip]
  (repeat' split) <;> omega

/-- A factor of at most 1000 thousandths does not raise a value. -/
theorem scale_le {x c : Nat} (h : c ≤ 1000) : x * c / 1000 ≤ x :=
  Nat.div_le_of_le_mul (by rw [Nat.mul_comm]; exact Nat.mul_le_mul_right x h)

/-! ### Timers and marks (R2, 00_scope) -/

/-- An expiry of a timer that does not run has no effect. -/
@[simp] theorem onExpiry_none (f : State → State) (s : State) : onExpiry none f s = s := rfl

/-- An expiry of a running timer takes the time to its instant and acts. -/
@[simp] theorem onExpiry_some (d : Nat) (f : State → State) (s : State) :
    onExpiry (some d) f s = f { s with now := max s.now d } := rfl

/-- A mark is reached where it stands. -/
theorem reached_self (m : Odo) : reached m m = true := by simp [reached]

end Sys2Proof.Machine
end

