-- ==== Sys2Proof/Laws/Runs.lean ====
section
/-! SUPPORT. What the operations within an allocator run do, said once each: handing a word, giving a trigger to a sander,
the allocation walk, and the record that a run leaves. -/

namespace Sys2Proof.Machine

/-! ### Handing a word (R18) -/

@[simp] theorem hand_addrs (r : Role) (w : Word) (s : State) : (hand r w s).intent.addrs = s.intent.addrs := by
  unfold hand; simp only []; split <;> rfl

/-- A role with an address has the word that was handed last as its last handed word. -/
theorem hand_handed_self {s : State} {r : Role} (h : s.intent.addrs.get r ≠ none) (w : Word) :
    (hand r w s).intent.handed.get r = some w := by
  unfold hand
  simp only []
  split
  · simp
  · rename_i he
    unfold IntentTable.handAddr at he
    split at he
    · assumption
    · exact absurd he h

/-- The last handed word of every other role stands. -/
theorem hand_handed_ne {q r : Role} (h : q ≠ r) (w : Word) (s : State) :
    (hand r w s).intent.handed.get q = s.intent.handed.get q := by
  unfold hand; simp only []; split <;> simp [h]

/-- What is handed depends on the intent table and the interposer alone. -/
theorem hand_congr {s t : State} (hi : s.intent = t.intent) (hp : s.ip = t.ip) (r : Role) (w : Word) :
    (hand r w s).intent = (hand r w t).intent ∧ (hand r w s).ip = (hand r w t).ip := by
  unfold hand
  simp only [hi, hp, and_self]

/-- A word waits in the queue for an address. -/
def Interposer.queued (ip : Interposer) (a : Addr) (w : Word) : Prop := ∃ e ∈ ip.queue, e.addr = a ∧ e.word = w

/-- A word that joins or coalesces waits for its address (R34). -/
theorem enqueue_queued (ip : Interposer) (r : Role) (a : Addr) (w : Word) : (ip.enqueue r a w).queued a w := by
  unfold Interposer.enqueue Interposer.queued
  split
  · rename_i h
    obtain ⟨e, he, ha⟩ := List.any_eq_true.1 h
    have ha : e.addr = a := by simpa using ha
    exact ⟨{ e with word := w }, List.mem_map.2 ⟨e, he, by simp [ha]⟩, ha, rfl⟩
  · exact ⟨_, List.mem_append_right _ (List.mem_singleton.2 rfl), rfl, rfl⟩

/-- A word for another address leaves a waiting word as it is. -/
theorem enqueue_keeps_queued {ip : Interposer} {a b : Addr} {v : Word} (hab : b ≠ a) (h : ip.queued b v) (r : Role)
    (w : Word) : (ip.enqueue r a w).queued b v := by
  obtain ⟨e, he, hb, hv⟩ := h
  unfold Interposer.enqueue Interposer.queued
  split
  · exact ⟨e, List.mem_map.2 ⟨e, he, by simp [hb, hab]⟩, hb, hv⟩
  · exact ⟨e, List.mem_append_left _ he, hb, hv⟩

/-- A handed word that differs from the last one waits for its role's address. -/
theorem hand_queued {s : State} {r : Role} {a : Addr} {w : Word} (ha : s.intent.addrs.get r = some a)
    (hw : s.intent.handed.get r ≠ some w) : (hand r w s).ip.queued a w := by
  simp only [hand, IntentTable.handAddr, hw, if_false, ha]
  exact enqueue_queued _ _ _ _

/-- Handing a role's word leaves a word that waits for an address of another role. -/
theorem hand_keeps_queued {s : State} {r : Role} {b : Addr} {v : Word} (hr : s.intent.addrs.get r ≠ some b)
    (h : s.ip.queued b v) (w : Word) : (hand r w s).ip.queued b v := by
  unfold hand
  simp only []
  split
  · rename_i a ha
    unfold IntentTable.handAddr at ha
    split at ha
    · cases ha
    · exact enqueue_keeps_queued (fun hb => hr (by rw [hb]; exact ha)) h _ _
  · exact h

/-! ### Triggers at a sander (R144) -/

/-- Two states that the sanding controller cannot tell apart. -/
structure SandAlike (s t : State) : Prop where
  now : s.now = t.now
  cfg : s.cfg = t.cfg
  mode : s.intent.accepted = t.intent.accepted
  sand : s.sand = t.sand

/-- A trigger does the same in two states that are alike. -/
theorem offer_alike {s t : State} (h : SandAlike s t) (i : SanderId) (parts : List Trigger) :
    SandAlike (offer i parts s) (offer i parts t)
      ∧ (s.rep = t.rep → (offer i parts s).rep = (offer i parts t).rep) := by
  have hl : s.leads i = t.leads i := by simp [State.leads, h.cfg, h.mode]
  have hs : s.sanderState i = t.sanderState i := by simp [State.sanderState, h.cfg, h.sand]
  have hv : s.verdict i parts = t.verdict i parts := by simp only [State.verdict, hl, hs, h.sand]
  refine ⟨⟨by simpa using h.now, by simpa using h.cfg, by simpa using h.mode, ?_⟩, fun hr => ?_⟩
  · simp only [offer, hv, h.sand, State.timer, h.now, h.cfg]
  · simp only [offer, hv, hr]

/-- So does giving each sander its trigger. -/
theorem offerEach_alike {s t : State} (h : SandAlike s t) (parts : SanderId → List Trigger) :
    SandAlike (offerEach parts s) (offerEach parts t)
      ∧ (s.rep = t.rep → (offerEach parts s).rep = (offerEach parts t).rep) := by
  have h1 := offer_alike h .s1 (parts .s1)
  have h2 := offer_alike h1.1 .s2 (parts .s2)
  have h3 := offer_alike h2.1 .s3 (parts .s3)
  have h4 := offer_alike h3.1 .s4 (parts .s4)
  exact ⟨h4.1, fun hr => h4.2 (h3.2 (h2.2 (h1.2 hr)))⟩

/-- So does a release event. -/
theorem sandRelease_alike {s t : State} (h : SandAlike s t) :
    SandAlike (sandRelease s) (sandRelease t) ∧ (s.rep = t.rep → (sandRelease s).rep = (sandRelease t).rep) := by
  unfold sandRelease
  simp only [h.mode]
  exact offerEach_alike h _

/-- A trigger of no parts reaches no sander. -/
@[simp] theorem offer_nil (i : SanderId) (s : State) : offer i [] s = s := by
  have hv : s.verdict i [] = .notReached := by simp [State.verdict]
  have hg : s.sand.sanders.set i (s.sand.sanders.get i) = s.sand.sanders := by cases i <;> rfl
  have ht : (s.sand.trail || Verdict.notReached == Verdict.accepted) = s.sand.trail := by simp
  simp only [offer, hv, SanderRecord.after, hg, ht]

/-! ### The allocation walk (R128) -/

/-- The walk leaves alone what stands for a source outside it. -/
theorem walk_out (caps : PerSource Nat) (order : List Source) (w : Walk) {x : Source} (h : x ∉ order) :
    (order.foldl (Walk.take caps) w).before.get x = w.before.get x
      ∧ (order.foldl (Walk.take caps) w).alloc.get x = w.alloc.get x := by
  induction order generalizing w with
  | nil => exact ⟨rfl, rfl⟩
  | cons z rest ih =>
    simp only [List.mem_cons, not_or] at h
    rw [List.foldl_cons, (ih (w.take caps z) h.2).1, (ih (w.take caps z) h.2).2]
    simp [Walk.take, h.1]

/-- What remains before a source of the walk is what there was less the allocations of the sources before it. -/
theorem walk_before (caps : PerSource Nat) (order : List Source) (w : Walk) (hn : order.Nodup) {x : Source}
    (h : x ∈ order) :
    (order.foldl (Walk.take caps) w).before.get x
      = w.remaining - ((order.takeWhile (· != x)).map (order.foldl (Walk.take caps) w).alloc.get).sum := by
  induction order generalizing w with
  | nil => simp at h
  | cons z rest ih =>
    rw [List.nodup_cons] at hn
    have hz := walk_out caps rest (w.take caps z) hn.1
    rw [List.foldl_cons]
    by_cases hx : x = z
    · subst hx
      rw [hz.1]
      simp [Walk.take]
    · have hne : (z != x) = true := by simpa using fun e => hx e.symm
      rw [ih _ hn.2 (by simpa [hx] using h)]
      simp only [List.takeWhile, hne, List.map_cons, List.sum_cons, hz.2]
      simp only [Walk.take, PerSource.get_set_self]
      omega

/-! ### A run (R121) -/

/-- The record a run leaves. -/
theorem run_blend (evaluation returning : Bool) (s : State) :
    (run evaluation returning s).blend = s.runRecord evaluation returning := by
  unfold run
  simp only []
  split <;> simp [sandRelease, offerEach, handRun, rollbackClear, State.runRecord]

/-- Handing the words of a run depends on the table, the interposer, the part state and the record alone. -/
theorem handRun_congr (before : State) (w : Walk) {s t : State} (hi : s.intent = t.intent) (hp : s.ip = t.ip)
    (hc : s.ctl = t.ctl) (hb : s.blend = t.blend) :
    (handRun before w s).intent = (handRun before w t).intent ∧ (handRun before w s).ip = (handRun before w t).ip := by
  have step {a b : State} (h : a.intent = b.intent ∧ a.ip = b.ip) (r : Role) (v : Word) := hand_congr h.1 h.2 r v
  unfold handRun handBrake State.brakeTag
  simp only [hi, hc, hb]
  exact step (step (step (step (step (step ⟨hi, hp⟩ _ _) _ _) _ _) _ _) _ _) _ _

/-- The words a run hands are those of the record it leaves. -/
theorem run_handed (evaluation returning : Bool) (s : State) :
    let handed := handRun s (s.walk (s.demanded evaluation returning)) { s with blend := s.runRecord evaluation returning }
    (run evaluation returning s).intent = handed.intent ∧ (run evaluation returning s).ip = handed.ip := by
  unfold run
  simp only []
  split
  · simp only [sandRelease_intent, sandRelease_ip]
    apply handRun_congr <;> simp [rollbackClear, State.runRecord]
  · apply handRun_congr <;> simp [rollbackClear, State.runRecord]

/-- The sanding controller takes part in a run at the move from HOLDING to RELEASING alone (R134). -/
theorem run_sand (evaluation returning : Bool) (s : State) :
    (run evaluation returning s).sand
      = if s.blend.hill = .holding ∧ s.nextHill returning = .releasing then (sandRelease s).sand else s.sand := by
  have hm : (s.demanded evaluation returning).hill = s.nextHill returning := rfl
  unfold run
  simp only [hm]
  split
  · refine (sandRelease_alike ?_).1.sand
    constructor <;> simp [handRun, handBrake, rollbackClear]
  · simp [handRun, handBrake, rollbackClear]

end Sys2Proof.Machine
end

