-- ==== Sys2Proof/Laws/Sampling.lean ====
section
/-! SUPPORT. What the sampling of one microsecond does: the order of the axles, a sample of the chain input, the bits of a
character as sent and as received, and the decoding of a held transaction. -/

namespace Sys2Proof.Machine

/-! ### Inputs -/

/-- The six axles are sampled in the fixed order. -/
theorem sampleAxles_eq_foldl (s : State) :
    sampleAxles s = [Axle.a1, .a2, .t1, .t2, .b1, .b2].foldl (fun x i => sampleAxle i x) s := by
  simp only [sampleAxles, List.foldl_cons, List.foldl_nil]

/-- The samples of a millisecond, in the fixed order. -/
theorem sampleSlow_eq (s : State) :
    sampleSlow s
      = if s.now % 1000 = 0 then
          supplySample s.pins.supply ([SanderId.s1, .s2, .s3, .s4].foldl (fun x i => sampleLevel i x) s)
        else s := rfl

/-- Setting a level input to the level it has changes nothing. -/
theorem setLevel_self {i : SanderId} {b : Bool} {s : State} (h : s.pins.sandLevel.get i = b) : setLevel i b s = s := by
  subst h
  have : s.pins.sandLevel.set i (s.pins.sandLevel.get i) = s.pins.sandLevel := by cases i <;> rfl
  simp only [setLevel, this]

/-! ### Characters (R159) -/

/-- A bit of a received byte is 1 where the level read for it was idle. -/
theorem byteOfLevels_getLsbD (l : List Bool) {k : Nat} (hk : k < 8) :
    (byteOfLevels l).getLsbD k = (l[k]? == some false) := by
  simp only [byteOfLevels, BitVec.getLsbD_ofNat, hk, decide_true, Bool.true_and]
  clear hk
  induction l generalizing k with
  | nil => simp
  | cons a l ih =>
    cases k with
    | zero => simp only [List.foldr_cons]; cases a <;> simp [Nat.testBit_zero]
    | succ k =>
      simp only [List.foldr_cons, List.getElem?_cons_succ, ← @ih k, Nat.testBit_succ]
      congr 1; cases a <;> simp; omega

/-- A sample of the chain input, by what it brings to the bit receiver. -/
theorem sampleChain_of_sample {s : State} (h : s.receives = true) {r : BitReceiver} {e : LineEvent}
    (hs : s.chain.bits.sample s.pins.chainIn = (r, e)) :
    sampleChain s =
      match e with
      | .nothing => { s with chain := { s.chain with bits := r } }
      | .byte b => receiveByte b { s with chain := { s.chain with bits := r } }
      | .framing => framingError { s with chain := { s.chain with bits := r } } := by
  simp only [sampleChain, h, hs, if_true]; cases e <;> rfl

theorem characterBits_length (b : FrameByte) : (characterBits b).length = 10 := by simp [characterBits]

/-- The bits of a character: a start bit at the active level, each data bit active where it is 0, an idle stop bit. -/
theorem characterBits_getElem? (b : FrameByte) {k : Nat} (hk : k < 10) :
    (characterBits b)[k]? = some (decide (k = 0 ∨ 1 ≤ k ∧ k ≤ 8 ∧ b.getLsbD (k - 1) = false)) := by
  have : k = 0 ∨ k = 1 ∨ k = 2 ∨ k = 3 ∨ k = 4 ∨ k = 5 ∨ k = 6 ∨ k = 7 ∨ k = 8 ∨ k = 9 := by omega
  rcases this with rfl | rfl | rfl | rfl | rfl | rfl | rfl | rfl | rfl | rfl <;>
    simp [characterBits, List.range, List.range.loop]

/-- Ten bits a byte: the bit `k` of the byte at place `n` of a frame. -/
theorem flatMap_characterBits_getElem? (l : List FrameByte) {n k : Nat} {b : FrameByte} (h : l[n]? = some b)
    (hk : k < 10) : (l.flatMap characterBits)[10 * n + k]? = (characterBits b)[k]? := by
  induction l generalizing n with
  | nil => simp at h
  | cons a l ih =>
    simp only [List.flatMap_cons]
    cases n with
    | zero =>
      simp at h; subst h
      rw [List.getElem?_append_left (by rw [characterBits_length]; omega)]; congr 1; omega
    | succ n =>
      rw [List.getElem?_append_right (by rw [characterBits_length]; omega), characterBits_length,
        show 10 * (n + 1) + k - 10 = 10 * n + k by omega]
      exact ih (by simpa using h)

/-- The level of the output while bit `k` of byte `n` is sent. -/
theorem Sending.level_of_bit {x : Sending} {n k d : Nat} {b : FrameByte} (h : x.bytes[n]? = some b) (hk : k < 10)
    (hd : d < 4) :
    x.level (x.start + 40 * n + 4 * k + d) = decide (k = 0 ∨ 1 ≤ k ∧ k ≤ 8 ∧ b.getLsbD (k - 1) = false) := by
  rw [Sending.level, show (x.start + 40 * n + 4 * k + d - x.start) / 4 = 10 * n + k by omega,
    flatMap_characterBits_getElem? _ h hk, characterBits_getElem? b hk]
  rfl

/-! ### Held transactions (R25) -/

/-- A transaction held until the part is served is decoded. -/
theorem serveHeld_of_held {s : State} {h : HostSlot} (hh : s.ip.host = some h) (hw : h.wait = .untilServed) :
    serveHeld s = decodeTxn h.txn { s with ip := { s.ip with host := none } } := by
  simp only [serveHeld, hh]; rw [if_pos hw]

/-- With none held so, nothing is decoded. -/
theorem serveHeld_of_not_held {s : State} (hn : ∀ h, s.ip.host = some h → h.wait ≠ .untilServed) : serveHeld s = s := by
  cases hh : s.ip.host with
  | none => simp only [serveHeld, hh]
  | some h => simp only [serveHeld, hh]; rw [if_neg (hn h hh)]

end Sys2Proof.Machine
end

