-- ==== Sys2Proof/Laws/Waiting.lean ====
section
/-! SUPPORT. The waiting commands and the model's draw count are left alone by everything a command does; deliveries in
any order; completions. -/

namespace Sys2Proof.Machine

/-- Every order that a number names is a permutation of the list. -/
theorem permuted_perm {α : Type} (n : Nat) (l : List α) : (permuted n l).Perm l := by
  induction l generalizing n with
  | nil => exact List.Perm.refl _
  | cons x xs ih =>
    have h := ih (n / (xs.length + 1))
    have hl : n % (xs.length + 1) ≤ (permuted (n / (xs.length + 1)) xs).length := by
      rw [h.length_eq]; exact Nat.lt_succ_iff.1 (Nat.mod_lt _ (Nat.succ_pos _))
    simp only [permuted]
    exact (List.perm_insertIdx x _ hl).trans (h.cons x)

/-- Deliveries that each leave something alone leave it alone together. -/
theorem deliver_keeps {α : Type} (get : State → α) (l : List (State → State))
    (h : ∀ f ∈ l, ∀ x, get (f x) = get x) (s : State) : get (deliver l s) = get s := by
  induction l generalizing s with
  | nil => rfl
  | cons f fs ih =>
    have := ih (fun g hg => h g (List.mem_cons_of_mem _ hg)) (f s)
    simp only [deliver, List.foldl_cons] at this ⊢
    rw [this, h f (List.mem_cons_self ..)]

/-- Deliveries that each keep a property keep it together. -/
theorem deliver_induct (P : State → Prop) (l : List (State → State)) (h : ∀ f ∈ l, ∀ x, P x → P (f x)) (s : State)
    (hs : P s) : P (deliver l s) := by
  induction l generalizing s with
  | nil => exact hs
  | cons f fs ih =>
    simp only [deliver, List.foldl_cons]
    exact ih (fun g hg => h g (List.mem_cons_of_mem _ hg)) (f s) (h f (List.mem_cons_self ..) s hs)

/-- A property that one delivery brings about and every delivery keeps holds after all of them. -/
theorem deliver_reaches (P : State → Prop) (l : List (State → State)) (g : State → State) (hg : g ∈ l)
    (hb : ∀ x, P (g x)) (h : ∀ f ∈ l, ∀ x, P x → P (f x)) (s : State) : P (deliver l s) := by
  induction l generalizing s with
  | nil => exact absurd hg (List.not_mem_nil)
  | cons f fs ih =>
    simp only [deliver, List.foldl_cons]
    rcases List.mem_cons.1 hg with rfl | hg'
    · exact deliver_induct P fs (fun k hk => h k (List.mem_cons_of_mem _ hk)) _ (hb s)
    · exact ih hg' (fun k hk => h k (List.mem_cons_of_mem _ hk)) (f s)

@[simp] theorem fetchRead_pending (r : MemEnd) (s : State) : (fetchRead r s).pending = s.pending := by
  simp only [fetchRead]; (repeat' split) <;> simp
@[simp] theorem fetchRead_memory (r : MemEnd) (s : State) : (fetchRead r s).memory = s.memory := by
  simp only [fetchRead]; (repeat' split) <;> simp
@[simp] theorem fetchRead_draws (r : MemEnd) (s : State) : (fetchRead r s).draws = s.draws := by
  simp only [fetchRead]; (repeat' split) <;> simp
@[simp] theorem reportLost_pending (s : State) : (reportLost s).pending = s.pending := by
  simp only [reportLost]; (repeat' split) <;> simp
@[simp] theorem reportLost_memory (s : State) : (reportLost s).memory = s.memory := by
  simp only [reportLost]; (repeat' split) <;> simp
@[simp] theorem reportLost_draws (s : State) : (reportLost s).draws = s.draws := by
  simp only [reportLost]; (repeat' split) <;> simp
@[simp] theorem enterActive_pending (s : State) : (enterActive s).pending = s.pending := by simp [enterActive]
@[simp] theorem enterActive_memory (s : State) : (enterActive s).memory = s.memory := by simp [enterActive]
@[simp] theorem enterActive_draws (s : State) : (enterActive s).draws = s.draws := by simp [enterActive]
@[simp] theorem goActiveSetup_pending (s : State) : (goActiveSetup s).pending = s.pending := by
  simp only [goActiveSetup]; (repeat' split) <;> simp
@[simp] theorem goActiveSetup_memory (s : State) : (goActiveSetup s).memory = s.memory := by
  simp only [goActiveSetup]; (repeat' split) <;> simp
@[simp] theorem goActiveSetup_draws (s : State) : (goActiveSetup s).draws = s.draws := by
  simp only [goActiveSetup]; (repeat' split) <;> simp
@[simp] theorem goActiveFallback_pending (s : State) : (goActiveFallback s).pending = s.pending := by
  simp only [goActiveFallback]; (repeat' split) <;> simp
@[simp] theorem goActiveFallback_memory (s : State) : (goActiveFallback s).memory = s.memory := by
  simp only [goActiveFallback]; (repeat' split) <;> simp
@[simp] theorem goActiveFallback_draws (s : State) : (goActiveFallback s).draws = s.draws := by
  simp only [goActiveFallback]; (repeat' split) <;> simp
@[simp] theorem takeGoActive_pending (s : State) : (takeGoActive s).pending = s.pending := by
  simp only [takeGoActive]; (repeat' split) <;> simp
@[simp] theorem takeGoActive_memory (s : State) : (takeGoActive s).memory = s.memory := by
  simp only [takeGoActive]; (repeat' split) <;> simp
@[simp] theorem takeGoActive_draws (s : State) : (takeGoActive s).draws = s.draws := by
  simp only [takeGoActive]; (repeat' split) <;> simp
@[simp] theorem enterSetupByCommand_pending (s : State) : (enterSetupByCommand s).pending = s.pending := by simp [enterSetupByCommand]
@[simp] theorem enterSetupByCommand_memory (s : State) : (enterSetupByCommand s).memory = s.memory := by simp [enterSetupByCommand]
@[simp] theorem enterSetupByCommand_draws (s : State) : (enterSetupByCommand s).draws = s.draws := by simp [enterSetupByCommand]
@[simp] theorem takeGoSetup_pending (s : State) : (takeGoSetup s).pending = s.pending := by
  simp only [takeGoSetup]; (repeat' split) <;> simp
@[simp] theorem takeGoSetup_memory (s : State) : (takeGoSetup s).memory = s.memory := by
  simp only [takeGoSetup]; (repeat' split) <;> simp
@[simp] theorem takeGoSetup_draws (s : State) : (takeGoSetup s).draws = s.draws := by
  simp only [takeGoSetup]; (repeat' split) <;> simp
@[simp] theorem takeRestart_pending (s : State) : (takeRestart s).pending = s.pending := by simp [takeRestart]
@[simp] theorem takeRestart_memory (s : State) : (takeRestart s).memory = s.memory := by simp [takeRestart]
@[simp] theorem takeRestart_draws (s : State) : (takeRestart s).draws = s.draws := by simp [takeRestart]
@[simp] theorem enterStandby_pending (p : Previous) (s : State) : (enterStandby p s).pending = s.pending := by simp [enterStandby]
@[simp] theorem enterStandby_memory (p : Previous) (s : State) : (enterStandby p s).memory = s.memory := by simp [enterStandby]
@[simp] theorem enterStandby_draws (p : Previous) (s : State) : (enterStandby p s).draws = s.draws := by simp [enterStandby]
@[simp] theorem takeStandby_pending (s : State) : (takeStandby s).pending = s.pending := by
  simp only [takeStandby]; (repeat' split) <;> simp
@[simp] theorem takeStandby_memory (s : State) : (takeStandby s).memory = s.memory := by
  simp only [takeStandby]; (repeat' split) <;> simp
@[simp] theorem takeStandby_draws (s : State) : (takeStandby s).draws = s.draws := by
  simp only [takeStandby]; (repeat' split) <;> simp
@[simp] theorem takeCommand_pending (w : Word) (s : State) : (takeCommand w s).pending = s.pending := by
  simp only [takeCommand]; (repeat' split) <;> simp
@[simp] theorem takeCommand_memory (w : Word) (s : State) : (takeCommand w s).memory = s.memory := by
  simp only [takeCommand]; (repeat' split) <;> simp
@[simp] theorem takeCommand_draws (w : Word) (s : State) : (takeCommand w s).draws = s.draws := by
  simp only [takeCommand]; (repeat' split) <;> simp
@[simp] theorem wakeServing_pending (s : State) : (wakeServing s).pending = s.pending := by
  simp only [wakeServing]; (repeat' split) <;> simp
@[simp] theorem wakeServing_memory (s : State) : (wakeServing s).memory = s.memory := by
  simp only [wakeServing]; (repeat' split) <;> simp
@[simp] theorem wakeServing_draws (s : State) : (wakeServing s).draws = s.draws := by
  simp only [wakeServing]; (repeat' split) <;> simp
@[simp] theorem wakeSetup_pending (s : State) : (wakeSetup s).pending = s.pending := by simp [wakeSetup]
@[simp] theorem wakeSetup_memory (s : State) : (wakeSetup s).memory = s.memory := by simp [wakeSetup]
@[simp] theorem wakeSetup_draws (s : State) : (wakeSetup s).draws = s.draws := by simp [wakeSetup]
@[simp] theorem endWaking_pending (s : State) : (endWaking s).pending = s.pending := by
  simp only [endWaking]; (repeat' split) <;> simp
@[simp] theorem endWaking_memory (s : State) : (endWaking s).memory = s.memory := by
  simp only [endWaking]; (repeat' split) <;> simp
@[simp] theorem endWaking_draws (s : State) : (endWaking s).draws = s.draws := by
  simp only [endWaking]; (repeat' split) <;> simp
@[simp] theorem resetPart_pending (x : RestartCause) (s : State) : (resetPart x s).pending = s.pending := by simp [resetPart]
@[simp] theorem resetPart_memory (x : RestartCause) (s : State) :
    (resetPart x s).memory = s.memory.dropped s.ip.port := rfl
@[simp] theorem resetPart_draws (x : RestartCause) (s : State) : (resetPart x s).draws = s.draws := by simp [resetPart]
@[simp] theorem startUp_pending (b : BitVec 2) (s : State) : (startUp b s).pending = s.pending := by
  simp only [startUp]; (repeat' split) <;> simp
@[simp] theorem startUp_memory (b : BitVec 2) (s : State) : (startUp b s).memory = s.memory := by
  simp only [startUp]; (repeat' split) <;> simp
@[simp] theorem startUp_draws (b : BitVec 2) (s : State) : (startUp b s).draws = s.draws := by
  simp only [startUp]; (repeat' split) <;> simp
@[simp] theorem enterSetup_pending (s : State) : (enterSetup s).pending = s.pending := by simp [enterSetup]
@[simp] theorem enterSetup_memory (s : State) : (enterSetup s).memory = s.memory := by simp [enterSetup]
@[simp] theorem enterSetup_draws (s : State) : (enterSetup s).draws = s.draws := by simp [enterSetup]
@[simp] theorem publishEnd_pending (b : Bool) (s : State) : (publishEnd b s).pending = s.pending := by
  simp only [publishEnd]; (repeat' split) <;> simp
@[simp] theorem publishEnd_memory (b : Bool) (s : State) : (publishEnd b s).memory = s.memory := by
  simp only [publishEnd]; (repeat' split) <;> simp
@[simp] theorem publishEnd_draws (b : Bool) (s : State) : (publishEnd b s).draws = s.draws := by
  simp only [publishEnd]; (repeat' split) <;> simp
@[simp] theorem effortWrite_pending (r : EffortRole) (w : Word) (s : State) : (effortWrite r w s).pending = s.pending := by
  cases r <;> simp only [effortWrite] <;> simp
@[simp] theorem effortWrite_memory (r : EffortRole) (w : Word) (s : State) : (effortWrite r w s).memory = s.memory := by
  cases r <;> simp only [effortWrite] <;> simp
@[simp] theorem effortWrite_draws (r : EffortRole) (w : Word) (s : State) : (effortWrite r w s).draws = s.draws := by
  cases r <;> simp only [effortWrite] <;> simp
@[simp] theorem modeTaken_pending (o : Fin 120) (d : Direction) (s : State) : (modeTaken o d s).pending = s.pending := by
  exact deliver_keeps State.pending _ (fun g hg x => by
    have := (permuted_perm o.val (modeDeliveries d)).mem_iff.1 hg
    simp only [modeDeliveries, List.mem_cons, List.not_mem_nil, or_false] at this
    rcases this with rfl | rfl | rfl | rfl | rfl <;> simp) s
@[simp] theorem modeTaken_memory (o : Fin 120) (d : Direction) (s : State) : (modeTaken o d s).memory = s.memory := by
  exact deliver_keeps State.memory _ (fun g hg x => by
    have := (permuted_perm o.val (modeDeliveries d)).mem_iff.1 hg
    simp only [modeDeliveries, List.mem_cons, List.not_mem_nil, or_false] at this
    rcases this with rfl | rfl | rfl | rfl | rfl <;> simp) s
@[simp] theorem modeTaken_draws (o : Fin 120) (d : Direction) (s : State) : (modeTaken o d s).draws = s.draws := by
  exact deliver_keeps State.draws _ (fun g hg x => by
    have := (permuted_perm o.val (modeDeliveries d)).mem_iff.1 hg
    simp only [modeDeliveries, List.mem_cons, List.not_mem_nil, or_false] at this
    rcases this with rfl | rfl | rfl | rfl | rfl <;> simp) s
@[simp] theorem modeWrite_pending (w : Word) (o : Fin 120) (s : State) : (modeWrite w o s).pending = s.pending := by
  simp only [modeWrite]; (repeat' split) <;> simp
@[simp] theorem modeWrite_memory (w : Word) (o : Fin 120) (s : State) : (modeWrite w o s).memory = s.memory := by
  simp only [modeWrite]; (repeat' split) <;> simp
@[simp] theorem modeWrite_draws (w : Word) (o : Fin 120) (s : State) : (modeWrite w o s).draws = s.draws := by
  simp only [modeWrite]; (repeat' split) <;> simp
@[simp] theorem intentWrite_pending (c : BitVec 4) (t : HostTxn) (s : State) : (intentWrite c t s).pending = s.pending := by
  simp only [intentWrite]; (repeat' split) <;> simp
@[simp] theorem intentWrite_memory (c : BitVec 4) (t : HostTxn) (s : State) : (intentWrite c t s).memory = s.memory := by
  simp only [intentWrite]; (repeat' split) <;> simp
@[simp] theorem intentWrite_draws (c : BitVec 4) (t : HostTxn) (s : State) : (intentWrite c t s).draws = s.draws := by
  simp only [intentWrite]; (repeat' split) <;> simp
@[simp] theorem pageWrite_pending (o : BitVec 8) (t : HostTxn) (s : State) : (pageWrite o t s).pending = s.pending := by
  simp only [pageWrite]; (repeat' split) <;> simp
@[simp] theorem pageWrite_memory (o : BitVec 8) (t : HostTxn) (s : State) : (pageWrite o t s).memory = s.memory := by
  simp only [pageWrite]; (repeat' split) <;> simp
@[simp] theorem pageWrite_draws (o : BitVec 8) (t : HostTxn) (s : State) : (pageWrite o t s).draws = s.draws := by
  simp only [pageWrite]; (repeat' split) <;> simp
@[simp] theorem windowWrite_pending (e : WindowEntry) (t : HostTxn) (s : State) : (windowWrite e t s).pending = s.pending := by
  simp only [windowWrite]; (repeat' split) <;> simp
@[simp] theorem windowWrite_memory (e : WindowEntry) (t : HostTxn) (s : State) : (windowWrite e t s).memory = s.memory := by
  simp only [windowWrite]; (repeat' split) <;> simp
@[simp] theorem windowWrite_draws (e : WindowEntry) (t : HostTxn) (s : State) : (windowWrite e t s).draws = s.draws := by
  simp only [windowWrite]; (repeat' split) <;> simp
@[simp] theorem decodeTxn_pending (t : HostTxn) (s : State) : (decodeTxn t s).pending = s.pending := by
  simp only [decodeTxn]; (repeat' split) <;> simp
@[simp] theorem decodeTxn_memory (t : HostTxn) (s : State) : (decodeTxn t s).memory = s.memory := by
  simp only [decodeTxn]; (repeat' split) <;> simp
@[simp] theorem decodeTxn_draws (t : HostTxn) (s : State) : (decodeTxn t s).draws = s.draws := by
  simp only [decodeTxn]; (repeat' split) <;> simp
@[simp] theorem hostArrive_pending (t : HostTxn) (s : State) : (hostArrive t s).pending = s.pending := by
  simp only [hostArrive]; (repeat' split) <;> simp
@[simp] theorem hostArrive_memory (t : HostTxn) (s : State) : (hostArrive t s).memory = s.memory := by
  simp only [hostArrive]; (repeat' split) <;> simp
@[simp] theorem hostArrive_draws (t : HostTxn) (s : State) : (hostArrive t s).draws = s.draws := by
  simp only [hostArrive]; (repeat' split) <;> simp
@[simp] theorem serveHeld_pending (s : State) : (serveHeld s).pending = s.pending := by
  simp only [serveHeld]; (repeat' split) <;> simp
@[simp] theorem serveHeld_memory (s : State) : (serveHeld s).memory = s.memory := by
  simp only [serveHeld]; (repeat' split) <;> simp
@[simp] theorem serveHeld_draws (s : State) : (serveHeld s).draws = s.draws := by
  simp only [serveHeld]; (repeat' split) <;> simp
@[simp] theorem takeStructure_pending (n : Nat) (w : Word) (s : State) : (takeStructure n w s).pending = s.pending := by
  simp only [takeStructure]; (repeat' split) <;> simp
@[simp] theorem takeStructure_memory (n : Nat) (w : Word) (s : State) : (takeStructure n w s).memory = s.memory := by
  simp only [takeStructure]; (repeat' split) <;> simp
@[simp] theorem takeStructure_draws (n : Nat) (w : Word) (s : State) : (takeStructure n w s).draws = s.draws := by
  simp only [takeStructure]; (repeat' split) <;> simp
@[simp] theorem limitsChanged_pending (r : EffortRole) (s : State) : (limitsChanged r s).pending = s.pending := by
  cases r <;> simp only [limitsChanged] <;> (repeat' split) <;> simp
@[simp] theorem limitsChanged_memory (r : EffortRole) (s : State) : (limitsChanged r s).memory = s.memory := by
  cases r <;> simp only [limitsChanged] <;> (repeat' split) <;> simp
@[simp] theorem limitsChanged_draws (r : EffortRole) (s : State) : (limitsChanged r s).draws = s.draws := by
  cases r <;> simp only [limitsChanged] <;> (repeat' split) <;> simp
@[simp] theorem tuningActs_pending (n : Nat) (o : TuningConfig) (s : State) : (tuningActs n o s).pending = s.pending := by
  simp only [tuningActs]; (repeat' split) <;> simp
@[simp] theorem tuningActs_memory (n : Nat) (o : TuningConfig) (s : State) : (tuningActs n o s).memory = s.memory := by
  simp only [tuningActs]; (repeat' split) <;> simp
@[simp] theorem tuningActs_draws (n : Nat) (o : TuningConfig) (s : State) : (tuningActs n o s).draws = s.draws := by
  simp only [tuningActs]; (repeat' split) <;> simp
@[simp] theorem takeTuning_pending (n : Nat) (w : Word) (s : State) : (takeTuning n w s).pending = s.pending := by simp [takeTuning]
@[simp] theorem takeTuning_memory (n : Nat) (w : Word) (s : State) : (takeTuning n w s).memory = s.memory := by simp [takeTuning]
@[simp] theorem takeTuning_draws (n : Nat) (w : Word) (s : State) : (takeTuning n w s).draws = s.draws := by simp [takeTuning]
@[simp] theorem causeClear_pending (w : Word) (s : State) : (causeClear w s).pending = s.pending := by simp [causeClear]
@[simp] theorem causeClear_memory (w : Word) (s : State) : (causeClear w s).memory = s.memory := by simp [causeClear]
@[simp] theorem causeClear_draws (w : Word) (s : State) : (causeClear w s).draws = s.draws := by simp [causeClear]
@[simp] theorem setMask_pending (w : Word) (s : State) : (setMask w s).pending = s.pending := by simp [setMask]
@[simp] theorem setMask_memory (w : Word) (s : State) : (setMask w s).memory = s.memory := by simp [setMask]
@[simp] theorem setMask_draws (w : Word) (s : State) : (setMask w s).draws = s.draws := by simp [setMask]
@[simp] theorem takePage_pending (o : BitVec 8) (w : Word) (s : State) : (takePage o w s).pending = s.pending := by
  simp only [takePage]; (repeat' split) <;> simp
@[simp] theorem takePage_memory (o : BitVec 8) (w : Word) (s : State) : (takePage o w s).memory = s.memory := by
  simp only [takePage]; (repeat' split) <;> simp
@[simp] theorem takePage_draws (o : BitVec 8) (w : Word) (s : State) : (takePage o w s).draws = s.draws := by
  simp only [takePage]; (repeat' split) <;> simp
@[simp] theorem passEnd_pending (r : MemEnd) (s : State) : (passEnd r s).pending = s.pending := by
  simp only [passEnd]; (repeat' split) <;> simp
@[simp] theorem passEnd_memory (r : MemEnd) (s : State) : (passEnd r s).memory = s.memory := by
  simp only [passEnd]; (repeat' split) <;> simp
@[simp] theorem passEnd_draws (r : MemEnd) (s : State) : (passEnd r s).draws = s.draws := by
  simp only [passEnd]; (repeat' split) <;> simp
@[simp] theorem writebackDone_pending (s : State) : (writebackDone s).pending = s.pending := by simp [writebackDone]
@[simp] theorem writebackDone_memory (s : State) : (writebackDone s).memory = s.memory := by simp [writebackDone]
@[simp] theorem writebackDone_draws (s : State) : (writebackDone s).draws = s.draws := by simp [writebackDone]
@[simp] theorem abandonEntry_pending (e : QueueEntry) (s : State) : (abandonEntry e s).pending = s.pending := by simp [abandonEntry]
@[simp] theorem abandonEntry_memory (e : QueueEntry) (s : State) : (abandonEntry e s).memory = s.memory := by simp [abandonEntry]
@[simp] theorem abandonEntry_draws (e : QueueEntry) (s : State) : (abandonEntry e s).draws = s.draws := by simp [abandonEntry]
@[simp] theorem returnEntry_pending (e : QueueEntry) (s : State) : (returnEntry e s).pending = s.pending := by simp [returnEntry]
@[simp] theorem returnEntry_memory (e : QueueEntry) (s : State) : (returnEntry e s).memory = s.memory := by simp [returnEntry]
@[simp] theorem returnEntry_draws (e : QueueEntry) (s : State) : (returnEntry e s).draws = s.draws := by simp [returnEntry]
@[simp] theorem writebackFailed_pending (s : State) : (writebackFailed s).pending = s.pending := by
  simp only [writebackFailed]; (repeat' split) <;> simp
@[simp] theorem writebackFailed_memory (s : State) : (writebackFailed s).memory = s.memory := by
  simp only [writebackFailed]; (repeat' split) <;> simp
@[simp] theorem writebackFailed_draws (s : State) : (writebackFailed s).draws = s.draws := by
  simp only [writebackFailed]; (repeat' split) <;> simp
@[simp] theorem reportWordEnd_pending (b : Bool) (s : State) : (reportWordEnd b s).pending = s.pending := by simp [reportWordEnd]
@[simp] theorem reportWordEnd_memory (b : Bool) (s : State) : (reportWordEnd b s).memory = s.memory := by simp [reportWordEnd]
@[simp] theorem reportWordEnd_draws (b : Bool) (s : State) : (reportWordEnd b s).draws = s.draws := by simp [reportWordEnd]
@[simp] theorem publishWordEnd_pending (b : Bool) (s : State) : (publishWordEnd b s).pending = s.pending := by
  simp only [publishWordEnd]; (repeat' split) <;> simp
@[simp] theorem publishWordEnd_memory (b : Bool) (s : State) : (publishWordEnd b s).memory = s.memory := by
  simp only [publishWordEnd]; (repeat' split) <;> simp
@[simp] theorem publishWordEnd_draws (b : Bool) (s : State) : (publishWordEnd b s).draws = s.draws := by
  simp only [publishWordEnd]; (repeat' split) <;> simp
@[simp] theorem portTimeout_pending (s : State) : (portTimeout s).pending = s.pending := by
  simp only [portTimeout]; (repeat' split) <;> simp
@[simp] theorem portTimeout_draws (s : State) : (portTimeout s).draws = s.draws := by
  simp only [portTimeout]; (repeat' split) <;> simp
@[simp] theorem refreshEnd_pending (c : IntentRole) (s : State) : (refreshEnd c s).pending = s.pending := by
  rcases c with (_ | _ | _) | _ <;> simp [refreshEnd]
@[simp] theorem refreshEnd_memory (c : IntentRole) (s : State) : (refreshEnd c s).memory = s.memory := by
  rcases c with (_ | _ | _) | _ <;> simp [refreshEnd]
@[simp] theorem refreshEnd_draws (c : IntentRole) (s : State) : (refreshEnd c s).draws = s.draws := by
  rcases c with (_ | _ | _) | _ <;> simp [refreshEnd]
@[simp] theorem holdEnd_pending (s : State) : (holdEnd s).pending = s.pending := by simp [holdEnd]
@[simp] theorem holdEnd_memory (s : State) : (holdEnd s).memory = s.memory := by simp [holdEnd]
@[simp] theorem holdEnd_draws (s : State) : (holdEnd s).draws = s.draws := by simp [holdEnd]
@[simp] theorem completeEvaluation_pending (o : Fin 24) (s : State) : (completeEvaluation o s).pending = s.pending := by
  simp only [completeEvaluation]; (repeat' split)
  · rfl
  · rw [deliver_keeps State.pending _ (fun g hg x => by
      have := (permuted_perm o.val (completionDeliveries _)).mem_iff.1 hg
      simp only [completionDeliveries, List.mem_cons, List.not_mem_nil, or_false] at this
      rcases this with rfl | rfl | rfl | rfl <;> simp)]; simp
  · simp
@[simp] theorem completeEvaluation_memory (o : Fin 24) (s : State) : (completeEvaluation o s).memory = s.memory := by
  simp only [completeEvaluation]; (repeat' split)
  · rfl
  · rw [deliver_keeps State.memory _ (fun g hg x => by
      have := (permuted_perm o.val (completionDeliveries _)).mem_iff.1 hg
      simp only [completionDeliveries, List.mem_cons, List.not_mem_nil, or_false] at this
      rcases this with rfl | rfl | rfl | rfl <;> simp)]; simp
  · simp
@[simp] theorem completeEvaluation_draws (o : Fin 24) (s : State) : (completeEvaluation o s).draws = s.draws := by
  simp only [completeEvaluation]; (repeat' split)
  · rfl
  · rw [deliver_keeps State.draws _ (fun g hg x => by
      have := (permuted_perm o.val (completionDeliveries _)).mem_iff.1 hg
      simp only [completionDeliveries, List.mem_cons, List.not_mem_nil, or_false] at this
      rcases this with rfl | rfl | rfl | rfl <;> simp)]; simp
  · simp
@[simp] theorem settleEnd_pending (s : State) : (settleEnd s).pending = s.pending := by simp [settleEnd]
@[simp] theorem settleEnd_memory (s : State) : (settleEnd s).memory = s.memory := by simp [settleEnd]
@[simp] theorem settleEnd_draws (s : State) : (settleEnd s).draws = s.draws := by simp [settleEnd]
@[simp] theorem edge_pending (i : Axle) (h : Phase) (b : Bool) (n : Nat) (s : State) : (edge i h b n s).pending = s.pending := by
  simp only [edge]; (repeat' split) <;> simp
@[simp] theorem edge_memory (i : Axle) (h : Phase) (b : Bool) (n : Nat) (s : State) : (edge i h b n s).memory = s.memory := by
  simp only [edge]; (repeat' split) <;> simp
@[simp] theorem edge_draws (i : Axle) (h : Phase) (b : Bool) (n : Nat) (s : State) : (edge i h b n s).draws = s.draws := by
  simp only [edge]; (repeat' split) <;> simp
@[simp] theorem idleLimit_pending (s : State) : (idleLimit s).pending = s.pending := by
  simp only [idleLimit, onExpiry]; split <;> simp
@[simp] theorem idleLimit_memory (s : State) : (idleLimit s).memory = s.memory := by
  simp only [idleLimit, onExpiry]; split <;> simp
@[simp] theorem idleLimit_draws (s : State) : (idleLimit s).draws = s.draws := by
  simp only [idleLimit, onExpiry]; split <;> simp
/-! A completion changes what its effect changes, and the record of the memory's answers. -/

/-- What a completion leaves alone where its effect does, the record of the memory's answers apart. -/
theorem completion_keeps {α : Type} (get : State → α) (c : Claimant) (ours : Bool) (f : State → State)
    (hf : ∀ x, get (f x) = get x) (hm : ∀ (x : State) (a : MemoryAnswers), get { x with memory := a } = get x) (s : State) :
    get (completion c ours f s) = get s := by
  simp only [completion, State.answerDrawn, State.lateAnswer]; (repeat' split) <;> simp only [hf, hm]

/-- Where no late completion is owed, a completion acts if its transaction is in progress and is ignored if not. -/
theorem completion_of_not_owed {c : Claimant} {s : State} (h : s.owed c = false) (ours : Bool) (f : State → State) :
    completion c ours f s = if ours then f s else s := by
  simp [completion, h]

/-- A completion acts, with or without a free value drawn, or it is ignored. -/
theorem completion_cases (c : Claimant) (ours : Bool) (f : State → State) (s : State) :
    (ours = true ∧ (completion c ours f s = f s ∨ completion c ours f s = f s.answerDrawn))
      ∨ ∃ a, completion c ours f s = { s with memory := a } := by
  simp only [completion, Bool.and_eq_true]
  (repeat' split)
  · rename_i h; exact .inl ⟨h.1, .inr rfl⟩
  · exact .inr ⟨_, rfl⟩
  · exact .inr ⟨_, rfl⟩
  · rename_i h; exact .inl ⟨h, .inl rfl⟩
  · exact .inr ⟨_, rfl⟩

@[simp] theorem completion_pending (c : Claimant) (ours : Bool) (f : State → State)
    (hf : ∀ x, (f x).pending = x.pending) (s : State) : (completion c ours f s).pending = s.pending :=
  completion_keeps State.pending c ours f hf (fun _ _ => rfl) s
@[simp] theorem completion_draws (c : Claimant) (ours : Bool) (f : State → State) (hf : ∀ x, (f x).draws = x.draws)
    (s : State) : (completion c ours f s).draws = s.draws :=
  completion_keeps State.draws c ours f hf (fun _ _ => rfl) s
@[simp] theorem takenOnPort_pending (p : Nat → Word → Bool) (s : State) : (takenOnPort p s).pending = s.pending := by
  simp [takenOnPort]
@[simp] theorem takenOnPort_draws (p : Nat → Word → Bool) (s : State) : (takenOnPort p s).draws = s.draws := by
  simp [takenOnPort]

end Sys2Proof.Machine
end

