-- ==== Sys2Proof/Tests/Slice0.lean ====
section
/-! SUPPORT. The package's own tests: ill-formed commands that the checks refuse, worked examples of the manual, one step
at a time, and a witness for the hypotheses of every statement that has any. -/

namespace Sys2Proof.Tests

open Sys2Proof Sys2Proof.Machine

/-! ### Small states -/

/-- Twelve windows for the codes 1 to 12, one word each (the REPORT window 66, to reach past its records), and a GUARD
window. -/
def windows : Vector WindowEntry 16 :=
  #v[⟨0x100, 1, 1⟩, ⟨0x200, 1, 2⟩, ⟨0x300, 1, 3⟩, ⟨0x400, 1, 4⟩, ⟨0x500, 1, 5⟩, ⟨0x600, 1, 6⟩, ⟨0x700, 1, 7⟩,
    ⟨0x800, 1, 8⟩, ⟨0x900, 1, 9⟩, ⟨0xA00, 1, 10⟩, ⟨0xB00, 1, 11⟩, ⟨0xC00, 66, 12⟩, ⟨0x1000, 16, 13⟩,
    WindowEntry.unused, WindowEntry.unused, WindowEntry.unused]

/-- A part state with the windows configured and copied, its other fields as after reset. -/
def part (p : PartState) : State :=
  { State.reset with
    ctl := { Controller.reset with part := p }
    cfg := { State.reset.cfg with str := { StructureConfig.default with windows := windows } }
    ip := { Interposer.reset with copy := windows }
    intent :=
      { IntentTable.reset with
        addrs :=
          { intent := ⟨some 0x100, some 0x200, some 0x300⟩, mode := some 0x400
            output := ⟨some 0x500, some 0x600, some 0x700, some 0x800, some 0x900⟩ } } }

/-- A transaction of a claimant on the port, with none before it that timed out. -/
def withPort (c : Claimant) (s : State) : State :=
  { s with
    memory := { unanswered := [], drawn := 0 }
    ip :=
      { s.ip with
        port := some
          { claimant := c, addr := 0x100, write := true, lanes := 0xF, data := 0, deadline := s.now + 20 } } }

/-- A host transaction. -/
def txn (addr : Addr) (write : Bool) : HostTxn := { addr := addr, write := write, lanes := 0xF, data := 0, order := 0 }

/-- A host transaction that waits. -/
def withHost (w : HostWait) (page : Option (BitVec 8)) (data : Word) (s : State) : State :=
  { s with
    ip :=
      { s.ip with
        host := some
          { txn := { addr := 0x3FF00, write := true, lanes := 0xF, data := data, order := 0 }, wait := w, page := page } } }

/-- A page write of `w` at `off` on the port, judged to be taken. -/
def standing (off : BitVec 8) (w : Word) (s : State) : State :=
  withPort .passThrough (withHost .onPort (some off) w s)

/-- The page write that `standing` puts on the port stands there. -/
theorem standing_stands (off : BitVec 8) (w : Word) (s : State) : (standing off w s).pageStands off w :=
  ⟨rfl, ⟨{ addr := 0x3FF00, write := true, lanes := 0xF, data := w, order := 0 }, .onPort, some off⟩, rfl, rfl, rfl⟩

/-- A write-back entry. -/
def entry (attempts : Nat) : QueueEntry :=
  { id := 0, addr := 0x100, word := 0x20020000, origin := .intent .tractionA, attempts := attempts }

/-- A write-back queue of one entry. -/
def queued (e : QueueEntry) (s : State) : State := { s with ip := { s.ip with queue := [e] } }

/-- A write-back in flight, on the port. -/
def flying (f : InFlight) (s : State) : State := withPort .queue { s with ip := { s.ip with inflight := some f } }

/-- A mode record with a regime and a direction. -/
def mode (r : Regime) (d : Direction) : ModeRecord := { ModeRecord.default with regime := r, direction := d }

/-- The accepted MODE replaced. -/
def under (m : ModeRecord) (s : State) : State := { s with intent := { s.intent with accepted := m } }

/-- What a command gives, or the state itself where it stops. -/
def after (c : Instr) (s : State) : State :=
  match exec c s with
  | .next t => t
  | .fault _ => s
  | .refused _ => s

/-! ### Ill-formed commands (WellFormed) -/

theorem test_partial_write_with_all_lanes_is_ill_formed :
    (Instr.partialWriteRefused 0x100 0 0xF).wellFormed = false
      ∧ (Instr.partialWriteRefused 0x100 0 0x7).wellFormed = true := by
  decide

theorem test_read_with_data_is_ill_formed :
    (Instr.hostTransactionForwarded { txn 0x100 false with data := 1 }).wellFormed = false
      ∧ (Instr.hostTransactionHeld { txn 0x100 false with data := 1 }).wellFormed = false
      ∧ (Instr.busWake { txn 0x100 false with data := 1 }).wellFormed = false
      ∧ (Instr.busWake (txn 0x100 false)).wellFormed = true := by
  decide

/-! ### No row has bits; the core -/

theorem test_no_word_spells_a_command : decodeTableWord 0 0 = none ∧ decodeTableWord 32 0xC0 = none := by decide

theorem test_fetch_word_leaves_the_state : State.reset.withFetchWord 32 7 = State.reset := rfl

theorem test_core : core.reset = State.reset := rfl

/-! ### Worked examples of the manual -/

theorem test_traction_word : setpointWord 3025 .corrected = 0x50020BD1 := by decide

theorem test_void_word : voidWord = 0x5005FFFF := by decide

/-- The frame of a LEAD in TRACTION, FORWARD, with a valid reference of 0 (12, chain frame). -/
theorem test_lead_frame :
    Frame.encode 0
        { regime := .traction, direction := .forward, valid := true, reference := 0, notice := none, sand := false }
      = [0xA5, 0x00, 0x29, 0x00, 0x00, 0x00, 0x00, 0x1F] := by
  decide +kernel

theorem test_hold_requirement : holdRequirement 168 90 200 = 4449 := by decide

theorem test_fade_ratio : fadeRatio 2000 = 750 ∧ fadeRatio 700 = 100 ∧ fadeRatio 600 = 50 ∧ fadeRatio 500 = 0 := by decide

/-- Event 3 of section 1.7: a write of 5,000 under K_B = 450 leaves T_B at 3,000, and the word is CORRECTED. -/
theorem test_write_cannot_raise :
    let s := under (mode .traction .forward) (part .active)
    let s := { s with
      intent := { s.intent with
        channels := { s.intent.channels with tractionB := ⟨some 3000, .live, none⟩ }, held := ⟨0, 3000⟩ }
      ceil := { s.ceil with records := { s.ceil.records with b := { CeilingRecord.reset with k := 450 } } } }
    let t := after (.tractionOrBrakeWrite 0x200 5000) s
    t.intent.held.b = 3000 ∧ (t.ip.port.map (·.data)) = some (setpointWord 3000 .corrected)
      ∧ t.ip.reply = some { ok := true, data := 0 } := by
  decide

/-- The default window table is refused at GO_ACTIVE, and the tests' table is not. -/
theorem test_validation :
    (validate StructureConfig.default 0x3FF00).map (·.fault) = some .roleMissing
      ∧ validate (part .setup).cfg.str 0x3FF00 = none := by
  decide

/-- The start on the climb, section 7.6, at k = 44 and k = 88: F_hs, D_eff and the friction of T and A. -/
theorem test_start_on_the_climb :
    let at44 (p : Int) (eff : Nat) :=
      let s := under { mode .traction .forward with gradient := 90, mass := 168 } (part .active)
      let b := (run true false { s with
        blend := { s.blend with hill := .releasing, dEff := eff, achieved := ⟨some p, some p⟩ } }).blend
      (b.fhs, b.dEff, b.alloc.frT, b.alloc.frA, b.hill)
    at44 1100 2299 = (2249, 2249, 2249, 0, .releasing) ∧ at44 2200 99 = (49, 49, 49, 0, .releasing)
      ∧ at44 2225 49 = (0, 0, 0, 0, .off) := by
  decide

/-! ### Steps of a few commands -/

theorem test_reset_is_released :
    let t := after (.resetReleased 1) State.reset
    t.ctl.part = .publish ∧ t.ctl.pageBase = 0x1FF00 ∧ t.ctl.restartCause = .power
      ∧ t.ip.port.map (·.data) = some 0x00040000 := by
  decide

theorem test_mode_stale_leads_to_fallback :
    let s := under (mode .traction .forward) (part .active)
    let t := after (.refreshTimerExpiry .mode) { s with intent := { s.intent with mode := ⟨none, .live, some 7⟩ } }
    t.now = 7 ∧ t.ctl.part = .fallback ∧ t.ctl.causes.modeStale = true ∧ t.lines.hold = true := by
  decide

theorem test_bus_wake :
    let t := after (.busWake (txn 0x100 false)) (part .standby)
    t.ctl.part = .waking ∧ t.ctl.settle = some 256 ∧ t.ip.host.map (·.wait) = some .untilServed := by
  decide

theorem test_attention_line :
    let t := after (.guardedWriteRefused 0xC00 0 0xF) (part .active)
    t.lines.attention = true ∧ t.rep.flag .guardedWrite = true ∧ t.rep.counter 29 = 1 := by
  decide

theorem test_a5_begins_a_frame :
    (after (.receivedByte 0xA5) (part .setup)).chain.receiving = some [0xA5]
      ∧ (after (.receivedByte 0xA4) (part .setup)).chain.receiving = none := by
  decide

/-! ### Witnesses: states and operands that meet the hypotheses of the statements, clause by clause -/

theorem test_hyps_StepRunsTheFrontCommand : { State.reset with pending := [.powerOn] }.pending = .powerOn :: [] := rfl

theorem test_hyps_EmptyQueueLetsTimePass :
    (let s := { part .setup with ref := { Reference.reset with hold := some 0 } }
     s.pending = [] ∧ s.due = some .holdTimerExpiry)
      ∧ State.reset.pending = [] ∧ State.reset.due = none := by
  decide

theorem test_hyps_FinishOnlyGrantsAndReleases :
    (withPort .queue (part .active)).ip.port ≠ none ∧ (part .active).ip.port = none := by
  decide

/-- A free port, a queued entry, and a waiting host transaction; a grant is made. -/
theorem test_hyps_ArbiterGrantsInOrder :
    (let s := queued (entry 0) (part .active)
     s.ip.port = none ∧ s.ip.queue = [entry 0] ∧ (finish s).ip.port.map (·.claimant) = some .queue)
      ∧ (withHost .claiming none 0 (part .active)).ip.port = none
      ∧ (withHost .claiming none 0 (part .active)).ip.host.isSome = true := by
  decide

/-- A grant that passes over a waiting queue; one to the queue; a busy port; and PUBLISH. -/
theorem test_hyps_ArbiterGrantsInOrder_waits :
    (let s := withHost .claiming none 0 (queued (entry 0) (part .active))
     s.ip.port = none ∧ (finish s).ip.port.map (·.claimant) = some .passThrough ∧ s.ip.queue ≠ []
       ∧ (finish s).ip.queueWait = s.ip.queueWait + 1)
      ∧ (let s := withPort .queue (part .active)
         (finish s).ip.port = s.ip.port)
      ∧ (part .publish).ctl.part = .publish := by
  decide

theorem test_hyps_ResetReleaseStartsPublish :
    State.reset.ctl.part = .reset ∧ State.reset.ip.port = none ∧ (part .setup).ctl.part ≠ .reset := by
  decide

/-- The publish writer on the port at an offset, with failed attempts behind it. -/
def publishing (offset : BitVec 8) (attempts : Nat) : State :=
  withPort .publish
    { part .publish with
      ctl := { (part .publish).ctl with publishOffset := offset, publishAttempts := attempts } }

/-- Before the last offset, and at it: a write that is done, a second attempt that fails and a third. -/
theorem test_hyps_PublishWritesTheImage :
    (publishing 0xFE 2).awaits .publish = true ∧ (publishing 0xFE 2).ctl.part = .publish
      ∧ (publishing 0xFE 2).ctl.publishOffset ≠ 0xFF ∧ (publishing 0xFF 1).ctl.publishAttempts < 2
      ∧ (publishing 0xFF 0).awaits .publish = true ∧ (publishing 0xFF 0).ctl.part = .publish
      ∧ (publishing 0xFF 0).ctl.publishOffset = 0xFF ∧ isDone (.done 0) = true ∧ isDone .fault = false
      ∧ (publishing 0xFF 2).ctl.publishOffset = 0xFF ∧ 2 ≤ (publishing 0xFF 2).ctl.publishAttempts := by
  decide

/-- No transaction is held, and one is: it is then decoded under SETUP, where the page write claims the port. -/
theorem test_hyps_PublishWritesTheImage_held :
    let s := withHost .untilServed none 0 (publishing 0xFF 0)
    (publishing 0xFF 0).ip.host = none ∧ s.awaits .publish = true ∧ s.ctl.part = .publish
      ∧ s.ctl.publishOffset = 0xFF ∧ s.ip.host.map (·.wait) = some .untilServed
      ∧ (publishing 0xFF 0).rw.update = none
      ∧ (after (.publishWordCompletion (.done 0)) s).ip.host.map (·.wait) = some .onPort := by
  decide

/-- A word that lies in the range of one item and not of another. -/
theorem test_hyps_PageWordsFollowTheirLayout :
    tuningInRange 0x4E 50 = true ∧ tuningInRange 0x4E 51 = false ∧ tuningInRange 0x40 0x1F400000 = true
      ∧ tuningInRange 0x47 0 = false ∧ tuningInRange 0x72 0x418C83E8 = true ∧ tuningInRange 0x7B 0 = true := by
  decide

/-- A window of the tests' table. -/
def window (addr : Addr) (code : BitVec 4) : Target := .window ⟨addr, 1, code⟩

theorem test_hyps_EffortWritesAreTaken :
    (part .active).ip.host = none ∧ (part .active).inForce = true ∧ (part .fallback).inForce = true
      ∧ (part .active).target' 0x100 = window 0x100 1 ∧ (1 : BitVec 4) = (Role.intent Motor.a.role).windowCode
      ∧ (part .fallback).target' 0x200 = window 0x200 2 ∧ (2 : BitVec 4) = (Role.intent Motor.b.role).windowCode
      ∧ (part .active).target' 0x300 = window 0x300 3 ∧ (3 : BitVec 4) = Role.windowCode (.intent .brake) := by
  decide

/-- A MODE word with the last regime and the last direction. -/
theorem test_hyps_ModeWriteIsTaken :
    let data : Word := 0x09000000
    (part .active).ip.host = none ∧ (part .active).inForce = true ∧ (part .active).target' 0x400 = window 0x400 4
      ∧ (4 : BitVec 4) = Role.windowCode .mode ∧ data.extractLsb' 25 3 = Regime.emergency.code
      ∧ data.extractLsb' 23 2 = Direction.reverse.code := by
  decide

/-- MODE has an address that no other role has, and its word is not the last handed one; gradients at 120 and above. -/
theorem test_hyps_ModeWriteIsTaken_handed :
    let s := part .active
    s.intent.addrs.get .mode = some 0x400 ∧ s.intent.handed.get .mode ≠ some 5
      ∧ (∀ r ∈ [Role.intent .tractionA, .intent .tractionB, .intent .brake, .output .edA, .output .edB, .output .frA,
            .output .frT, .output .frB], s.intent.addrs.get r ≠ some 0x400)
      ∧ ((0x09007800 : Word).extractLsb' 8 8).toInt = 120 ∧ ((0x09007900 : Word).extractLsb' 8 8).toInt = 121
      ∧ ((0x09008800 : Word).extractLsb' 8 8).toInt = -120 := by
  decide

/-- Regime codes 5 and 7, direction code 3, and a partial write. -/
theorem test_hyps_RefusedIntentWritesChangeNothing :
    (part .fallback).ip.host = none ∧ (part .fallback).inForce = true
      ∧ (part .fallback).target' 0x400 = window 0x400 4 ∧ 5 ≤ bits 0x0A000000 25 3 ∧ 5 ≤ bits 0x0E000000 25 3
      ∧ bits 0x01800000 23 2 = 3 ∧ (4 : BitVec 4).toNat ≤ 4 ∧ (0x7 : BitVec 4) ≠ 0xF := by
  decide

/-- The first and last OUTPUT window, the REPORT window at its last words, the GUARD window, and page writes refused for
each of three causes. -/
theorem test_hyps_GuardedWriteIsRefused :
    (part .active).ip.host = none ∧ (part .active).inForce = true ∧ (part .active).served = true
      ∧ (part .active).target' 0x500 = window 0x500 5 ∧ (part .active).target' 0x900 = window 0x900 9
      ∧ (part .active).target' 0xC00 = .window ⟨0xC00, 66, 12⟩ ∧ (part .active).target' 0xC41 = .window ⟨0xC00, 66, 12⟩
      ∧ (part .active).target' 0x100F = .window ⟨0x1000, 16, 13⟩
      ∧ (part .active).target' 0x3FFFF = .page 0xFF
      ∧ (part .active).judgePage 0xFF { txn 0x3FFFF true with data := 0 } = some .guardedWrite
      ∧ (part .active).judgePage 0 (txn 0x3FF00 true) = some .configCollision
      ∧ (part .active).judgePage 0 { txn 0x3FF00 true with lanes := 1 } = some .partialWrite := by
  decide

theorem test_hyps_TransactionsClaimOrAreHeld :
    (part .setup).ip.host = none ∧ (part .setup).served = true ∧ (part .active).served = true
      ∧ (part .setup).target' 0x100 = .outside ∧ (part .active).target' 0x101 = .outside
      ∧ (part .active).target' 0xA00 = window 0xA00 10 ∧ (part .active).target' 0xB00 = window 0xB00 11
      ∧ (part .active).target' 0x1000 = .window ⟨0x1000, 16, 13⟩ ∧ (part .setup).target' 0x3FF00 = .page 0
      ∧ (part .publish).ctl.part = .publish ∧ (part .waking).ctl.part = .waking ∧ (part .standby).ctl.part = .standby
      ∧ State.reset.ctl.part = .reset ∧ State.reset.ip.host = none
      ∧ (after (.hostTransactionHeld (txn 0x100 true)) State.reset).ip.host = none := by
  decide

/-- A read of an INTENT window with a write-back in flight and none, a read in SETUP, reads of the REPORT window at
offsets 0, 63 and 64 while its first and last records are written, and a held read. -/
theorem test_hyps_ReadsWaitForWhatIsBeingWritten :
    (part .active).target' 0x100 = window 0x100 1 ∧ (1 : BitVec 4).toNat ≤ 9
      ∧ (flying ⟨entry 0, false⟩ (part .active)).ip.flying = some (entry 0)
      ∧ (part .setup).target' 0x100 = .outside ∧ (part .setup).ctl.part = .setup
      ∧ (part .active).target' 0xC00 = .window ⟨0xC00, 66, 12⟩ ∧ recordOf 0 = 1 ∧ recordOf 63 = 18
      ∧ (part .active).target' 0xC40 = .window ⟨0xC00, 66, 12⟩
      ∧ (withHost (.onEntries [0] none) none 0 (part .active)).ip.host.isSome = true := by
  decide

theorem test_hyps_PageWriteIsJudged :
    (part .setup).ip.host = none ∧ (part .setup).served = true ∧ (part .fallback).served = true := by
  decide

/-- A forwarded transaction on the port, and page writes at the boundary offsets of each clause. -/
theorem test_hyps_HostCompletionsAreGivenAndTaken :
    (withPort .passThrough (withHost .onPort none 0 (part .active))).awaits .passThrough = true
      ∧ (withHost .onPort none 0 (part .active)).ip.host.isSome = true
      ∧ (∀ off ∈ ([0, 0x0F, 0x10, 0x15, 0x16, 0x2F, 0x40, 0x43, 0x48, 0x59, 0x5D, 0x72, 0x75, 0x76, 0x9F, 0xC0, 0xC1, 0xC2]
          : List (BitVec 8)), (standing off 5 (part .setup)).pageStands off 5) :=
  ⟨rfl, rfl, fun off _ => standing_stands off 5 _⟩

/-- A run word on the port in SETUP, with the tests' window table. -/
theorem test_hyps_GoActiveEntersActive :
    let s := standing 0xC0 1 (part .setup)
    s.pageStands 0xC0 1 ∧ bits 1 0 8 = 1 ∧ s.ctl.part = .setup ∧ s.ip.queue = [] ∧ s.ip.inflight = none
      ∧ validate s.cfg.str s.ctl.pageBase = none ∧ s.ref.source ≠ .lost :=
  ⟨standing_stands _ _ _, by decide⟩

/-- The source is HELD in that state; and the same with the source LOST. -/
theorem test_hyps_GoActiveEntersActive_lost :
    let s := standing 0xC0 1 { part .setup with ref := { Reference.reset with source := .lost } }
    s.pageStands 0xC0 1 ∧ s.ctl.part = .setup ∧ s.ip.queue = [] ∧ s.ip.inflight = none
      ∧ validate s.cfg.str s.ctl.pageBase = none ∧ s.ref.source = .lost
      ∧ (standing 0xC0 1 (part .setup)).ref.source = .held :=
  ⟨standing_stands _ _ _, by decide⟩

/-- The same state meets the sweep's hypotheses. -/
theorem test_hyps_SweepQueuesNineWords :
    let s := standing 0xC0 0x101 (part .setup)
    s.pageStands 0xC0 0x101 ∧ bits 0x101 0 8 = 1 ∧ s.ctl.part = .setup ∧ s.ip.queue = [] ∧ s.ip.inflight = none
      ∧ validate s.cfg.str s.ctl.pageBase = none ∧ s.ref.source ≠ .lost :=
  ⟨standing_stands _ _ _, by decide⟩

/-- Words that drain, queued and in flight; an invalid structure; FALLBACK with each condition; ACTIVE; and command
values 0, 5 and 255. -/
theorem test_hyps_CommandsAreDeclined :
    (∀ s : State, (standing 0xC0 1 s).pageStands 0xC0 1 ∧ (standing 0xC0 0 s).pageStands 0xC0 0
        ∧ (standing 0xC0 5 s).pageStands 0xC0 5 ∧ (standing 0xC0 0xFF s).pageStands 0xC0 0xFF)
      ∧ bits 1 0 8 = 1 ∧ bits 0 0 8 = 0 ∧ 4 < bits 5 0 8 ∧ 4 < bits 0xFF 0 8
      ∧ (let s := standing 0xC0 1 (queued (entry 0) (part .setup))
         s.ctl.part = .setup ∧ s.ip.queue ≠ [])
      ∧ (let s := standing 0xC0 1 (flying ⟨entry 0, false⟩ (part .setup))
         s.ctl.part = .setup ∧ s.ip.inflight ≠ none)
      ∧ (let s := standing 0xC0 1 { part .setup with cfg := State.reset.cfg }
         s.ctl.part = .setup ∧ s.ip.queue = [] ∧ s.ip.inflight = none
           ∧ validate s.cfg.str s.ctl.pageBase = some ⟨.roleMissing, 1⟩)
      ∧ (let s := standing 0xC0 1 { part .fallback with ref := (part .fallback).ref.lose }
         s.ctl.part = .fallback ∧ s.ref.source = .lost)
      ∧ (let s := standing 0xC0 1 ((part .fallback).raised .memoryFault)
         s.ctl.part = .fallback ∧ s.rep.flag .memoryFault = true)
      ∧ (let s := standing 0xC0 1 ((part .fallback).raised .rollaway)
         s.ctl.part = .fallback ∧ s.rep.flag .rollaway = true)
      ∧ (standing 0xC0 1 (part .active)).ctl.part = .active :=
  ⟨fun _ => ⟨standing_stands _ _ _, standing_stands _ _ _, standing_stands _ _ _, standing_stands _ _ _⟩, by decide⟩

/-- Structures with a fault of each kind: a bad code at entry 2 behind two that pass, a role that is missing behind one
that stands, a list with a source twice, a channel out of range, a role window of length 2, and none. -/
theorem test_hyps_CommandsAreDeclined_validation :
    let c := (part .setup).cfg.str
    let faulty (c : StructureConfig) := validate c 0x3FF00
    faulty { c with windows := windows.set 2 ⟨0x300, 1, 14⟩ } = some ⟨.badCode, 2⟩
      ∧ faulty { c with windows := windows.set 1 WindowEntry.unused } = some ⟨.roleMissing, 2⟩
      ∧ faulty { c with allocation := #v[0, 1, 3, 3, 4] } = some ⟨.allocList, 4⟩
      ∧ faulty { c with channels := { c.channels with t1 := { c.channels.t1 with diameter := 4499 } } }
        = some ⟨.channelParam, 2⟩
      ∧ faulty { c with windows := windows.set 0 ⟨0x2000, 2, 1⟩ } = some ⟨.badLength, 0⟩
      ∧ faulty { c with nominal := ⟨1000, 30001⟩ } = some ⟨.range, 0x17⟩ ∧ faulty c = none := by
  decide

/-- A length field of 0 is length 1024: it passes for REPORT and GUARD and not for a role window. -/
theorem test_hyps_CommandsAreDeclined_full_windows :
    (WindowEntry.ofWord 0x10002000).length = 1024 ∧ (WindowEntry.ofWord 0x10002000).code = 1
      ∧ (WindowEntry.ofWord 0x10002000).lengthFits = false ∧ (WindowEntry.ofWord 0xC0002000).lengthFits = true
      ∧ (WindowEntry.ofWord 0xD0002000).lengthFits = true := by
  decide

theorem test_hyps_GoActiveReturnsFromFallback :
    let s := standing 0xC0 1 (part .fallback)
    s.pageStands 0xC0 1 ∧ s.ctl.part = .fallback ∧ s.intent.mode.fresh ≠ .stale ∧ s.ref.source ≠ .lost
      ∧ s.rep.flag .memoryFault = false ∧ s.rep.flag .rollaway = false :=
  ⟨standing_stands _ _ _, by decide⟩

/-- SETUP; ACTIVE under COAST; ACTIVE that moves at 1 mm/s; ACTIVE at rest under HOLD. -/
theorem test_hyps_GoSetupLeavesActive :
    (∀ s : State, (standing 0xC0 2 s).pageStands 0xC0 2) ∧ bits 2 0 8 = 2
      ∧ (standing 0xC0 2 (part .setup)).ctl.part ≠ .active
      ∧ (let s := standing 0xC0 2 (under (mode .coast .forward) (part .active))
         s.ctl.part = .active ∧ s.intent.accepted.regime ≠ .hold)
      ∧ (let s := standing 0xC0 2 { part .active with ref := { Reference.reset with magnitude := 1 } }
         s.ctl.part = .active ∧ s.ref.magnitude ≠ 0)
      ∧ (let s := standing 0xC0 2 (part .active)
         s.ctl.part = .active ∧ s.intent.accepted.regime = .hold ∧ s.ref.magnitude = 0) :=
  ⟨fun _ => standing_stands _ _ _, by decide⟩

theorem test_hyps_RestartResetsEveryBlock :
    (standing 0xC0 3 (part .fallback)).pageStands 0xC0 3 ∧ bits 3 0 8 = 3
      ∧ (standing 0xC0 3 (part .setup)).served = true ∧ (standing 0xC0 3 (part .active)).served = true
      ∧ (standing 0xC0 3 (part .fallback)).served = true :=
  ⟨standing_stands _ _ _, by decide⟩

/-- FALLBACK; SETUP that moves at 1 mm/s; SETUP and ACTIVE at rest with no VALID channel. -/
theorem test_hyps_StandbyStopsTheBlocks :
    (∀ s : State, (standing 0xC0 4 s).pageStands 0xC0 4) ∧ bits 4 0 8 = 4
      ∧ (standing 0xC0 4 (part .fallback)).ctl.part = .fallback
      ∧ (let s := standing 0xC0 4 { part .setup with ref := { Reference.reset with magnitude := 1 } }
         s.ctl.part = .setup ∧ s.ref.magnitude ≠ 0)
      ∧ (let s := standing 0xC0 4 (part .setup)
         s.ctl.part = .setup ∧ s.ref.magnitude = 0 ∧ ∀ i ∈ allAxles, (s.axle.channels.get i).state ≠ .valid)
      ∧ (let s := standing 0xC0 4 (part .active)
         s.ctl.part = .active ∧ s.ref.magnitude = 0 ∧ s.intent.accepted.regime = .hold
           ∧ ∀ i ∈ allAxles, (s.axle.channels.get i).state ≠ .valid) :=
  ⟨fun _ => standing_stands _ _ _, by decide⟩

/-- A leading sander that pulses. -/
theorem test_hyps_StandbyStopsTheBlocks_trail :
    let s := standing 0xC0 4 (under (mode .hold .forward) { part .active with
      sand := { Sanding.reset with sanders := PerSander.build fun _ => { SanderRecord.reset with pulse := some 2 } } })
    (s.sand.sanders.get .s1).pulse ≠ none ∧ s.leads .s1 = true ∧ s.ref.magnitude = 0 := by
  decide

theorem test_hyps_CauseClearClearsItsFlags :
    (standing 0xC1 0x803FFFFF (part .active)).pageStands 0xC1 0x803FFFFF
      ∧ (0x803FFFFF : Word).getLsbD (Cause.number .fallback) = true ∧ Reporter.reset.flag .fallback = false
      ∧ Cause.latchCounter .fallback = some 39 ∧ (Reporter.reset.raise .fallback).flag .fallback = true :=
  ⟨standing_stands _ _ _, by decide, by decide, by decide, by decide⟩

theorem test_hyps_AttentionMaskActsAtOnce :
    let s := standing 0xC2 1 (part .setup)
    s.pageStands 0xC2 1 ∧ s.ctl.part ≠ .reset :=
  ⟨standing_stands _ _ _, by decide⟩

/-- Unchanged limits in ACTIVE; changed ones; SETUP; a stored brake intent that new limits clip; a refresh word. -/
theorem test_hyps_IntentTuningActsAtItsTaking :
    (∀ (off : BitVec 8) (w : Word) (s : State), (standing off w s).pageStands off w)
      ∧ (let s := standing 0x40 0x1F400000 (part .active)
         s.inForce = true ∧ s.cfg.tun.intent.limits.get Motor.a.role = ⟨bits 0x1F400000 0 16, bits 0x1F400000 16 16⟩)
      ∧ (let s := standing 0x41 0x10000000 (part .fallback)
         s.inForce = true ∧ s.cfg.tun.intent.limits.get Motor.b.role ≠ ⟨bits 0x10000000 0 16, bits 0x10000000 16 16⟩)
      ∧ (standing 0x40 0x10000000 (part .setup)).inForce = false
      ∧ (let s := standing 0x42 0x10000000 { part .active with
           intent := { (part .active).intent with
             channels := { (part .active).intent.channels with brake := ⟨some 9000, .live, none⟩ } } }
         s.inForce = true ∧ s.cfg.tun.intent.limits.brake ≠ ⟨bits 0x10000000 0 16, bits 0x10000000 16 16⟩
           ∧ s.intent.channels.brake.intent.map (fun v => if bits 0x10000000 16 16 < v then bits 0x10000000 16 16 else v)
               ≠ s.intent.channels.brake.intent)
      ∧ (standing 0x46 0x10A (part .active)).inForce = true ∧ (0x10A : Word).getLsbD 8 = true :=
  ⟨standing_stands, by decide⟩

theorem test_hyps_FloorWordsLiftTheFactors :
    (standing 0x59 1000 (part .active)).pageStands 0x59 1000 ∧ (standing 0x5D 1000 (part .active)).pageStands 0x5D 1000 :=
  ⟨standing_stands _ _ _, standing_stands _ _ _⟩

theorem test_hyps_SanderWordActsOnItsSander :
    (standing 0x72 0 (part .active)).pageStands 0x72 0 ∧ (standing 0x75 1 (part .setup)).pageStands 0x75 1 :=
  ⟨standing_stands _ _ _, standing_stands _ _ _⟩

/-- An enabled channel in range, and one that is not. -/
theorem test_hyps_ChannelWordSendsItToSettling :
    (standing 0x10 (defaultWord 0x10) (part .setup)).pageStands 0x10 (defaultWord 0x10)
      ∧ (ChannelItems.ofWord (defaultWord 0x10)).enabled = true ∧ (ChannelItems.ofWord (defaultWord 0x10)).inRange = true
      ∧ (ChannelItems.ofWord 0).enabled = false :=
  ⟨standing_stands _ _ _, by decide, by decide, by decide⟩

/-- A role whose word differs, one whose word is equal; an address queued and one not queued. -/
theorem test_hyps_DifferingWordsJoinTheQueue :
    (part .active).intent.handed.get .mode ≠ some 5 ∧ (part .active).intent.addrs.get .mode = some 0x400
      ∧ (let s := hand .mode 5 (part .active)
         s.intent.handed.get .mode = some 5 ∧ s.ip.queue.map (·.addr) = [0x400])
      ∧ (part .active).ip.queue = [] := by
  decide

/-- A read that waits for the write in flight for its address, with nothing queued for it. -/
theorem test_hyps_DifferingWordsJoinTheQueue_third :
    let ip := (withHost (.onEntries [0] (some 0)) none 0 (flying ⟨entry 0, false⟩ (part .active))).ip
    ip.queue = [] ∧ ip.host.map (·.wait) = some (.onEntries [0] (some 0)) ∧ ip.inflight = some ⟨entry 0, false⟩
      ∧ (ip.enqueue .mode (entry 0).addr 5).host.map (·.wait) = some (.onEntries [0, ip.nextId] none) := by
  decide

theorem test_hyps_WriteBackDoneEmptiesTheSlot :
    let s := withHost (.onEntries [0] none) none 0 (flying ⟨entry 0, false⟩ (part .active))
    s.awaits .queue = true ∧ s.ip.host.map (·.wait) = some (.onEntries [0] none) := by
  decide

/-- A first failure with and without a newer word, a discarded flight, and a third failure in each kind of state. -/
theorem test_hyps_FailedWriteBacksRetryThenAreAbandoned :
    (let s := flying ⟨entry 1, false⟩ (queued (entry 0) (part .active))
     s.awaits .queue = true ∧ s.ip.inflight = some ⟨entry 1, false⟩ ∧ (∃ q ∈ s.ip.queue, q.addr = (entry 1).addr))
      ∧ (let s := flying ⟨entry 1, true⟩ (part .setup)
         s.awaits .queue = true ∧ s.ip.inflight = some ⟨entry 1, true⟩ ∧ ∀ q ∈ s.ip.queue, q.addr ≠ (entry 1).addr)
      ∧ (let s := flying ⟨entry 2, false⟩ (part .standby)
         s.awaits .queue = true ∧ s.ip.inflight = some ⟨entry 2, false⟩ ∧ 2 ≤ (entry 2).attempts ∧ s.inForce = false)
      ∧ (let s := flying ⟨entry 2, false⟩ (part .active)
         s.inForce = true ∧ s.ctl.part = .active ∧ s.intent.addrs.get (entry 2).origin = some 0x100
           ∧ (∀ r ∈ [Role.intent .tractionB, .intent .brake, .mode, .output .edA, .output .edB, .output .frA, .output .frT,
                .output .frB], s.intent.addrs.get r ≠ some 0x100)
           ∧ (writebackFailed s).intent.handed.get (entry 2).origin ≠ none
           ∧ (writebackFailed s).ip.queue.head?.map (·.addr) = some 0x100)
      ∧ (let s := flying ⟨entry 2, false⟩ (part .fallback)
         s.ctl.part ≠ .active ∧ s.inForce = true) := by
  decide

/-- Every claimant on the port, and no timer that runs. -/
theorem test_hyps_TimeoutEndsAsFault :
    (∀ c ∈ [Claimant.publish, .passThrough, .queue, .fetcher, .report],
        (withPort c (part .active)).ip.port.map (·.claimant) = some c)
      ∧ (withPort .passThrough (withHost .onPort none 0 (part .active))).ip.host.isSome = true
      ∧ (part .active).ip.port = none ∧ (part .active).onPort .publish = false ∧ (part .active).onPort .queue = false
      ∧ (part .active).ref.hold = none ∧ (part .active).ev.period = none ∧ (part .active).ctl.settle = none
      ∧ (part .active).ev.running = none ∧ (part .active).onPort .passThrough = false
      ∧ (part .active).owed .passThrough = false ∧ (withHost .onPort none 0 (part .active)).ip.host.isSome = true
      ∧ ∀ x ∈ (part .active).timers, x.1 = none := by
  decide

/-- A claimant whose answer is owed, with a transaction of its own on the port and with none. -/
theorem test_hyps_TimeoutEndsAsFault_late :
    ∀ c ∈ [Claimant.publish, .passThrough, .queue, .fetcher, .report],
      let owing (s : State) : State := { s with memory := { unanswered := [c], drawn := 0 } }
      (owing (withPort c (part .active))).owed c = true ∧ (owing (withPort c (part .active))).onPort c = true
        ∧ (owing (part .active)).owed c = true ∧ (owing (part .active)).onPort c = false := by
  decide

/-- A fetch's read on the port. -/
def fetching (second withdrawn : Bool) (p : PartState) : State :=
  withPort .fetcher
    { part p with
      ip := { (part p).ip with fetch := some ⟨second, none, withdrawn⟩, fetchTimer := some 0 } }

theorem test_hyps_FetchesReadBothWords :
    (fetching false false .active).awaits .fetcher = true ∧ (fetching false false .active).ip.fetchTimer = some 0
      ∧ (fetching true false .active).ip.fetch = some ⟨true, none, false⟩ ∧ (fetching true false .active).inForce = true
      ∧ (fetching true false .setup).inForce = false ∧ (fetching true true .setup).ip.fetch = some ⟨true, none, true⟩
      ∧ (let w : Word := 0x80080000
         w.extractLsb' 28 4 = checkNibble w ∧ bits w 16 4 = 8)
      ∧ (0x00080000 : Word).extractLsb' 28 4 ≠ checkNibble 0x00080000 ∧ bits 0x00070000 16 4 ≠ 8 := by
  decide

/-- An update at its last record's last word, on the port. -/
def reporting (u : Update) : State :=
  withPort .report { part .active with rw := { timer := some 0, update := some u, pendingUpdate := true } }

/-- The last record of an update with a window, and the page header of one without. -/
theorem test_hyps_ReportsAreWrittenWordByWord :
    let u : Update := { window := some 0xC00, record := 18, word := 0, contents := none, stopping := false }
    (reporting u).awaits .report = true ∧ (reporting u).rw.update = some u ∧ u.record ≤ 18 ∧ u.record ≠ 0
      ∧ u.window = some 0xC00 ∧ { u with window := none }.window = none ∧ (reporting u).rw.timer = some 0 := by
  decide

/-- Each effort channel's timer, and MODE's, running in ACTIVE, FALLBACK and outside both. -/
def refreshing (p : PartState) : State :=
  { part p with
    intent :=
      { (part p).intent with
        channels := PerEffort.build fun _ => ⟨some 100, .live, some 5⟩
        mode := ⟨some ModeRecord.default, .live, some 5⟩ } }

theorem test_hyps_RefreshExpiryMakesStale :
    (∀ r ∈ [EffortRole.tractionA, .tractionB, .brake],
        ((refreshing .active).intent.channels.get r).timer = some 5)
      ∧ (refreshing .active).inForce = true ∧ (refreshing .setup).inForce = false
      ∧ (refreshing .active).intent.mode.timer = some 5 ∧ (refreshing .fallback).ctl.part = .fallback := by
  decide

theorem test_hyps_ClaimsMoveHeldTraction :
    (part .setup).intent.accepted.regime ≠ .traction
      ∧ (let s := under (mode .traction .reverse) (part .active)
         s.intent.accepted.regime = .traction ∧ s.intent.accepted.direction ≠ .neutral ∧ s.ctl.part ≠ .fallback
           ∧ s.cfg.str.driveIsolated.get .a = false ∧ (s.ev.bogies.get Motor.a.bogie).c ≤ 1000
           ∧ 300 ≤ (s.ceil.records.get Motor.a.bogie).k) := by
  decide

/-- A channel that acts, with its counted edge RISING, FALLING and BOTH. -/
def counting (state : ChannelState) (edge : BitVec 2) (p : PartState) : State :=
  { part p with
    axle := { (part p).axle with channels := PerAxle.build fun _ =>
      { Channel.reset with sync := false, state := state, standstill := some 9, q := ⟨true, 0, some 10⟩, movement := 7 } }
    cfg := { (part p).cfg with str := { (part p).cfg.str with
      channels := PerAxle.build fun _ => { ChannelItems.default with countedEdge := edge } } } }

/-- Time stamps at the debounce length 2 from the last edge of the other phase and 1 from it; a counted edge that reverses and
one that does not; a channel before its first sample, and a reversal that stands to be undone. -/
theorem test_hyps_EdgesMoveTheirChannel :
    (let s := counting .valid 0 .active
     let c := s.axle.channels.get .a1
     c.state ≠ .disabled ∧ s.ctl.part ≠ .standby ∧ s.ctl.part ≠ .waking
       ∧ (s.cfg.str.channels.get .a1).countedEdge = 0 ∧ c.q.stamp = some 10
       ∧ 10 + 2 ^ (s.cfg.str.channels.get .a1).debounce.toNat ≤ 12 ∧ 11 < 10 + 2 ^ (s.cfg.str.channels.get .a1).debounce.toNat
       ∧ c.standstill = some 9 ∧ (edge .a1 .p true 12 s).axle.channels.a1.positive ≠ c.positive
       ∧ (edge .a1 .p true 11 s).axle.channels.a1.positive = c.positive
       ∧ (edge .a1 .p true 12 s).axle.channels.a1.kept.isSome = true)
      ∧ ((counting .still 1 .setup).cfg.str.channels.get .b2).countedEdge = 1
      ∧ ((counting .still 2 .setup).cfg.str.channels.get .b2).countedEdge = 2
      ∧ Channel.reset.sync = true := by
  decide

theorem test_hyps_EdgesInStandbyCountMovement :
    let s := counting .still 0 .standby
    (s.axle.channels.get .t1).state ≠ .disabled ∧ s.ctl.part = .standby ∧ s.axle.held = false
      ∧ (s.cfg.str.channels.get .t1).countedEdge = 0 ∧ 8 ≤ (s.axle.channels.get .t1).movement + 1 := by
  decide

/-- An edge that is counted after the movement wake, and a falling one that a RISING channel does not count before it. -/
theorem test_hyps_EdgesInStandbyCountMovement_others :
    let s := counting .fault 0 .waking
    let woken : State := { s with axle := { s.axle with held := true } }
    (woken.axle.channels.get .t1).state ≠ .disabled ∧ woken.ctl.part = .waking ∧ woken.axle.held = true
      ∧ ¬ ((s.cfg.str.channels.get .t1).countedEdge = 2 ∨ false = true ∨ (s.cfg.str.channels.get .t1).countedEdge = 1)
      ∧ ((after (.countedEdge .t1 true 9) woken).axle.channels.get .t1).movement = 7
      ∧ ((after (.countedEdge .t1 true 9) s).axle.channels.get .t1).movement = 8
      ∧ ((after (.countedEdge .t1 false 9) s).axle.channels.get .t1).movement = 7 := by
  decide

/-- Channels that take no sample, their first one, one at the debounced level, and one at the other level that is the last but
one and the last of the debounce length. -/
theorem test_hyps_EmptyQueueLetsTimePass_edges :
    let s := counting .still 0 .active
    let high (run : Nat) : State :=
      { s with
        pins := { s.pins with tach := PerAxle.build fun _ => ⟨true, true⟩ }
        axle := { s.axle with channels := PerAxle.build fun _ => { s.axle.channels.a1 with p := ⟨false, run, none⟩ } } }
    let length := 2 ^ (s.cfg.str.channels.get .a1).debounce.toNat
    Channel.reset.state = .disabled ∧ ({ Channel.reset with state := .settling }).sync = true
      ∧ (s.axle.channels.get .a1).sync = false ∧ (s.axle.channels.get .a1).p.level = s.pins.tach.a1.p
      ∧ ((high 0).axle.channels.get .a1).p.level ≠ (high 0).pins.tach.a1.p ∧ 0 + 1 < length ∧ length ≤ (length - 1) + 1
      ∧ ((samplePhase .a1 .p (high 0)).axle.channels.get .a1).p.level = false
      ∧ ((samplePhase .a1 .p (high (length - 1))).axle.channels.get .a1).p = ⟨true, 0, some 0⟩ := by
  decide

/-- A receiver that awaits a character, and one 1, 5, 33 and 37 µs after the change, at either level; a frame being sent, at its
first µs and its last; and high and low levels. -/
theorem test_hyps_EmptyQueueLetsTimePass_line :
    let s (t : Nat) (active : Bool) : State :=
      { part .setup with
        pins := { (part .setup).pins with chainIn := active }
        chain := { (part .setup).chain with bits := ⟨true, some (t, List.replicate 8 false)⟩ } }
    let x : Sending := ⟨[0xA5, 1, 2, 3, 4, 5, 6, 7], 100⟩
    State.reset.inForce = false ∧ State.reset.ctl.part ≠ .setup ∧ (part .setup).chain.bits.char = none
      ∧ (sampleChain (s 1 false)).chain.bits.char = none ∧ ((sampleChain (s 1 true)).chain.bits.char.map (·.1)) = some 2
      ∧ ((sampleChain (s 5 true)).chain.bits.char.map (·.2.length)) = some 9
      ∧ ((sampleChain (s 33 true)).chain.bits.char.map (·.2.length)) = some 9
      ∧ (sampleChain (s 37 true)).chain.bits.char = none ∧ byteOfLevels (List.replicate 8 false) = 0xFF
      ∧ (let s := { part .active with now := 100, chain := { (part .active).chain with sending := some x } }
         s.ctl.part ≠ .reset ∧ s.chain.sending = some x ∧ x.bytes[0]? = some 0xA5 ∧ s.now = x.start + 40 * 0 + 4 * 0 + 0
           ∧ (finish s).lines.chainOut = true ∧ x.bytes[7]? = some 7 ∧ x.start + 319 = x.start + 40 * 7 + 4 * 9 + 3)
      ∧ (part .active).pins.sandLevel.get .s1 = true
      ∧ ({ s1 := false, s2 := false, s3 := false, s4 := false } : PerSander Bool).get .s1 = false := by
  decide

/-- A channel with a period and a last edge, a SETTLING one at its fourth latch, and a FAULT one at its fiftieth. -/
theorem test_hyps_SpeedIsFormedAtTheLatch :
    (let c := { Channel.reset with period := some 1000, lastPrescaled := some 0, state := .valid
                                   history := some ⟨0, 0, 0, 0⟩, lastRaw := some 0 }
     c.still = false ∧ c.period = some 1000 ∧ c.lastPrescaled = some 0 ∧ c.history = some ⟨0, 0, 0, 0⟩
       ∧ c.lastRaw = some 0 ∧ 5000 < ((5001 : Int) - 0).natAbs ∧ ¬ 5000 < ((5000 : Int) - 0).natAbs)
      ∧ ({ Channel.reset with state := .settling, settleCount := 3 }).settleCount + 1 = 4
      ∧ ({ Channel.reset with state := .fault, cleanCount := 49 }).cleanCount + 1 = 50 := by
  decide

/-- FAULT at its forty-ninth clean latch, and channels that form a sample, that do not, and that are DISABLED. -/
theorem test_hyps_SpeedIsFormedAtTheLatch_samples :
    ({ Channel.reset with state := .fault, cleanCount := 48 }).cleanCount + 1 < 50
      ∧ (counting .valid 0 .active).axle.channels.a1.state = .valid
      ∧ (counting .fault 0 .active).axle.channels.a1.state = .fault ∧ Channel.reset.state = .disabled
      ∧ 4 ≤ ({ Channel.reset with illegal := 4 }).illegal ∧ ¬ 4 ≤ ({ Channel.reset with illegal := 3 }).illegal := by
  decide

/-- Stages that stay on the unit's own channels, restart on them, follow the chain, hold and stay lost; and a running hold
timer. -/
theorem test_hyps_ReferenceMovesAndIsLost :
    let dead : Sample := { state := .fault, filtered := none, acceleration := none, raw := none }
    let good : Sample := { state := .valid, filtered := some 2000, acceleration := some 0, raw := some 2000 }
    let frame : Frame :=
      { regime := .coast, direction := .forward, valid := true, reference := 1500, notice := none, sand := false }
    let input (p : Sample) : StageInput :=
      { samples := PerAxle.build fun _ => p, regime := .coast, direction := .forward, link := .linked, frame := some frame
        follower := true, rise := 1500, fall := 2500, period := 10000, holdTimer := some 5 }
    let r := Reference.reset
    ({ r with source := .own }.stage (input good)).source = .own ∧ (r.stage (input good)).source = .own ∧ r.source ≠ .own
      ∧ ({ r with source := .chain }.stage (input dead)).source = .chain
      ∧ ({ r with source := .lost }.stage (input dead)).source = .chain
      ∧ (r.stage { input dead with link := .lost }).source = .held
      ∧ ({ r with source := .lost }.stage { input dead with link := .lost }).source = .lost
      ∧ ({ part .active with ref := { Reference.reset with hold := some 3 } }).ref.hold = some 3
      ∧ (part .active).inForce = true ∧ (part .setup).inForce = false := by
  decide

/-- A running control-period timer, with a frame in the buffer and without, and a channel that is not DISABLED. -/
theorem test_hyps_PeriodExpiryRunsTheStages :
    let s := { part .active with ev := { Evaluator.reset with period := some 10000 } }
    let f : Frame := { regime := .coast, direction := .forward, valid := false, reference := 0, notice := none, sand := true }
    s.ev.period = some 10000 ∧ s.ev.running = none ∧ s.chain.buffer = none
      ∧ { s.chain with buffer := some f }.buffer = some f ∧ ((counting .still 1 .setup).axle.channels.get .b2).state ≠ .disabled := by
  decide

/-- An evaluation in progress. -/
def evaluation : Evaluation :=
  { slips := Evaluator.reset.slips, bogies := Evaluator.reset.bogies
    ref := { magnitude := 0, sense := .none, source := .held, acceleration := 0, odometer := 0, step := 0, rollback := 0 }
    regime := .hold, direction := .neutral, frame := none, started := 0 }

/-- A part with an evaluation in progress. -/
def evaluating (p : PartState) : State := { part p with ev := { Evaluator.reset with running := some evaluation } }

/-- A frame handed in ACTIVE carries its notice to the completion, and one handed in SETUP carries none. -/
theorem test_hyps_PeriodExpiryRunsTheStages_notice :
    let f : Frame :=
      { regime := .coast, direction := .forward, valid := false, reference := 0, notice := some (.spin, 9), sand := true }
    let s (p : PartState) : State := { part p with chain := { (part p).chain with buffer := some f } }
    (s .active).inForce = true ∧ (s .setup).inForce = false ∧ (s .active).carriedFrame (some f) = some f
      ∧ (s .setup).carriedFrame (some f) = some { f with notice := none } := by
  decide

theorem test_hyps_PeriodExpiryRunsTheStages_running :
    let s := evaluating .active
    ({ s with ev := { s.ev with period := some 9 } }).ev.period = some 9 ∧ s.ev.running = some evaluation := by
  decide

theorem test_hyps_CompletionsPublishAndDeliver :
    (evaluating .setup).ev.running = some evaluation ∧ (evaluating .setup).inForce = false
      ∧ (evaluating .active).inForce = true ∧ (evaluating .fallback).ctl.part = .fallback
      ∧ (evaluating .active).blend.hill ≠ .holding := by
  decide

/-- An excursion timer that runs, and the bogie cases: blind, marked, gripping. -/
theorem test_hyps_SlipAndCorrectionFollowTheirSteps :
    ({ part .active with ev := { Evaluator.reset with timers := PerAxle.build fun _ => some 4 } }).ev.timers.get .t2 = some 4
      ∧ SlipRecord.reset.state = .excluded ∧ ({ SlipRecord.reset with state := .recovery }).state ≠ .excluded
      ∧ ({ BogieRecord.reset with floorPending := true }).floorPending = true := by
  decide

/-- Samples at the excursion threshold and 1 mm/s below it, an axle already in EXCURSION, and one that is not usable; a repeat
mark reached and one 1 cm ahead. -/
theorem test_hyps_SlipAndCorrectionFollowTheirSteps_records :
    let x : AxleInput :=
      { side := .both, slip := (part .active).cfg.tun.slip, started := none
        ref := { magnitude := 1000, sense := .forward, source := .own, acceleration := 0, odometer := 100, step := 0
                 rollback := 0 } }
    let p (v : Int) : Sample := { state := .valid, filtered := some v, acceleration := some 0, raw := some v }
    let r (repeats : Nat) (mark : Odo) : SlipRecord := { SlipRecord.reset with repeats := repeats, mark := some mark }
    (p 1400).usable = true ∧ x.next .adhering 1000 400 0 = .excursion ∧ x.next .adhering 1000 399 0 ≠ .excursion
      ∧ ((r 15 100).classify x (p 1400) 1000).repeats = 1 ∧ ((r 15 101).classify x (p 1400) 1000).repeats = 15
      ∧ ((r 14 101).classify x (p 600) 1000).kind = some .slide
      ∧ ({ r 1 101 with state := .excursion }).state = .excursion
      ∧ ¬ ((.fault : ChannelState) = .valid ∨ (.fault : ChannelState) = .still)
      ∧ (part .active).inForce = true ∧ (part .setup).inForce = false := by
  decide

/-- Both axles enter with equal and with unequal slips, one alone enters, and counts at the repeat limit and below it. -/
theorem test_hyps_SlipAndCorrectionFollowTheirSteps_onsets :
    let t := (part .active).cfg.tun.slip
    let axle (counted : Int) (kind : Kind) (entered : Bool) (repeats : Nat) : SlipRecord :=
      { SlipRecord.reset with
        state := .excursion, counted := some counted, kind := some kind, entered := entered, repeats := repeats }
    let onset (x y : SlipRecord) := (BogieRecord.reset.update t SlipRecord.reset SlipRecord.reset x y).onset
    onset (axle 500 .spin true 1) (axle 500 .slide true 1) = some .spin
      ∧ onset (axle 500 .spin true 1) (axle 501 .slide true 1) = some .slide
      ∧ onset (axle 500 .spin false 1) (axle 501 .slide true 1) = some .slide
      ∧ t.repeatLimit ≤ (axle 500 .spin true 3).repeats ∧ ¬ t.repeatLimit ≤ (axle 500 .spin true 2).repeats := by
  decide

/-- A full queue of distinct marks into which a notice merges, and none does; a record that is 1 cm short of ten metres; and a
motor bogie judged by its traction. -/
theorem test_hyps_CeilingsAndNoticesFollowThePass :
    let q := (List.range 8).map (fun k => Notice.mk (BitVec.ofNat 32 (k * 500)) 400 .b)
    q.length ≤ 8 ∧ (q.map (·.mark)).Nodup
      ∧ mergeEntry 0 100 q ⟨1040, 300, .b⟩ = some ⟨1000, 400, .b⟩ ∧ mergeEntry 0 100 q ⟨1300, 300, .b⟩ = some ⟨1500, 400, .b⟩
      ∧ mergeEntry 0 100 (q.take 7) ⟨1300, 300, .b⟩ = none ∧ mergeEntry 0 100 q ⟨1000, 300, .t⟩ = none
      ∧ (place 0 100 q ⟨1000, 300, .t⟩).2 = .dropped
      ∧ ({ CeilingRecord.reset with clean := 999 }).clean + 1 = 1000 ∧ CeilingRecord.reset.restarted = false
      ∧ (part .active).ctl.part = .active ∧ (part .fallback).ctl.part ≠ .active := by
  decide

/-- The default allocation list, with addresses for its words; a run with a share of electric brake and one without. -/
theorem test_hyps_RunSharesOutTheDemand :
    (part .active).allocationOrder.Perm allSources
      ∧ (part .active).allocationOrder = [.edA] ++ .edB :: [.frT, .frA, .frB]
      ∧ (part .active).intent.addrs.get (.output .frB) ≠ none ∧ (part .active).intent.addrs.get (.intent .brake) ≠ none
      ∧ (let s := under (mode .serviceBrake .forward) (part .active)
         s.ctl.part ≠ .fallback ∧ s.intent.accepted.regime = .serviceBrake ∧ s.cfg.str.driveIsolated.get .a = false)
      ∧ (part .fallback).ctl.part = .fallback ∧ (part .fallback).intent.mode.fresh ≠ .live := by
  decide

/-- ACTIVE with a hold requirement in each hill-start state, RELEASING that goes on and that has come away; a shortfall, a
deficit, and the allocator's timers. -/
theorem test_hyps_HillStartAndTimersMoveTheRun :
    (let s (r : Regime) (x : HillStart) (v : Nat) : State :=
       under { mode r .forward with gradient := 90, mass := 168 } { part .active with
         blend := { Allocator.reset with hill := x, seenMagnitude := v, seenSense := .forward } }
     (run false false (s .hold .off 0)).blend.h ≠ 0 ∧ (run false false (s .hold .off 0)).blend.hill = .holding
       ∧ (run false true (s .traction .off 49)).blend.hill = .releasing
       ∧ (run false false (s .traction .holding 0)).blend.hill = .releasing
       ∧ (run false false (s .traction .releasing 1000)).blend.hill = .releasing
       ∧ (run false false (s .traction .releasing 1001)).blend.hill = .off
       ∧ (run false false (s .traction .rollbackHold 0)).blend.hill = .rollbackHold)
      ∧ (let s := under (mode .serviceBrake .forward) { part .active with
           intent := { (part .active).intent with
             channels := { (part .active).intent.channels with brake := ⟨some 30000, .live, none⟩ } }
           blend := { Allocator.reset with seenMagnitude := 3000 } }
         let b := (run false false s).blend
         b.lag.get .a = some 300000 ∧ b.deficitTimer = some 500000 ∧ b.assist = false)
      ∧ (let s := { part .active with
           blend := { Allocator.reset with lag := ⟨some 1, none⟩, probe := ⟨none, some 1⟩, deficitTimer := some 1 } }
         s.inForce = true ∧ s.blend.lag.get .a = some 1 ∧ s.blend.probe.get .b = some 1 ∧ s.blend.deficitTimer = some 1) := by
  decide

/-- A leading sander that is ready at 200 mm/s and not at 199, one that does not lead, a pulse with no standing trigger, a
climb with a rail hint other than DRY, and an empty sander with its level timer and its first sample due. -/
theorem test_hyps_TriggersAndPulsesFollowTheirRules :
    let s := under (mode .traction .forward) (part .active)
    let at200 (v : Nat) : State := { s with sand := { Sanding.reset with seenMagnitude := v } }
    let steep : ModeRecord := { mode .traction .reverse with gradient := -60, rail := .wet }
    let empty : SanderRecord := { SanderRecord.reset with full := false, level := some 6, levelFresh := true }
    (at200 200).leads .s1 = true ∧ (at200 200).leads .s3 = false ∧ ¬ (at200 200).sand.seenMagnitude < 200
      ∧ (at200 199).sand.seenMagnitude < 200 ∧ ((at200 200).cfg.tun.sanders.get .s1).enabled = true
      ∧ (let x : State := { s with sand := { Sanding.reset with
           sanders := PerSander.build fun _ => { SanderRecord.reset with pulse := some 2 } } }
         (x.sand.sanders.get .s1).pulse = some 2 ∧ x.standing = [])
      ∧ (∀ m ∈ [Motor.a, .b], s.intent.held.get m = 0)
      ∧ (under steep (part .active)).intent.accepted.gradient ≤ -60 ∧ steep.rail ≠ .dry ∧ steep.direction = .reverse
      ∧ empty.full = false ∧ empty.level = some 6 ∧ empty.levelFresh = true
      ∧ (part .active).ctl.part ≠ .reset ∧ (part .active).ctl.part ≠ .publish := by
  decide

/-- FULL and EMPTY sanders, a level timer, and supplies on both sides of both thresholds. -/
theorem test_hyps_LevelsAndSupplyAreMonitored :
    let empty : State :=
      { part .setup with
        sand :=
          { Sanding.reset with
            supplyGood := false
            sanders := PerSander.build (fun _ => { SanderRecord.reset with full := false, level := some 6 }) } }
    ((part .setup).cfg.tun.sanders.get .s2).enabled = true ∧ (part .setup).ctl.part ≠ .reset
      ∧ (part .setup).ctl.part ≠ .publish ∧ ((part .setup).sand.sanders.get .s2).full = true
      ∧ (empty.sand.sanders.get .s2).full = false ∧ (empty.sand.sanders.get .s2).level = some 6 ∧ empty.standing = []
      ∧ (part .setup).sand.supplyGood = true ∧ empty.sand.supplyGood = false
      ∧ supplyThreshold (part .setup).cfg.tun.supplyCode = 180 := by
  decide

/-- A LEAD's frame of which byte 8 is due, at position 1: good, damaged, and from the wrong place. -/
theorem test_hyps_ChainReceiverJudgesFrames :
    let l : List FrameByte := [0xA5, 0x00, 0x29, 0x00, 0x00, 0x00, 0x00]
    (part .setup).chain.receiving = none ∧ l.length = 7
      ∧ (judgeFrame 1 (l ++ [0x1F])).toOption = some
          { regime := .traction, direction := .forward, valid := true, reference := 0, notice := none, sand := false }
      ∧ judgeFrame 1 (l ++ [0x1E]) = .error .check ∧ judgeFrame 2 (l ++ [0x1F]) = .error .position
      ∧ ({ part .active with chain := { ChainLink.reset with silence := some 8, receiving := some l } }).chain.silence
          = some 8 := by
  decide +kernel

/-- A follower in ACTIVE with alignment on, less than half a period after an expiry and half a period after it. -/
theorem test_hyps_ChainReceiverJudgesFrames_alignment :
    let s := part .active
    let early (now : Nat) : State :=
      { s with
        now := now, ev := { Evaluator.reset with period := some 20000, length := 10000 }
        cfg := { s.cfg with
          str := { s.cfg.str with position := 1 }
          tun := { s.cfg.tun with link := { s.cfg.tun.link with alignment := true } } } }
    (early 14999).inForce = true ∧ (early 14999).cfg.str.position = 1 ∧ (early 14999).cfg.tun.link.alignment = true
      ∧ 2 * ((early 14999).now + (early 14999).ev.length - 20000) < (early 14999).ev.length
      ∧ ¬ 2 * ((early 15000).now + (early 15000).ev.length - 20000) < (early 15000).ev.length := by
  decide

/-- A frame being received, with and without a new character begun. -/
theorem test_hyps_ChainReceiverJudgesFrames_idle :
    let s (char : Option (Nat × List Bool)) : State :=
      { part .active with
        chain := { ChainLink.reset with receiving := some [0xA5], bits := { level := false, char := char } } }
    (s none).inForce = true ∧ (s none).chain.receiving = some [0xA5] ∧ (s none).chain.bits.char = none
      ∧ (s (some (7, []))).chain.bits.char ≠ none
      ∧ after .chainIncomplete (s none) ≠ after .chainIncomplete (s (some (7, []))) := by
  decide

/-- A transmit timer, a frame at the ends of its fields, and bytes that are good, damaged, without a code and from the wrong
place. -/
theorem test_hyps_SentFramesAreGoodBehind :
    ({ part .active with chain := { ChainLink.reset with transmit := some 8 } }).chain.transmit = some 8
      ∧ (let f : Frame := { regime := .coast, direction := .reverse, valid := true, reference := -32768
                            notice := some (.slide, 255), sand := true }
         (f.valid = false → f.reference = 0) ∧ -32768 ≤ f.reference ∧ f.reference ≤ 32767
           ∧ f.notice = some (.slide, 255))
      ∧ crc8 [0x00, 0x29, 0x00, 0x00, 0x00, 0x00] = 0x1F
      ∧ judgeFrame 1 [0xA5, 0x00, 0x2D, 0x00, 0x00, 0x00, 0x00, crc8 [0x00, 0x2D, 0x00, 0x00, 0x00, 0x00]] = .error .check
      ∧ judgeFrame 3 [0xA5, 0x00, 0x29, 0x00, 0x00, 0x00, 0x00, 0x1F] = .error .position
      ∧ judgeFrame 1 [0xA5] = .error .check := by
  decide +kernel

/-- WAKING with a settle timer, with and without a held transaction. -/
def waking : State := { part .waking with ctl := { (part .waking).ctl with settle := some 256, previous := some .active } }

theorem test_hyps_WakingEndsInItsState :
    waking.ctl.settle = some 256 ∧ waking.ctl.part = .waking ∧ waking.ip.host = none
      ∧ (let s := withHost .untilServed none 0 waking
         s.ctl.settle = some 256 ∧ s.ctl.part = .waking ∧ s.ip.host.map (·.wait) = some .untilServed
           ∧ (after .settleTimerExpiry s).ip.reply = some { ok := false, data := 0 }) := by
  decide

/-- It was ACTIVE and HELD; with the movement mark it ends in FALLBACK; without a previous state in SETUP; a channel has moved
in STILL. -/
theorem test_hyps_WakingEndsInItsState_cases :
    waking.ctl.previous = some .active ∧ waking.ref.source = .held
      ∧ (after .settleTimerExpiry { waking with ctl := { waking.ctl with movementMark := true } }).ctl.part = .fallback
      ∧ (after .settleTimerExpiry { waking with ctl := { waking.ctl with previous := none } }).ctl.part = .setup
      ∧ ({ Channel.reset with state := .still, movement := 1 }).state = .still := by
  decide

theorem test_hyps_LinesFollowTheState : ∃ t, step State.reset = .next t := ⟨_, rfl⟩

/-- Every command that waits is stepped; this one serves the invariants' witnesses. -/
def stepping (s : State) : State := { s with pending := [.holdTimerExpiry] }

theorem test_hyps_EveryStepKeepsCountersBounded : State.reset.countersBounded ∧ ∃ t, step State.reset = .next t := by
  refine ⟨?_, _, rfl⟩
  show ∀ i : Fin 40, State.reset.rep.counter i ≤ 65535
  decide

/-- A queue of one entry with its check nibble right. -/
theorem test_hyps_EveryStepKeepsTheQueueSound :
    let s := stepping (queued { entry 0 with word := setpointWord 3025 .corrected } (part .active))
    s.queueDistinct ∧ s.queueChecked ∧ ∃ t, step s = .next t := by
  refine ⟨?_, ⟨?_, ?_⟩, _, rfl⟩
  · show [(0x100 : Addr)].Nodup
    decide
  · show ∀ e ∈ [{ entry 0 with word := setpointWord 3025 .corrected }], nibbleSum e.word = 0
    decide
  · intro f hf
    exact absurd (show (none : Option InFlight) = some f from hf) (by simp)

/-- EMERGENCY at 51 mm/s, with the track brakes asserted. -/
theorem test_hyps_EveryStepKeepsTheTrackRule :
    let s := stepping { part .active with blend := { Allocator.reset with seenMagnitude := 51, lines := true } }
    s.stagesAgree ∧ s.trackRule ∧ s.blend.lines = true ∧ ∃ t, step s = .next t := by
  refine ⟨⟨by decide, by decide⟩, fun _ => by decide, rfl, _, rfl⟩

/-- ACTIVE under TRACTION with a held traction above 0 at every one of its bounds. -/
def tractive : State :=
  let s := stepping (under (mode .traction .forward) (part .active))
  { s with
    intent :=
      { s.intent with
        channels := { s.intent.channels with tractionA := ⟨some 8000, .live, none⟩ }
        held := ⟨8000, 0⟩ } }

theorem test_hyps_EveryStepKeepsTractionSafe :
    tractive.tractionSafe ∧ tractive.intent.held.a = 8000 ∧ ∃ t, step tractive = .next t := by
  refine ⟨⟨⟨by decide, by decide⟩, ⟨?_, ?_, by decide, by decide⟩, ?_, ?_, ?_, ?_, ?_⟩, rfl, _, rfl⟩
  · intro y; cases y <;> decide
  · intro e y h; exact absurd (show (none : Option Evaluation) = some e from h) (by simp)
  · intro h; exact absurd ⟨rfl, rfl⟩ h
  · intro m; cases m <;> exact ⟨by decide, by decide, by decide⟩
  · intro _ m v h
    cases m
    · have : v = 8000 := (Option.some.inj h).symm
      subst this; decide
    · exact absurd (show (none : Option Nat) = some v from h) (by simp)
  · intro r; cases r <;> decide
  · intro h off hh; exact absurd (show (none : Option HostSlot) = some h from hh) (by simp)

end Sys2Proof.Tests
end

section
/-! PROOF of `Obligations.EmptyQueueLetsTimePass`: what a microsecond without a waiting command brings, what one sample of
a tachometer phase, of the chain input and of a level or supply input does, and that a character sent is received. -/

namespace Sys2Proof.Machine

/-! ### Samples let time pass and take no command (R2; log 3) -/

/-- From `s` to `t` the time base does not go back, and the waiting commands and the draw count stand. -/
def TimePasses (s t : State) : Prop := s.now ≤ t.now ∧ t.pending = s.pending ∧ t.draws = s.draws

theorem TimePasses.refl (s : State) : TimePasses s s := ⟨le_rfl, rfl, rfl⟩

theorem TimePasses.trans {s t u : State} : TimePasses s t → TimePasses t u → TimePasses s u
  | ⟨later, pending, draws⟩, ⟨later', pending', draws'⟩ =>
    ⟨later.trans later', pending'.trans pending, draws'.trans draws⟩

/-- Samples that each let time pass do so one after the other. -/
theorem TimePasses.foldl {α : Type} {f : State → α → State} (h : ∀ s a, TimePasses s (f s a)) (l : List α) (s : State) :
    TimePasses s (l.foldl f s) := by
  induction l generalizing s with
  | nil => exact .refl s
  | cons a l ih => exact (h s a).trans (ih (f s a))

/-- An edge takes the time base at least to where it stands: to the edge's arrival (R48). -/
theorem now_le_edge_now (i : Axle) (ph : Phase) (rising : Bool) (stamp : Nat) (s : State) :
    s.now ≤ (edge i ph rising stamp s).now := by
  have arrives : s.now ≤ (phaseEdge i ph rising stamp s).now := le_max_left ..
  simp only [edge]
  split
  · rwa [movementWake_now]
  · exact arrives

theorem timePasses_edge (i : Axle) (ph : Phase) (rising : Bool) (stamp : Nat) (s : State) :
    TimePasses s (edge i ph rising stamp s) :=
  ⟨now_le_edge_now i ph rising stamp s, edge_pending .., edge_draws ..⟩

theorem timePasses_samplePhase (i : Axle) (ph : Phase) (s : State) : TimePasses s (samplePhase i ph s) := by
  simp only [samplePhase]
  split
  · exact .refl s
  · split
    · exact timePasses_edge ..
    · exact .refl s

theorem timePasses_sampleAxle (s : State) (i : Axle) : TimePasses s (sampleAxle i s) := by
  simp only [sampleAxle]
  split
  · exact .refl s
  · split
    · exact .refl s
    · exact (timePasses_samplePhase i .q s).trans (timePasses_samplePhase i .p _)

theorem sampleChain_of_not_receives {s : State} (h : s.receives = false) : sampleChain s = s := by
  simp [sampleChain, h]

theorem timePasses_sampleChain (s : State) : TimePasses s (sampleChain s) := by
  cases h : s.receives with
  | false => rw [sampleChain_of_not_receives h]; exact .refl s
  | true =>
    rw [sampleChain_of_sample h Prod.mk.eta.symm]
    split <;> simp [TimePasses]

theorem timePasses_sampleLevel (s : State) (i : SanderId) : TimePasses s (sampleLevel i s) := by
  simp only [sampleLevel]
  split <;> simp [TimePasses]

theorem timePasses_supplySample (v : Nat) (s : State) : TimePasses s (supplySample v s) := by simp [TimePasses]

theorem timePasses_sampleSlow (s : State) : TimePasses s (sampleSlow s) := by
  rw [sampleSlow_eq]
  split
  · exact (TimePasses.foldl timePasses_sampleLevel _ s).trans (timePasses_supplySample ..)
  · exact .refl s

/-- A frame on the chain output ends `Config.frameLength` after its start (R159). -/
theorem endSending_eq (s : State) :
    endSending s
      = { s with
          chain :=
            { s.chain with
              sending :=
                match s.chain.sending with
                | some x => if s.now < x.start + 320 then some x else none
                | none => none } } := by
  simp only [endSending, Config.frameLength]
  cases s.chain.sending with
  | none => rfl
  | some x => by_cases h : s.now < x.start + 320 <;> simp [Option.filter, h]

/-- One microsecond takes the time base on by at least one. -/
theorem timePasses_tick (s : State) : TimePasses { s with now := s.now + 1 } (tick s) := by
  refine .trans ?_ (timePasses_sampleSlow _)
  refine .trans ?_ (timePasses_sampleChain _)
  rw [sampleAxles_eq_foldl]
  exact TimePasses.foldl timePasses_sampleAxle _ (endSending { s with now := s.now + 1 })

/-! ### An idle step (log 3) -/

theorem step_of_no_pending {s : State} (h : s.pending = []) : step s = idle s := by simp only [step, h]

theorem idle_of_due {s : State} {c : Instr} (h : s.due = some c) : idle s = exec c { s with draws := s.draws + 1 } := by
  simp only [idle, h]

theorem idle_of_not_due {s : State} (h : s.due = none) : idle s = .next (finish (tick s)) := by simp only [idle, h]

/-! ### A sample of an axle (R48) -/

theorem sampleAxle_of_disabled {i : Axle} {s : State} (h : (s.axle.channels.get i).state = .disabled) :
    sampleAxle i s = s := by
  simp only [sampleAxle, if_pos h]

theorem sampleAxle_of_sync {i : Axle} {s : State} (h : (s.axle.channels.get i).state ≠ .disabled)
    (hs : (s.axle.channels.get i).sync = true) :
    sampleAxle i s = setChannel i ((s.axle.channels.get i).synced (s.pins.tach.get i)) s := by
  simp only [sampleAxle, if_neg h, if_pos hs]

theorem sampleAxle_of_running {i : Axle} {s : State} (h : (s.axle.channels.get i).state ≠ .disabled)
    (hs : (s.axle.channels.get i).sync = false) :
    sampleAxle i s = samplePhase i .p (samplePhase i .q s) := by
  simp [sampleAxle, if_neg h, hs]

/-- A sample at the debounced level ends the run of opposite samples. -/
theorem samplePhase_of_level (i : Axle) (ph : Phase) (s : State)
    (h : (s.pins.tach.get i).level ph = ((s.axle.channels.get i).filter ph).level) :
    samplePhase i ph s = setChannel i ((s.axle.channels.get i).withRun ph 0) s := by
  simp only [samplePhase, if_pos h]

/-- A sample at the other level lengthens a run that stays below the debounce length. -/
theorem samplePhase_of_short_run (i : Axle) (ph : Phase) (s : State)
    (h : (s.pins.tach.get i).level ph ≠ ((s.axle.channels.get i).filter ph).level)
    (hr : ((s.axle.channels.get i).filter ph).run + 1 < (s.cfg.str.channels.get i).debounceLength) :
    samplePhase i ph s
      = setChannel i ((s.axle.channels.get i).withRun ph (((s.axle.channels.get i).filter ph).run + 1)) s := by
  simp only [samplePhase, if_neg h, if_neg (not_le.2 hr)]

/-- The sample that completes the debounce length is an edge, stamped with the run's first sample. -/
theorem samplePhase_of_full_run (i : Axle) (ph : Phase) (s : State)
    (h : (s.pins.tach.get i).level ph ≠ ((s.axle.channels.get i).filter ph).level)
    (hr : (s.cfg.str.channels.get i).debounceLength ≤ ((s.axle.channels.get i).filter ph).run + 1) :
    samplePhase i ph s
      = edge i ph ((s.pins.tach.get i).level ph) (s.now - ((s.cfg.str.channels.get i).debounceLength - 1)) s := by
  simp only [samplePhase, if_neg h, if_pos hr]

/-! ### A sample of the chain input (R159, R161) -/

theorem receives_iff (s : State) : s.receives = true ↔ s.ctl.part = .setup ∨ s.inForce = true := by
  simp [State.receives]

theorem BitReceiver.sample_idle {r : BitReceiver} (h : r.char = none) (level : Bool) :
    r.sample level = (⟨level, if level = true ∧ r.level = false then some (0, []) else none⟩, .nothing) := by
  simp [BitReceiver.sample, h]

section Character
variable {r : BitReceiver} {t : Nat} {read : List Bool} (h : r.char = some (t, read))
include h

/-- An idle level 2 µs after the change was a glitch. -/
theorem BitReceiver.sample_glitch (ht : t = 1) {level : Bool} (hl : level = false) :
    r.sample level = (⟨level, none⟩, .nothing) := by
  simp [BitReceiver.sample, h, ht, hl]

/-- A data bit is read at its middle. -/
theorem BitReceiver.sample_middle (hm : 6 ≤ t + 1 ∧ t + 1 ≤ 34 ∧ (t + 1) % 4 = 2) (level : Bool) :
    r.sample level = (⟨level, some (t + 1, read ++ [level])⟩, .nothing) := by
  obtain ⟨first, last, middle⟩ := hm
  have early : ¬ (t + 1 = 2 ∧ level = false) := by omega
  have late : t + 1 ≠ 38 := by omega
  simp only [BitReceiver.sample, h, if_neg early, if_neg late, if_pos (And.intro first middle)]

/-- Between the middles of its bits a character goes on. -/
theorem BitReceiver.sample_between (ht : t < 37) (hm : ¬ (6 ≤ t + 1 ∧ t + 1 ≤ 34 ∧ (t + 1) % 4 = 2)) {level : Bool}
    (hl : t ≠ 1 ∨ level = true) : r.sample level = (⟨level, some (t + 1, read)⟩, .nothing) := by
  have early : ¬ (t + 1 = 2 ∧ level = false) := by
    rintro ⟨ht', hl'⟩
    simp [hl', show t = 1 by omega] at hl
  have late : t + 1 ≠ 38 := by omega
  have between : ¬ (6 ≤ t + 1 ∧ (t + 1) % 4 = 2) := by omega
  simp only [BitReceiver.sample, h, if_neg early, if_neg late, if_neg between]

/-- An active level at the stop bit is a framing error. -/
theorem BitReceiver.sample_framing (ht : t = 37) {level : Bool} (hl : level = true) :
    r.sample level = (⟨level, none⟩, .framing) := by
  simp [BitReceiver.sample, h, ht, hl]

/-- An idle level at the stop bit ends the byte. -/
theorem BitReceiver.sample_byte (ht : t = 37) {level : Bool} (hl : level = false) :
    r.sample level = (⟨level, none⟩, .byte (byteOfLevels read)) := by
  simp [BitReceiver.sample, h, ht, hl]

end Character

/-! ### The chain output (R159) -/

theorem finish_lines (s : State) : (finish s).lines = (arbitrate (releaseHolds s)).formLines := rfl

/-- Outside RESET the chain output stands at the level of the frame being sent. -/
theorem finish_chainOut {s : State} {x : Sending} (hp : s.ctl.part ≠ .reset) (hx : s.chain.sending = some x) :
    (finish s).lines.chainOut = x.level s.now := by
  simp [finish_lines, State.formLines, hp, hx]

/-! ### A character sent is received as its byte (R159) -/

/-- A receiver with the events so far, after one more sample of the line. -/
def hear (x : BitReceiver × List LineEvent) (l : Bool) : BitReceiver × List LineEvent :=
  ((x.1.sample l).1, x.2 ++ [(x.1.sample l).2])

/-- The four samples of a bit. -/
def bitSamples (l : Bool) : List Bool := [l, l, l, l]

/-- The start bit begins a character. -/
theorem hear_startBit (es : List LineEvent) :
    (bitSamples true).foldl hear (⟨false, none⟩, es) = (⟨true, some (3, [])⟩, es ++ List.replicate 4 .nothing) := by
  simp [bitSamples, hear, BitReceiver.sample, List.replicate]

/-- A data bit is read once in its four samples. -/
theorem hear_dataBit {k : Nat} (hk : k < 8) (level l : Bool) (read : List Bool) (es : List LineEvent) :
    (bitSamples l).foldl hear (⟨level, some (4 * k + 3, read)⟩, es)
      = (⟨l, some (4 * (k + 1) + 3, read ++ [l])⟩, es ++ List.replicate 4 .nothing) := by
  have first : (⟨level, some (4 * k + 3, read)⟩ : BitReceiver).sample l = (⟨l, some (4 * k + 4, read)⟩, .nothing) :=
    BitReceiver.sample_between rfl (by omega) (by omega) (.inl (by omega))
  have second : (⟨l, some (4 * k + 4, read)⟩ : BitReceiver).sample l = (⟨l, some (4 * k + 5, read)⟩, .nothing) :=
    BitReceiver.sample_between rfl (by omega) (by omega) (.inl (by omega))
  have middle : (⟨l, some (4 * k + 5, read)⟩ : BitReceiver).sample l
      = (⟨l, some (4 * k + 6, read ++ [l])⟩, .nothing) :=
    BitReceiver.sample_middle rfl (by omega) l
  have last : (⟨l, some (4 * k + 6, read ++ [l])⟩ : BitReceiver).sample l
      = (⟨l, some (4 * k + 7, read ++ [l])⟩, .nothing) :=
    BitReceiver.sample_between rfl (by omega) (by omega) (.inl (by omega))
  rw [show 4 * (k + 1) + 3 = 4 * k + 7 by omega]
  simp [bitSamples, hear, first, second, middle, last, List.replicate]

/-- Data bits are read in their order. -/
theorem hear_dataBits (ds : List Bool) {k : Nat} (hk : k + ds.length ≤ 8) (level : Bool) (read : List Bool)
    (es : List LineEvent) :
    ∃ level', (ds.flatMap bitSamples).foldl hear (⟨level, some (4 * k + 3, read)⟩, es)
      = (⟨level', some (4 * (k + ds.length) + 3, read ++ ds)⟩, es ++ List.replicate (4 * ds.length) .nothing) := by
  induction ds generalizing k level read es with
  | nil => exact ⟨level, by simp⟩
  | cons d ds ih =>
    rw [List.length_cons] at hk
    obtain ⟨level', heard⟩ := ih (k := k + 1) (by omega) d (read ++ [d]) (es ++ List.replicate 4 .nothing)
    refine ⟨level', ?_⟩
    rw [List.flatMap_cons, List.foldl_append, hear_dataBit (by omega), heard, List.length_cons,
      show k + 1 + ds.length = k + (ds.length + 1) by omega, show 4 * (ds.length + 1) = 4 + 4 * ds.length by omega,
      ← List.replicate_append_replicate]
    simp

/-- The stop bit ends the character with the byte of the levels read. -/
theorem hear_stopBit (level : Bool) (read : List Bool) (es : List LineEvent) :
    (bitSamples false).foldl hear (⟨level, some (35, read)⟩, es)
      = (⟨false, none⟩, es ++ [.nothing, .nothing, .byte (byteOfLevels read), .nothing]) := by
  simp [bitSamples, hear, BitReceiver.sample]

/-- The data bits of a character spell its byte. -/
theorem byteOfLevels_dataBits (b : FrameByte) : byteOfLevels ((List.range 8).map fun i => !b.getLsbD i) = b := by
  refine BitVec.eq_of_getLsbD_eq fun k hk => ?_
  rw [byteOfLevels_getLsbD _ hk]
  simp [hk]

/-- The samples of a character, as sent, bring the receiver one byte and nothing else. -/
theorem hear_characterBits (b : FrameByte) :
    (((characterBits b).flatMap bitSamples).foldl hear (⟨false, none⟩, [])).2.filter (· ≠ .nothing) = [.byte b] := by
  obtain ⟨level, heard⟩ :=
    hear_dataBits ((List.range 8).map fun i => !b.getLsbD i) (k := 0) (by simp) true [] (List.replicate 4 .nothing)
  rw [List.length_map, List.length_range] at heard
  rw [characterBits, List.flatMap_append, List.flatMap_cons, List.foldl_append, List.foldl_append, hear_startBit,
    List.nil_append, heard, List.flatMap_singleton, hear_stopBit, List.nil_append, byteOfLevels_dataBits]
  simp

/-! ### The level inputs (R151) -/

theorem exec_sandLevelHigh_eq {i : SanderId} {s : State} (h : s.pins.sandLevel.get i = true) :
    exec (.sandLevelHigh i) s = .next (finish (sampleLevel i s)) := by
  simp [exec, execSandLevelHigh, setLevel_self h, sampleLevel, h]

theorem exec_sandLevelLow_eq {i : SanderId} {s : State} (h : s.pins.sandLevel.get i = false) :
    exec (.sandLevelLow i) s = .next (finish (sampleLevel i s)) := by
  simp [exec, execSandLevelLow, setLevel_self h, sampleLevel, h]

/-! ### The obligation -/

/-- Settles O2: each sample by the equation of its case, a microsecond by what its samples leave alone, and a received
character by the four samples of each of its bits. -/
theorem emptyQueueLetsTimePass : Obligations.EmptyQueueLetsTimePass := by
  refine ⟨?_, ?_, ?_, ?_, ?_⟩
  · -- a step with no command waiting
    refine fun s hs => ⟨fun c hc => ?_, fun hd => ?_⟩
    · rw [step_of_no_pending hs, idle_of_due hc]
    · intro next tachs line t
      have sent : next = endSending { s with now := s.now + 1 } := (endSending_eq { s with now := s.now + 1 }).symm
      have sampled : tachs = sampleAxles next := (sampleAxles_eq_foldl next).symm
      have slow : t = sampleSlow line := (sampleSlow_eq line).symm
      have ticks : t = tick s := by rw [slow, show line = sampleChain tachs from rfl, sampled, sent, tick]
      obtain ⟨later, pending, draws⟩ := timePasses_tick s
      rw [step_of_no_pending hs, idle_of_not_due hd, ticks]
      exact ⟨rfl, later, pending.trans hs, draws⟩
  · -- an axle's sample
    refine fun i s => ⟨sampleAxle_of_disabled, sampleAxle_of_sync, sampleAxle_of_running, fun ph => ?_⟩
    cases ph with
    | p =>
      exact ⟨samplePhase_of_level i .p s, samplePhase_of_short_run i .p s, samplePhase_of_full_run i .p s,
        fun _ _ => ⟨rfl, fun _ => rfl⟩⟩
    | q =>
      exact ⟨samplePhase_of_level i .q s, samplePhase_of_short_run i .q s, samplePhase_of_full_run i .q s,
        fun _ _ => ⟨rfl, nofun⟩⟩
  · -- a sample of the chain input
    refine fun s => ⟨fun setup force => ?_, fun receives => ?_, fun _ => rfl, rfl⟩
    · exact sampleChain_of_not_receives (by simp [State.receives, setup, force])
    · replace receives := (receives_iff s).2 receives
      refine ⟨fun h => sampleChain_of_sample receives (BitReceiver.sample_idle h _),
        fun t read h => ⟨fun ht hl => ?glitch, fun hm => ?middle, fun ht hm hl => ?between, fun ht hl => ?framing,
          fun ht hl => ?byte⟩⟩
      case glitch => exact sampleChain_of_sample receives (BitReceiver.sample_glitch h ht hl)
      case middle => exact sampleChain_of_sample receives (BitReceiver.sample_middle h hm _)
      case between => exact sampleChain_of_sample receives (BitReceiver.sample_between h ht hm hl)
      case framing => exact sampleChain_of_sample receives (BitReceiver.sample_framing h ht hl)
      case byte =>
        exact ⟨byteOfLevels read, fun k hk => byteOfLevels_getLsbD read hk,
          sampleChain_of_sample receives (BitReceiver.sample_byte h ht hl)⟩
  · -- the chain output, and a character received
    refine ⟨fun x n k d b s hp hx hb hk hd hn => ?_, hear_characterBits⟩
    rw [finish_chainOut hp hx, hn, Sending.level_of_bit hb hk hd, decide_eq_true_iff]
  · -- a millisecond's samples
    exact fun i s => ⟨exec_sandLevelHigh_eq, exec_sandLevelLow_eq, rfl, rfl⟩

end Sys2Proof.Machine
end

section
/-! PROOF of `Obligations.FormedWordsCarryTheirCheck`: the check nibble of a formed word and the fields it leaves. -/

namespace Sys2Proof.Machine

/-! ### The check nibble (R16) -/

theorem withCheck_getLsbD {w : Word} {i : Nat} (h : i < 28) : (withCheck w).getLsbD i = w.getLsbD i :=
  (BitVec.getLsbD_append (x := checkNibble w) (y := w.extractLsb' 0 28)).trans (by simp [h])

/-- A field within the 28 lower bits is not touched by the check nibble. -/
theorem withCheck_extract {w : Word} {lo n : Nat} (h : lo + n ≤ 28) :
    (withCheck w).extractLsb' lo n = w.extractLsb' lo n := by
  refine BitVec.eq_of_getLsbD_eq fun i hi => ?_
  rw [BitVec.getLsbD_extractLsb', BitVec.getLsbD_extractLsb', withCheck_getLsbD (by omega)]

theorem withCheck_top (w : Word) : (withCheck w).extractLsb' 28 4 = checkNibble w :=
  (BitVec.extractLsb'_append_eq_of_le (xhi := checkNibble w) (xlo := w.extractLsb' 0 28) le_rfl).trans (by simp)

theorem checkNibble_withCheck (w : Word) : checkNibble (withCheck w) = checkNibble w := by
  simp only [checkNibble]
  rw [withCheck_extract, withCheck_extract, withCheck_extract, withCheck_extract, withCheck_extract,
    withCheck_extract, withCheck_extract] <;> omega

/-- The nibbles of a word with its check nibble add up to 0. -/
theorem nibbleSum_withCheck (w : Word) : nibbleSum (withCheck w) = 0 := by
  rw [nibbleSum, withCheck_top, checkNibble_withCheck, BitVec.xor_self]
  rfl

theorem nibbleSum_setpointWord (effort : Nat) (t : Tag) : nibbleSum (setpointWord effort t) = 0 :=
  nibbleSum_withCheck _

theorem nibbleSum_modeWord (m : ModeRecord) (t : Tag) : nibbleSum (modeWord m t) = 0 := nibbleSum_withCheck _

theorem nibbleSum_voidWord : nibbleSum voidWord = 0 := nibbleSum_setpointWord ..

/-! ### The fields (12.1) -/

/-- The lowest part of an appended word. -/
theorem append_field_here {v n : Nat} (x : BitVec v) (y : BitVec n) : (x ++ y).extractLsb' 0 n = y :=
  (BitVec.extractLsb'_append_eq_of_add_le (by omega)).trans BitVec.extractLsb'_eq_self

/-- A field above the lowest part of an appended word. -/
theorem append_field_above {v w lo n : Nat} {x : BitVec v} (y : BitVec w) {z : BitVec n} (h : w ≤ lo)
    (hx : x.extractLsb' (lo - w) n = z) : (x ++ y).extractLsb' lo n = z :=
  (BitVec.extractLsb'_append_eq_of_le h).trans hx

/-- The sand bit of a MODE word as a field of one bit. -/
theorem modeWord_sand (m : ModeRecord) (t : Tag) : (modeWord m t).extractLsb' 20 1 = BitVec.ofBool m.sand :=
  (withCheck_extract (by decide)).trans
    (append_field_above _ (by decide) (append_field_above _ (by decide) (append_field_above _ (by decide)
      (append_field_here ..))))

theorem modeWord_getLsbD_sand (m : ModeRecord) (t : Tag) : (modeWord m t).getLsbD 20 = m.sand := by
  have bit := congrArg (BitVec.getLsbD · 0) (modeWord_sand m t)
  simpa using bit

/-! ### The obligation -/

/-- Settles O39: each field is read out of the appended parts, above which the check nibble stands. -/
theorem formedWordsCarryTheirCheck : Obligations.FormedWordsCarryTheirCheck := by
  refine ⟨fun effort t => ⟨nibbleSum_setpointWord effort t, ?effort, ?setpointTag, ?zero⟩,
    fun m t => ⟨nibbleSum_modeWord m t, ?regime, ?direction, ?rail, modeWord_getLsbD_sand m t, ?modeTag, ?gradient,
      ?mass⟩, nibbleSum_voidWord, by decide, by decide⟩
  all_goals refine (withCheck_extract (by decide)).trans ?_
  case effort | mass => exact append_field_here ..
  case setpointTag | gradient => exact append_field_above _ (by decide) (append_field_here ..)
  case zero =>
    refine append_field_above _ (by decide) (append_field_above _ (by decide) ?_)
    decide
  case modeTag => exact append_field_above _ (by decide) (append_field_above _ (by decide) (append_field_here ..))
  all_goals
    refine append_field_above _ (by decide) (append_field_above _ (by decide) (append_field_above _ (by decide)
      (append_field_above _ (by decide) ?_)))
  case rail => exact append_field_here ..
  case direction => exact append_field_above _ (by decide) (append_field_here ..)
  case regime => exact append_field_above _ (by decide) (append_field_above _ (by decide) (append_field_here ..))

end Sys2Proof.Machine
end

section
/-! PROOF support. What a step can do, said once: the move a command or the time base makes before what follows every
command, so that a property that every move and `finish` keep is kept by every step. -/

namespace Sys2Proof.Machine

/-! ### The moves of a step -/

/-- What a command, or a microsecond with none waiting, does before what follows every command. -/
inductive Moves (s : State) : State → Prop where
  | reset (x : RestartCause) (pins : Pins) : Moves s (resetPart x { s with pins := pins })
  | startUp (straps : BitVec 2) : Moves s (startUp straps s)
  | arrives (t : HostTxn) : Moves s (hostArrive t s)
  | publishEnds (ok : Bool) : Moves s (completion .publish (s.onPort .publish) (publishWordEnd ok) s)
  | passEnds (ours : Bool) (r : MemEnd) : Moves s (completion .passThrough ours (passEnd r) s)
  | writebackLands : Moves s (completion .queue (s.onPort .queue) writebackDone s)
  | writebackFails : Moves s (completion .queue (s.onPort .queue) writebackFailed s)
  | portTimesOut : Moves s (portTimeout s)
  | fetchExpires : Moves s (onExpiry s.ip.fetchTimer fetchEnd s)
  | fetchReads (r : MemEnd) : Moves s (completion .fetcher (s.onPort .fetcher) (fetchRead r) s)
  | refreshExpires (c : IntentRole) : Moves s (onExpiry (s.intent.refreshTimer c) (refreshEnd c) s)
  | edge (i : Axle) (ph : Phase) (rising : Bool) (stamp : Nat) : Moves s (edge i ph rising stamp s)
  | standstillExpires (i : Axle) : Moves s (onExpiry (s.axle.channels.get i).standstill (standstillEnd i) s)
  | periodExpires : Moves s (onExpiry s.ev.period periodEnd s)
  | evaluationCompletes (order : Fin 24) : Moves s (completeEvaluation order s)
  | excursionExpires (i : Axle) : Moves s (onExpiry (s.ev.timers.get i) (excursionEnd i) s)
  | holdExpires : Moves s (onExpiry s.ref.hold holdEnd s)
  | lagExpires (m : Motor) : Moves s (onExpiry (s.blend.lag.get m) (lagEnd m) s)
  | probeExpires (m : Motor) : Moves s (onExpiry (s.blend.probe.get m) (probeEnd m) s)
  | deficitExpires : Moves s (onExpiry s.blend.deficitTimer deficitEnd s)
  | pulseExpires (i : SanderId) : Moves s (onExpiry (s.sand.sanders.get i).pulse (pulseEnd i) s)
  | levelLow (i : SanderId) : Moves s (levelLow i (setLevel i false s))
  | levelHigh (i : SanderId) : Moves s (levelHigh i (setLevel i true s))
  | levelExpires (i : SanderId) : Moves s (onExpiry (s.sand.sanders.get i).level (levelFull i) s)
  | supply (decivolts : Nat) : Moves s (supplySample decivolts (setSupply decivolts s))
  | byte (b : FrameByte) : Moves s (receiveByte b s)
  | framing : Moves s (framingError s)
  | idleLimit : Moves s (idleLimit s)
  | silenceExpires : Moves s (onExpiry s.chain.silence silenceEnd s)
  | transmits : Moves s (onExpiry s.chain.transmit transmit s)
  | settles : Moves s (onExpiry s.ctl.settle settleEnd s)
  | reportExpires : Moves s (onExpiry s.rw.timer reportEnd s)
  | reportWordEnds (ok : Bool) : Moves s (completion .report (s.onPort .report) (reportWordEnd ok) s)
  | tick : Moves s (tick s)

/-- Every command makes one move, and then what follows every command. -/
theorem exec_moves (c : Instr) (s : State) : ∃ t, exec c s = .next (finish t) ∧ Moves s t := by
  cases c with
  | powerOn => exact ⟨_, rfl, .reset .power s.pins⟩
  | resetLineAsserted => exact ⟨_, rfl, .reset .line _⟩
  | resetReleased straps => exact ⟨_, rfl, .startUp straps⟩
  | publishWordCompletion r => exact ⟨_, rfl, .publishEnds _⟩
  | tractionOrBrakeWrite | modeWrite | partialWriteRefused | guardedWriteRefused | hostTransactionForwarded | hostRead
  | hostTransactionHeld | busWake | configPageWrite => exact ⟨_, rfl, .arrives _⟩
  | forwardedCompletion r => exact ⟨_, rfl, .passEnds _ r⟩
  | configWriteTaken | goActive | goSetup | restart | standby | commandBadValue | causeClear | attentionMaskWrite
  | intentTuningWrite | correctionFloorWrite | ceilingFloorWrite | sanderTuningWrite | channelStructureWrite =>
    exact ⟨_, rfl, .passEnds _ (.done 0)⟩
  | writebackDone => exact ⟨_, rfl, .writebackLands⟩
  | writebackFailed => exact ⟨_, rfl, .writebackFails⟩
  | memoryPortTimeout => exact ⟨_, rfl, .portTimesOut⟩
  | fetcherTimerExpiry => exact ⟨_, rfl, .fetchExpires⟩
  | fetchReadCompletion r => exact ⟨_, rfl, .fetchReads r⟩
  | refreshTimerExpiry c => exact ⟨_, rfl, .refreshExpires c⟩
  | countedEdge i rising stamp => exact ⟨_, rfl, .edge i .p rising stamp⟩
  | uncountedPhaseEdge i ph rising stamp => exact ⟨_, rfl, .edge i ph rising stamp⟩
  | standstillTimerExpiry i => exact ⟨_, rfl, .standstillExpires i⟩
  | controlPeriodExpiry => exact ⟨_, rfl, .periodExpires⟩
  | evaluationCompletion order => exact ⟨_, rfl, .evaluationCompletes order⟩
  | excursionTimerExpiry i => exact ⟨_, rfl, .excursionExpires i⟩
  | holdTimerExpiry => exact ⟨_, rfl, .holdExpires⟩
  | lagTimerExpiry m => exact ⟨_, rfl, .lagExpires m⟩
  | probeTimerExpiry m => exact ⟨_, rfl, .probeExpires m⟩
  | deficitTimerExpiry => exact ⟨_, rfl, .deficitExpires⟩
  | pulseTimerExpiry i => exact ⟨_, rfl, .pulseExpires i⟩
  | sandLevelLow i => exact ⟨_, rfl, .levelLow i⟩
  | sandLevelHigh i => exact ⟨_, rfl, .levelHigh i⟩
  | levelTimerExpiry i => exact ⟨_, rfl, .levelExpires i⟩
  | supplyLow v | supplyGood v => exact ⟨_, rfl, .supply v⟩
  | chainFrameComplete b | receivedByte b => exact ⟨_, rfl, .byte b⟩
  | chainFramingError => exact ⟨_, rfl, .framing⟩
  | chainIncomplete => exact ⟨_, rfl, .idleLimit⟩
  | silenceTimerExpiry => exact ⟨_, rfl, .silenceExpires⟩
  | transmitStart => exact ⟨_, rfl, .transmits⟩
  | settleTimerExpiry => exact ⟨_, rfl, .settles⟩
  | reportTimerExpiry => exact ⟨_, rfl, .reportExpires⟩
  | reportWordCompletion r => exact ⟨_, rfl, .reportWordEnds _⟩

/-- A step makes one move, from a state that differs in the waiting commands and the draw count alone. -/
theorem step_moves (s : State) :
    ∃ pending draws t, step s = .next (finish t) ∧ Moves { s with pending := pending, draws := draws } t := by
  cases hp : s.pending with
  | cons c rest =>
    obtain ⟨t, ht, moves⟩ := exec_moves c { s with pending := rest }
    exact ⟨rest, s.draws, t, by simpa only [step, hp] using ht, moves⟩
  | nil =>
    rw [step_of_no_pending hp]
    cases hd : s.due with
    | some c =>
      obtain ⟨t, ht, moves⟩ := exec_moves c { s with draws := s.draws + 1 }
      exact ⟨s.pending, s.draws + 1, t, by rw [idle_of_due hd, ht], moves⟩
    | none => exact ⟨s.pending, s.draws, _, idle_of_not_due hd, .tick⟩

/-- What every move and every `finish` keep, whatever commands wait, every step keeps. -/
theorem step_keeps {P : State → Prop}
    (queue : ∀ (s : State) (pending : List Instr) (draws : Nat), P s → P { s with pending := pending, draws := draws })
    (move : ∀ {s t : State}, P s → Moves s t → P t) (follows : ∀ {s : State}, P s → P (finish s)) {s t : State}
    (h : P s) (hs : step s = .next t) : P t := by
  obtain ⟨pending, draws, u, hu, moves⟩ := step_moves s
  cases hu.symm.trans hs
  exact follows (move (queue s pending draws h) moves)

/-! ### Shared shapes of the moves -/

/-- A completion keeps what its effect keeps, where the record of the memory's answers has no part in it. -/
theorem completion_keeps_of {P : State → Prop} (memory : ∀ {s : State} (a : MemoryAnswers), P s → P { s with memory := a })
    {c : Claimant} {ours : Bool} {f : State → State} {s : State} (effect : ∀ a, ours = true → P (f { s with memory := a }))
    (h : P s) : P (completion c ours f s) := by
  obtain ⟨hours, hf | hf⟩ | ⟨a, ha⟩ := completion_cases c ours f s
  · rw [hf]; exact effect s.memory hours
  · rw [hf]; exact effect _ hours
  · rw [ha]; exact memory a h

/-- An expiry keeps what its action keeps at the timer's instant. -/
theorem onExpiry_keeps {P : State → Prop} {timer : Timer} {f : State → State} {s : State}
    (action : ∀ d, timer = some d → P (f { s with now := max s.now d })) (h : P s) : P (onExpiry timer f s) := by
  cases timer with
  | none => exact h
  | some d => exact action d rfl

/-- A sample of an axle keeps what setting a channel and an edge keep. -/
theorem sampleAxle_keeps {P : State → Prop} (channel : ∀ i c {s}, P s → P (setChannel i c s))
    (edge : ∀ i ph rising stamp {s}, P s → P (edge i ph rising stamp s)) (i : Axle) {s : State} (h : P s) :
    P (sampleAxle i s) := by
  have phase (ph : Phase) {x : State} (hx : P x) : P (samplePhase i ph x) := by
    simp only [samplePhase]
    split
    · exact channel _ _ hx
    · split
      · exact edge _ _ _ _ hx
      · exact channel _ _ hx
  simp only [sampleAxle]
  split
  · exact h
  · split
    · exact channel _ _ h
    · exact phase .p (phase .q h)

/-- A sample of the chain input keeps what a new receiver, a byte and a framing error keep. -/
theorem sampleChain_keeps {P : State → Prop} {s : State} (bits : ∀ r, P { s with chain := { s.chain with bits := r } })
    (byte : ∀ b {x}, P x → P (receiveByte b x)) (framing : ∀ {x}, P x → P (framingError x)) (h : P s) :
    P (sampleChain s) := by
  cases hr : s.receives with
  | false => rwa [sampleChain_of_not_receives hr]
  | true =>
    rw [sampleChain_of_sample hr Prod.mk.eta.symm]
    split
    · exact bits _
    · exact byte _ (bits _)
    · exact framing (bits _)

/-- A microsecond keeps what its samples keep. -/
theorem tick_keeps {P : State → Prop} (time : ∀ s, P s → P (endSending { s with now := s.now + 1 }))
    (axle : ∀ i {s}, P s → P (sampleAxle i s)) (chain : ∀ {s}, P s → P (sampleChain s))
    (low : ∀ i {s}, P s → P (levelLow i s)) (high : ∀ i {s}, P s → P (levelHigh i s))
    (supply : ∀ v {s}, P s → P (supplySample v s)) {s : State} (h : P s) : P (tick s) := by
  have level (i : SanderId) {x : State} (hx : P x) : P (sampleLevel i x) := by
    simp only [sampleLevel]
    split
    · exact high i hx
    · exact low i hx
  have sampled := chain (axle .b2 (axle .b1 (axle .t2 (axle .t1 (axle .a2 (axle .a1 (time s h)))))))
  simp only [tick, sampleSlow]
  split
  · exact supply _ (level .s4 (level .s3 (level .s2 (level .s1 sampled))))
  · exact sampled

end Sys2Proof.Machine
end

section
/-! PROOF of `Obligations.EveryStepKeepsTheQueueSound`: every operation that hands words, grants the port or ends a
write keeps queued addresses distinct and queued words checked. -/

namespace Sys2Proof.Machine

/-! ### The sound interposer (R16, R33) -/

/-- Queued addresses are distinct, and the words queued and in flight carry their check nibble. -/
structure Interposer.Sound (ip : Interposer) : Prop where
  distinct : (ip.queue.map (·.addr)).Nodup
  queued : ∀ e ∈ ip.queue, nibbleSum e.word = 0
  flying : ∀ f, ip.inflight = some f → nibbleSum f.entry.word = 0

theorem sound_iff (s : State) : s.ip.Sound ↔ s.queueDistinct ∧ s.queueChecked :=
  ⟨fun h => ⟨h.distinct, h.queued, h.flying⟩, fun ⟨distinct, queued, flying⟩ => ⟨distinct, queued, flying⟩⟩

/-- Soundness is of the queue and the in-flight slot alone. -/
theorem Interposer.Sound.of_eq {ip ip' : Interposer} (h : ip.Sound) (queue : ip'.queue = ip.queue)
    (inflight : ip'.inflight = ip.inflight) : ip'.Sound :=
  ⟨by rw [queue]; exact h.distinct, by rw [queue]; exact h.queued, by rw [inflight]; exact h.flying⟩

/-! ### Handing words (R18, R34) -/

theorem Interposer.Sound.enqueue {ip : Interposer} (h : ip.Sound) (r : Role) (a : Addr) {w : Word}
    (hw : nibbleSum w = 0) : (ip.enqueue r a w).Sound := by
  refine ⟨Interposer.enqueue_nodup h.distinct r a w, fun e he => ?_, by simpa using h.flying⟩
  simp only [Interposer.enqueue] at he
  split at he
  · obtain ⟨e', he', rfl⟩ := List.mem_map.1 he
    split
    · exact hw
    · exact h.queued e' he'
  · rcases List.mem_append.1 he with old | new
    · exact h.queued e old
    · rw [List.mem_singleton.1 new]; exact hw

variable {s : State}

theorem hand_sound (h : s.ip.Sound) (r : Role) {w : Word} (hw : nibbleSum w = 0) : (hand r w s).ip.Sound := by
  simp only [hand]
  split
  · exact h.enqueue r _ hw
  · exact h

theorem nibbleSum_tractionWord (s : State) (m : Motor) : nibbleSum (s.tractionWord m) = 0 := by
  simp only [State.tractionWord]
  split
  · exact nibbleSum_voidWord
  · exact nibbleSum_setpointWord ..

theorem nibbleSum_outputWord (s : State) (w : Walk) (x : Source) : nibbleSum (s.outputWord w x) = 0 := by
  simp only [State.outputWord]
  split
  · exact nibbleSum_voidWord
  · exact nibbleSum_setpointWord ..

theorem nibbleSum_sweptWord (isolated : Bool) : nibbleSum (sweptWord isolated) = 0 := by
  cases isolated
  · exact nibbleSum_setpointWord ..
  · exact nibbleSum_voidWord

@[simp] theorem claim_sound (h : s.ip.Sound) (evaluation : Bool) (m : Motor) : (claim evaluation m s).ip.Sound :=
  hand_sound h _ (nibbleSum_tractionWord ..)

@[simp] theorem claimBoth_sound (h : s.ip.Sound) (evaluation : Bool) : (claimBoth evaluation s).ip.Sound :=
  claim_sound (claim_sound h ..) ..

@[simp] theorem handMode_sound (h : s.ip.Sound) : (handMode s).ip.Sound := hand_sound h _ (nibbleSum_modeWord ..)

@[simp] theorem initialSweep_sound (h : s.ip.Sound) : (initialSweep s).ip.Sound := by
  have output {x : State} (hx : x.ip.Sound) (o : Source) : (sweepOutput o x).ip.Sound :=
    hand_sound hx _ (nibbleSum_sweptWord _)
  have swept := hand_sound (hand_sound h (.intent .tractionA) (nibbleSum_sweptWord s.cfg.str.driveIsolated.a))
    (.intent .tractionB) (nibbleSum_sweptWord s.cfg.str.driveIsolated.b)
  have words := hand_sound (hand_sound swept (.intent .brake) (nibbleSum_setpointWord 0 .default)) .mode
    (nibbleSum_modeWord ModeRecord.default .default)
  exact output (output (output (output (output words .edA) .edB) .frA) .frT) .frB

theorem handBrake_sound (h : s.ip.Sound) (applied : Nat) : (handBrake applied s).ip.Sound := by
  unfold handBrake
  exact hand_sound h _ (nibbleSum_setpointWord ..)

theorem handRun_sound (h : s.ip.Sound) (before : State) (w : Walk) : (handRun before w s).ip.Sound := by
  have output {x : State} (hx : x.ip.Sound) (o : Source) :
      (hand (.output o) (before.outputWord w o) x).ip.Sound := hand_sound hx _ (nibbleSum_outputWord ..)
  unfold handRun
  simp only []
  exact output (output (output (output (output (handBrake_sound h _) .edA) .edB) .frA) .frT) .frB

@[simp] theorem run_sound (h : s.ip.Sound) (evaluation returning : Bool) : (run evaluation returning s).ip.Sound := by
  rw [(run_handed evaluation returning s).2]
  refine handRun_sound ?_ ..
  exact h

@[simp] theorem runServing_sound (h : s.ip.Sound) : (runServing s).ip.Sound := by
  simp only [runServing]
  split
  · exact run_sound h ..
  · exact h

@[simp] theorem rewords_sound (h : s.ip.Sound) (returning : Bool) : (rewords returning s).ip.Sound :=
  run_sound (handMode_sound (claimBoth_sound h _)) ..

@[simp] theorem deliverCause_sound (h : s.ip.Sound) (x : FallbackCause) : (deliverCause x s).ip.Sound := by
  simp only [deliverCause]
  split
  · exact rewords_sound (by simpa using h) _
  all_goals exact h

@[simp] theorem ceilingPass_sound (h : s.ip.Sound) (e : Evaluation) : (ceilingPass e s).ip.Sound := by
  simp only [ceilingPass]
  (repeat' split) <;> simp [h]

/-! ### The port (R35, R41) -/

theorem grantQueue_sound (h : s.ip.Sound) : (grantQueue s).ip.Sound := by
  simp only [grantQueue]
  split
  · exact h
  · rename_i e rest hq
    have hd := h.distinct
    rw [hq, List.map_cons, List.nodup_cons] at hd
    refine ⟨hd.2, fun x hx => h.queued x (by simp [hq, hx]), ?_⟩
    rintro f ⟨⟩
    exact h.queued e (by simp [hq])

theorem arbitrate_sound (h : s.ip.Sound) : (arbitrate s).ip.Sound := by
  simp only [arbitrate]
  split
  · rename_i c _ _
    cases c with
    | queue => exact grantQueue_sound h
    | publish => exact h.of_eq rfl rfl
    | passThrough => simp only [grant, grantHost]; split <;> exact h.of_eq rfl rfl
    | fetcher => simp only [grant, grantFetch]; split <;> exact h.of_eq rfl rfl
    | report => simp only [grant, grantReport]; split <;> exact h.of_eq rfl rfl
  · exact h

theorem finish_sound (h : s.ip.Sound) : (finish s).ip.Sound :=
  arbitrate_sound (s := releaseHolds s) (h.of_eq rfl rfl)

@[simp] theorem landFlight_sound (h : s.ip.Sound) : (landFlight s).ip.Sound := ⟨h.distinct, h.queued, nofun⟩

@[simp] theorem freePort_sound (h : s.ip.Sound) : (freePort s).ip.Sound := h.of_eq rfl rfl

@[simp] theorem reply_sound (h : s.ip.Sound) (ok : Bool) (d : Word) : (reply ok d s).ip.Sound := h.of_eq rfl rfl

@[simp] theorem refuse_sound (h : s.ip.Sound) (c : Cause) : (refuse c s).ip.Sound := h.of_eq rfl rfl

@[simp] theorem occupy_sound (h : s.ip.Sound) (t : HostTxn) (w : HostWait) (page : Option (BitVec 8)) :
    (occupy t w page s).ip.Sound := h.of_eq rfl rfl

@[simp] theorem fetchStart_sound (h : s.ip.Sound) : (fetchStart s).ip.Sound := h.of_eq rfl rfl

@[simp] theorem fetchStop_sound (h : s.ip.Sound) : (fetchStop s).ip.Sound := h.of_eq rfl rfl

@[simp] theorem fetchEnd_sound (h : s.ip.Sound) : (fetchEnd s).ip.Sound := h.of_eq rfl rfl

@[simp] theorem copyWindows_sound (h : s.ip.Sound) : (copyWindows s).ip.Sound := h.of_eq rfl rfl

@[simp] theorem queueDiscard_sound (h : s.ip.Sound) : (queueDiscard s).ip.Sound := by
  refine ⟨List.nodup_nil, nofun, fun f hf => ?_⟩
  obtain ⟨f', hf', rfl⟩ := Option.map_eq_some_iff.1 hf
  exact h.flying f' hf'

/-- An entry is abandoned out of a landed flight. -/
theorem abandonEntry_sound (h : s.ip.Sound) (e : QueueEntry) : (abandonEntry e s).ip.Sound := by
  have kept : ({ s.ip with lastAbandoned := some e.origin } : Interposer).Sound := h.of_eq rfl rfl
  simp only [abandonEntry]
  apply deliverCause_sound
  simpa using kept

/-- A failed entry goes back to the queue only where none is queued for its address (R37). -/
theorem writebackFailed_sound (h : s.ip.Sound) : (writebackFailed s).ip.Sound := by
  simp only [writebackFailed]
  split
  · exact freePort_sound h
  · rename_i f hf
    have landed := landFlight_sound h
    split
    · exact landed
    · split
      · exact abandonEntry_sound landed _
      · split
        · simpa using landed
        · rename_i none_queued
          have new : f.entry.addr ∉ s.ip.queue.map (·.addr) := by simpa using none_queued
          refine ⟨List.nodup_cons.2 ⟨new, h.distinct⟩, fun e he => ?_, nofun⟩
          rcases List.mem_cons.1 he with rfl | queued
          · exact h.flying f hf
          · exact h.queued e queued

/-! ### Commands (R174 to R182) -/

theorem enterActive_sound (h : s.ip.Sound) : (enterActive s).ip.Sound := by
  have prepared : (startRefresh (restartHold (sandEnterActive (fetchStart (chainEnterActive (allocatorEnterActive
      (referenceModeTaken .neutral (prepareRecords (copyWindows
        (withCtl (fun c => { c with part := .active, causes := {}, validation := none }) s)))))))))).ip.Sound := by
    rw [startRefresh_ip, restartHold_ip, sandEnterActive_ip]
    exact fetchStart_sound (copyWindows_sound (by simpa using h))
  have ran := run_sound (initialSweep_sound prepared) false false
  simp only [enterActive, reportLost]
  split
  · refine deliverCause_sound ?_ _
    exact ran
  · exact ran

theorem takeCommand_sound (h : s.ip.Sound) (w : Word) : (takeCommand w s).ip.Sound := by
  simp only [takeCommand]
  split
  · simp only [takeGoActive, goActiveSetup, goActiveFallback]
    (repeat' split)
    · exact h
    · exact h
    · refine enterActive_sound ?_
      exact h
    · refine rewords_sound ?_ _
      exact h
    · exact h
    · exact h
  · simp only [takeGoSetup, enterSetupByCommand]
    (repeat' split) <;> simp [h]
  · simp [takeRestart, h]
  · simp only [takeStandby, enterStandby]
    (repeat' split) <;> simp [h]
  · simp [h]

theorem endWaking_sound (h : s.ip.Sound) : (endWaking s).ip.Sound := by
  have woken : (restartHold (slipWake (axleWake (withCtl Controller.woken s)))).ip.Sound := h
  simp only [endWaking, wakeServing, wakeSetup, reportStart_ip]
  (repeat' split)
  · exact rewords_sound (by simp [h]) _
  · exact run_sound (by simp [h]) ..
  · simpa using h

/-! ### Host transactions and page writes (R4, R5, R24 to R29, R174) -/

theorem modeTaken_sound (h : s.ip.Sound) (order : Fin 120) (before : Direction) :
    (modeTaken order before s).ip.Sound := by
  refine deliver_induct (fun x => x.ip.Sound) _ (fun f hf x hx => ?_) s h
  have block := (permuted_perm order.val (modeDeliveries before)).mem_iff.1 hf
  simp only [modeDeliveries, List.mem_cons, List.not_mem_nil, or_false] at block
  rcases block with rfl | rfl | rfl | rfl | rfl <;> simp [hx]

theorem effortWrite_sound (h : s.ip.Sound) (r : EffortRole) (w : Word) : (effortWrite r w s).ip.Sound := by
  cases r <;> simp [effortWrite, h]

theorem modeWrite_sound (h : s.ip.Sound) (w : Word) (order : Fin 120) : (modeWrite w order s).ip.Sound := by
  simp only [modeWrite]
  split
  · simp [h]
  · exact reply_sound (modeTaken_sound (by simpa using h) ..) ..

theorem decodeTxn_sound (h : s.ip.Sound) (t : HostTxn) : (decodeTxn t s).ip.Sound := by
  simp only [decodeTxn, pageWrite, windowWrite, intentWrite]
  (repeat' split) <;> simp [h, effortWrite_sound, modeWrite_sound]

theorem hostArrive_sound (h : s.ip.Sound) (t : HostTxn) : (hostArrive t s).ip.Sound := by
  simp only [hostArrive]
  (repeat' split) <;> simp [h, decodeTxn_sound]

theorem serveHeld_sound (h : s.ip.Sound) : (serveHeld s).ip.Sound := by
  simp only [serveHeld]
  (repeat' split)
  · refine decodeTxn_sound ?_ _
    exact h.of_eq rfl rfl
  · exact h
  · exact h

theorem tuningActs_sound (h : s.ip.Sound) (off : Nat) (old : TuningConfig) : (tuningActs off old s).ip.Sound := by
  have limits (r : EffortRole) : (limitsChanged r s).ip.Sound := by
    cases r <;> simp only [limitsChanged] <;> (repeat' split) <;> simp [h]
  simp only [tuningActs]
  (repeat' split) <;> simp [h, limits]

theorem takePage_sound (h : s.ip.Sound) (off : BitVec 8) (w : Word) : (takePage off w s).ip.Sound := by
  simp only [takePage, causeClear, setMask, takeStructure, takeTuning]
  (repeat' split) <;> simp [h, takeCommand_sound, tuningActs_sound]

theorem passEnd_sound (h : s.ip.Sound) (r : MemEnd) : (passEnd r s).ip.Sound := by
  simp only [passEnd]
  (repeat' split)
  · exact freePort_sound h
  · simp [h]
  · exact takePage_sound (reply_sound (freePort_sound h) ..) ..
  · exact reply_sound (freePort_sound h) ..

theorem fetchRead_sound (h : s.ip.Sound) (r : MemEnd) : (fetchRead r s).ip.Sound := by
  simp only [fetchRead, feedbackDelivery]
  (repeat' split)
  · exact h.of_eq rfl rfl
  · exact h.of_eq rfl rfl
  · exact runServing_sound (h.of_eq rfl rfl)
  · exact h.of_eq rfl rfl

theorem publishWordEnd_sound (h : s.ip.Sound) (ok : Bool) : (publishWordEnd ok s).ip.Sound := by
  have ended : (publishEnd ok s).ip.Sound := by
    have freed : ({ s.ip with port := none } : Interposer).Sound := h.of_eq rfl rfl
    simp only [publishEnd, enterSetup]
    (repeat' split) <;> simpa using freed
  simp only [publishWordEnd]
  split
  · exact serveHeld_sound ended
  · exact ended

theorem reportWordEnd_sound (h : s.ip.Sound) (ok : Bool) : (reportWordEnd ok s).ip.Sound := by
  simp [reportWordEnd, h]

theorem portTimeout_sound (h : s.ip.Sound) : (portTimeout s).ip.Sound := by
  simp only [portTimeout]
  split
  · exact h
  · split
    · refine publishWordEnd_sound ?_ _; exact h
    · refine passEnd_sound ?_ _; exact h
    · refine writebackFailed_sound ?_; exact h
    · refine fetchRead_sound ?_ _; exact h
    · refine reportWordEnd_sound ?_ _; exact h

/-! ### Expiries and samples -/

theorem refreshEnd_sound (h : s.ip.Sound) (c : IntentRole) : (refreshEnd c s).ip.Sound := by
  rcases c with (_ | _ | _) | _
  · simp [refreshEnd, h]
  · simp [refreshEnd, h]
  · simp [refreshEnd, h]
  · refine deliverCause_sound (handMode_sound ?_) _
    exact h

theorem holdEnd_sound (h : s.ip.Sound) : (holdEnd s).ip.Sound := by
  refine deliverCause_sound ?_ _
  exact h

theorem lagEnd_sound (h : s.ip.Sound) (m : Motor) : (lagEnd m s).ip.Sound := by
  refine runServing_sound ?_
  exact h

theorem probeEnd_sound (h : s.ip.Sound) (m : Motor) : (probeEnd m s).ip.Sound := by
  refine runServing_sound ?_
  exact h

theorem deficitEnd_sound (h : s.ip.Sound) : (deficitEnd s).ip.Sound := by
  refine runServing_sound ?_
  exact h

theorem completeEvaluation_sound (h : s.ip.Sound) (order : Fin 24) : (completeEvaluation order s).ip.Sound := by
  simp only [completeEvaluation]
  split
  · exact h
  · rename_i e _
    split
    · refine deliver_induct (fun x => x.ip.Sound) _ (fun f hf x hx => ?_) _ (by simpa using h)
      have block := (permuted_perm order.val (completionDeliveries e)).mem_iff.1 hf
      simp only [completionDeliveries, List.mem_cons, List.not_mem_nil, or_false] at block
      rcases block with rfl | rfl | rfl | rfl <;> simp [hx, evaluationRun]
    · simpa using h

theorem edge_sound (h : s.ip.Sound) (i : Axle) (ph : Phase) (rising : Bool) (stamp : Nat) :
    (edge i ph rising stamp s).ip.Sound := by
  simp only [edge]
  split <;> simp [h]

theorem tick_sound (h : s.ip.Sound) : (tick s).ip.Sound := by
  refine tick_keeps (P := fun x => x.ip.Sound) (fun x hx => hx) ?_ ?_ (fun i x hx => ?_) (fun i x hx => ?_)
    (fun v x hx => ?_) h
  · exact fun i x hx => sampleAxle_keeps (P := fun x => x.ip.Sound) (fun _ _ _ hx => hx)
      (fun i ph rising stamp _ hx => edge_sound hx ..) i hx
  · exact fun hx => sampleChain_keeps (P := fun x => x.ip.Sound) (fun _ => hx) (fun b _ hx => by simpa using hx)
      (fun hx => by simpa using hx) hx
  all_goals simpa using hx

/-! ### The obligation -/

/-- Every move keeps the interposer sound. -/
theorem moves_sound {t : State} (h : s.ip.Sound) (moves : Moves s t) : t.ip.Sound := by
  have ends {c : Claimant} {ours : Bool} {f : State → State} (hf : ∀ {x : State}, x.ip.Sound → (f x).ip.Sound) :
      (completion c ours f s).ip.Sound :=
    completion_keeps_of (P := fun x => x.ip.Sound) (fun _ hx => hx) (fun _ _ => hf h) h
  have expires {timer : Timer} {f : State → State} (hf : ∀ {x : State}, x.ip.Sound → (f x).ip.Sound) :
      (onExpiry timer f s).ip.Sound :=
    onExpiry_keeps (P := fun x => x.ip.Sound) (fun _ _ => hf h) h
  cases moves with
  | reset x pins => exact ⟨List.nodup_nil, nofun, nofun⟩
  | startUp straps => simp only [startUp]; split <;> exact h
  | arrives t => exact hostArrive_sound h t
  | publishEnds ok => exact ends (publishWordEnd_sound · ok)
  | passEnds ours r => exact ends (passEnd_sound · r)
  | writebackLands => exact ends landFlight_sound
  | writebackFails => exact ends writebackFailed_sound
  | portTimesOut => exact portTimeout_sound h
  | fetchExpires => exact expires fetchEnd_sound
  | fetchReads r => exact ends (fetchRead_sound · r)
  | refreshExpires c => exact expires (refreshEnd_sound · c)
  | edge i ph rising stamp => exact edge_sound h ..
  | evaluationCompletes order => exact completeEvaluation_sound h order
  | holdExpires => exact expires holdEnd_sound
  | lagExpires m => exact expires (lagEnd_sound · m)
  | probeExpires m => exact expires (probeEnd_sound · m)
  | deficitExpires => exact expires deficitEnd_sound
  | levelLow | levelHigh | supply | byte | framing => simpa using h
  | settles => exact expires fun hx => serveHeld_sound (endWaking_sound hx)
  | idleLimit => exact expires fun hx => by simpa using hx
  | reportWordEnds ok => exact ends (reportWordEnd_sound · ok)
  | tick => exact tick_sound h
  | standstillExpires | periodExpires | excursionExpires | pulseExpires | levelExpires | silenceExpires | transmits
  | reportExpires => exact expires fun hx => by simpa using hx

/-- Settles O57: the sound interposer is kept by every move of a step and by what follows every command. -/
theorem everyStepKeepsTheQueueSound : Obligations.EveryStepKeepsTheQueueSound := by
  intro s t distinct checked hs
  refine (sound_iff t).1 ?_
  exact step_keeps (P := fun x => x.ip.Sound) (fun _ _ _ h => h) moves_sound finish_sound
    ((sound_iff s).2 ⟨distinct, checked⟩) hs

end Sys2Proof.Machine
end

section
/-! PROOF of `Obligations.ClaimsMoveHeldTraction`: the target of a claim, the held traction a claim leaves, and what it
leaves alone. -/

namespace Sys2Proof.Machine

/-! ### What a claim does (R11) -/

@[simp] theorem claim_held (evaluation : Bool) (m : Motor) (s : State) :
    (claim evaluation m s).intent.held = s.intent.held.set m (s.claimed evaluation m) := by
  simp [claim]

/-- A claim changes the held traction and hands a word. -/
theorem claim_eq (evaluation : Bool) (m : Motor) (s : State) :
    claim evaluation m s
      = { s with intent := (claim evaluation m s).intent, ip := (claim evaluation m s).ip } := rfl

/-- Of the intent table, a claim changes the held traction and the last handed word alone. -/
theorem claim_intent_eq (evaluation : Bool) (m : Motor) (s : State) :
    (claim evaluation m s).intent
      = { s.intent with
          held := (claim evaluation m s).intent.held, handed := (claim evaluation m s).intent.handed } :=
  IntentTable.ext (by simp) (by simp) (by simp) (by simp) rfl rfl (by simp)

/-! ### The target (R10) -/

theorem target_eq_zero {s : State} {m : Motor}
    (h : s.intent.accepted.regime ≠ .traction ∨ s.intent.accepted.direction = .neutral ∨ s.ctl.part = .fallback
      ∨ s.cfg.str.driveIsolated.get m = true) : s.target m = 0 := by
  refine if_neg fun ⟨traction, direction, part, isolated⟩ => ?_
  rcases h with h | h | h | h
  · exact h traction
  · exact direction h
  · exact part h
  · rw [h] at isolated; cases isolated

theorem target_le_scaled (s : State) (m : Motor) :
    s.target m ≤ min (s.intent.value m.role) (s.ceilingEffort m) * (s.ev.bogies.get m.bogie).c / 1000 := by
  simp only [State.target]
  split
  · exact le_rfl
  · exact Nat.zero_le _

theorem target_le_value {s : State} {m : Motor} (h : (s.ev.bogies.get m.bogie).c ≤ 1000) :
    s.target m ≤ s.intent.value m.role :=
  (target_le_scaled s m).trans ((scale_le h).trans (min_le_left ..))

theorem target_le_ceilingEffort {s : State} {m : Motor} (h : (s.ev.bogies.get m.bogie).c ≤ 1000) :
    s.target m ≤ s.ceilingEffort m :=
  (target_le_scaled s m).trans ((scale_le h).trans (min_le_right ..))

/-- The target reads the part state, the configuration, the intent of the motor bogie, the accepted MODE and the
factors. -/
theorem target_congr {s t : State} {m : Motor} (part : t.ctl.part = s.ctl.part) (cfg : t.cfg.str = s.cfg.str)
    (value : t.intent.value m.role = s.intent.value m.role) (accepted : t.intent.accepted = s.intent.accepted)
    (bogies : t.ev.bogies = s.ev.bogies) (records : t.ceil.records = s.ceil.records) : t.target m = s.target m := by
  simp only [State.target, State.ceilingEffort, part, cfg, value, accepted, bogies, records]

@[simp] theorem claim_value (evaluation : Bool) (m : Motor) (s : State) (r : EffortRole) :
    (claim evaluation m s).intent.value r = s.intent.value r := by
  simp [IntentTable.value]

@[simp] theorem claim_target (evaluation : Bool) (m m' : Motor) (s : State) :
    (claim evaluation m s).target m' = s.target m' :=
  target_congr (by simp) (by simp) (by simp) (by simp) (by simp) (by simp)

/-! ### A ceiling lowering beside a claim (R12) -/

/-- K of a motor bogie lowered to `k`, as a ceiling lowering finds it. -/
def lowerCeiling (m : Motor) (k : Nat) (s : State) : State :=
  { s with
    ceil :=
      { s.ceil with
        records := s.ceil.records.set m.bogie { s.ceil.records.get m.bogie with k := k } } }

/-- A lower K does not raise the target. -/
theorem lowerCeiling_target_le {m : Motor} {k : Nat} {s : State} (h : k ≤ (s.ceil.records.get m.bogie).k) :
    (lowerCeiling m k s).target m ≤ s.target m := by
  have effort : (lowerCeiling m k s).ceilingEffort m ≤ s.ceilingEffort m := by
    simp only [State.ceilingEffort, lowerCeiling, PerBogie.get_set_self]
    exact Nat.div_le_div_right (Nat.mul_le_mul_right _ h)
  have guards : (lowerCeiling m k s).intent = s.intent ∧ (lowerCeiling m k s).ctl = s.ctl
      ∧ (lowerCeiling m k s).cfg = s.cfg ∧ (lowerCeiling m k s).ev = s.ev := ⟨rfl, rfl, rfl, rfl⟩
  obtain ⟨intent, ctl, cfg, ev⟩ := guards
  simp only [State.target, intent, ctl, cfg, ev]
  split
  · exact Nat.div_le_div_right (Nat.mul_le_mul_right _ (min_le_min_left _ effort))
  · exact le_rfl

/-- Settles O38: the held traction after a claim is set, its target reads what a claim leaves, and a lowered K lowers the
target, so that both orders of R12 come to one minimum. -/
theorem claimsMoveHeldTraction : Obligations.ClaimsMoveHeldTraction := by
  refine ⟨fun m s => ⟨?_, ?_, fun b => ⟨?_, claim_intent_eq b m s, claim_eq b m s⟩⟩, fun m s => ⟨target_eq_zero, ?_, ?_⟩,
    fun m k s hk => ⟨?_, ?_⟩⟩
  · rw [claim_held, PerMotor.get_set_self]; rfl
  · rw [claim_held, PerMotor.get_set_self]; rfl
  · rw [claim_held, PerMotor.get_set_ne _ _ (by cases m <;> decide)]
  · exact fun traction direction part isolated => if_pos ⟨traction, direction, part, isolated⟩
  · exact fun h => ⟨target_le_value h, target_le_ceilingEffort h⟩
  · change (claim true m (claim false m (lowerCeiling m k s))).intent.held.get m = _
    have held : (lowerCeiling m k s).intent.held = s.intent.held := rfl
    simp only [claim_held, PerMotor.get_set_self, State.claimed, claim_target, claim_cfg, if_true, Bool.false_eq_true,
      if_false, held]
    change min ((lowerCeiling m k s).target m) (min _ ((lowerCeiling m k s).target m) + s.cfg.tun.intent.riseStep) = _
    change _ = min ((lowerCeiling m k s).target m) _
    omega
  · have lowered := lowerCeiling_target_le hk
    change (claim false m (lowerCeiling m k (claim true m s))).intent.held.get m = _
    have target : (lowerCeiling m k (claim true m s)).target m = (lowerCeiling m k s).target m :=
      target_congr (by simp [lowerCeiling]) (by simp [lowerCeiling]) (by simp [lowerCeiling]) (by simp [lowerCeiling])
        (by simp [lowerCeiling]) (by simp [lowerCeiling])
    have held : (lowerCeiling m k (claim true m s)).intent.held = (claim true m s).intent.held := rfl
    rw [claim_held, PerMotor.get_set_self, State.claimed, if_neg (by decide), target, held, claim_held,
      PerMotor.get_set_self, State.claimed, if_pos rfl]
    change _ = min ((lowerCeiling m k s).target m) _
    omega

end Sys2Proof.Machine
end

section
/-! PROOF support for `Obligations.EveryStepKeepsTractionSafe`: the ground on which the bounds of the held traction stand, and
what a change must leave alone to keep them. -/

namespace Sys2Proof.Machine

/-! ### The invariant in two parts -/

/-- What `State.tractionSafe` says of everything but the held tractions. -/
structure State.tractionGround (s : State) : Prop where
  stages : s.stagesAgree
  factors : s.factorsBounded
  intents : s.keepsIntents → ∀ (m : Motor) (v : Nat), (s.intent.channels.get m.role).intent = some v →
    v ≤ (s.cfg.tun.intent.limits.get m.role).max
  limits : ∀ r : EffortRole, (s.cfg.tun.intent.limits.get r).min ≤ (s.cfg.tun.intent.limits.get r).max
  pages : s.pageJudged

/-- What it says of one held traction. -/
def State.motorSafe (s : State) (m : Motor) : Prop := (¬ s.driving → s.intent.held.get m = 0) ∧ s.tractionBound m

theorem tractionSafe_iff (s : State) : s.tractionSafe ↔ s.tractionGround ∧ ∀ m, s.motorSafe m :=
  ⟨fun ⟨stages, factors, zero, bound, intents, limits, pages⟩ =>
      ⟨⟨stages, factors, intents, limits, pages⟩, fun m => ⟨fun hd => zero hd m, bound m⟩⟩,
    fun ⟨⟨stages, factors, intents, limits, pages⟩, motors⟩ =>
      ⟨stages, factors, fun hd m => (motors m).1 hd, fun m => (motors m).2, intents, limits, pages⟩⟩

theorem State.tractionSafe.ground {s : State} (h : s.tractionSafe) : s.tractionGround := ((tractionSafe_iff s).1 h).1

theorem State.tractionSafe.motor {s : State} (h : s.tractionSafe) (m : Motor) : s.motorSafe m :=
  ((tractionSafe_iff s).1 h).2 m

/-- A held traction of 0 is safe. -/
theorem motorSafe_of_held_zero {s : State} {m : Motor} (h : s.intent.held.get m = 0) : s.motorSafe m :=
  ⟨fun _ => h, by simp [State.tractionBound, h]⟩

/-! ### Changes that leave the ground alone -/

/-- From `s` to `t` nothing of the ground is changed. -/
structure GroundAlike (s t : State) : Prop where
  part : t.ctl.part = s.ctl.part
  settle : t.ctl.settle = s.ctl.settle
  previous : t.ctl.previous = s.ctl.previous
  publishing : t.onPort .publish = true → s.onPort .publish = true ∨ s.ctl.part = .publish
  pages : ∀ h off, t.ip.host = some h → h.page = some off → ∃ h', s.ip.host = some h' ∧ h'.page = some off ∧ h'.txn = h.txn
  limits : t.cfg.tun.intent.limits = s.cfg.tun.intent.limits
  slip : t.cfg.tun.slip = s.cfg.tun.slip
  published : ∀ y, (t.ev.bogies.get y).c = (s.ev.bogies.get y).c
  copied : ∀ e, t.ev.running = some e → ∃ e', s.ev.running = some e' ∧ ∀ y, (e.bogies.get y).c = (e'.bogies.get y).c
  intents : ∀ m : Motor, (t.intent.channels.get m.role).intent = (s.intent.channels.get m.role).intent

theorem keepsIntents_congr {s t : State} (part : t.ctl.part = s.ctl.part) (previous : t.ctl.previous = s.ctl.previous) :
    t.keepsIntents ↔ s.keepsIntents := by
  simp only [State.keepsIntents, State.inForce, part, previous]

theorem GroundAlike.ground {s t : State} (x : GroundAlike s t) (h : s.tractionGround) : t.tractionGround where
  stages :=
    ⟨fun hp => x.part.trans ((x.publishing hp).elim h.stages.publishing id),
      fun hs => x.part.trans (h.stages.settling (by rwa [x.settle] at hs))⟩
  factors :=
    { published := fun y => by rw [x.published]; exact h.factors.published y
      copied := fun e y he => by
        obtain ⟨e', he', hc⟩ := x.copied e he
        rw [hc]; exact h.factors.copied e' y he'
      floor := by rw [x.slip]; exact h.factors.floor
      drop := by rw [x.slip]; exact h.factors.drop }
  intents := fun hk m v hv => by
    rw [x.limits]
    exact h.intents ((keepsIntents_congr x.part x.previous).1 hk) m v (by rwa [x.intents] at hv)
  limits := by rw [x.limits]; exact h.limits
  pages := fun slot off hh hp => by
    obtain ⟨slot', hh', hp', ht⟩ := x.pages slot off hh hp
    simp only [State.served, x.part, ← ht]
    exact h.pages slot' off hh' hp'

/-- The pages that stand at the processor port are those whose keys do. -/
theorem pages_of_key {s t : State} (h : t.ip.host.map HostSlot.key = s.ip.host.map HostSlot.key) (slot : HostSlot)
    (off : BitVec 8) (hh : t.ip.host = some slot) (hp : slot.page = some off) :
    ∃ h', s.ip.host = some h' ∧ h'.page = some off ∧ h'.txn = slot.txn := by
  rw [hh] at h
  obtain ⟨h', hs, hk⟩ := Option.map_eq_some_iff.1 h.symm
  have key : h'.txn = slot.txn ∧ h'.page = slot.page := by simpa [HostSlot.key] using hk
  exact ⟨h', hs, key.2.trans hp, key.1⟩

/-- The copy of an evaluation in progress has the correction factors it had. -/
theorem copied_of_bogies {s t : State}
    (h : t.ev.running.map (fun e => (e.slips, e.bogies)) = s.ev.running.map fun e => (e.slips, e.bogies)) (e : Evaluation)
    (he : t.ev.running = some e) : ∃ e', s.ev.running = some e' ∧ ∀ y, (e.bogies.get y).c = (e'.bogies.get y).c := by
  rw [he] at h
  obtain ⟨e', hs, hk⟩ := Option.map_eq_some_iff.1 h.symm
  have bogies : e'.bogies = e.bogies := (Prod.mk.inj hk).2
  exact ⟨e', hs, fun y => by rw [bogies]⟩

/-- The fields that the ground reads. -/
@[simp] def State.groundFields (s : State) :=
  (s.ctl, s.cfg, s.ev.bogies, s.ev.running.map fun e => (e.slips, e.bogies), s.ip.port, s.ip.host.map HostSlot.key,
    s.intent.channels)

/-- The ground is left alone where the fields it reads are. -/
theorem GroundAlike.of {s t : State} (h : t.groundFields = s.groundFields) : GroundAlike s t := by
  obtain ⟨ctl, cfg, bogies, running, port, host, channels⟩ := by simpa only [State.groundFields, Prod.mk.injEq] using h
  exact
    { part := by rw [ctl]
      settle := by rw [ctl]
      previous := by rw [ctl]
      publishing := by rw [State.onPort, port]; exact .inl
      pages := pages_of_key host
      limits := by rw [cfg]
      slip := by rw [cfg]
      published := by simp [bogies]
      copied := copied_of_bogies running
      intents := by simp [channels] }

/-! ### Changes that leave a held traction's bounds alone -/

/-- From `s` to `t` a held traction and what bounds it stand, where a ceiling may rise. -/
structure MotorAlike (m : Motor) (s t : State) : Prop where
  part : t.ctl.part = s.ctl.part
  regime : t.intent.accepted.regime = s.intent.accepted.regime
  value : t.intent.value m.role = s.intent.value m.role
  max : (t.cfg.tun.intent.limits.get m.role).max = (s.cfg.tun.intent.limits.get m.role).max
  ceiling : s.ceilingEffort m ≤ t.ceilingEffort m
  held : t.intent.held.get m = s.intent.held.get m

theorem MotorAlike.motorSafe {m : Motor} {s t : State} (x : MotorAlike m s t) (h : s.motorSafe m) : t.motorSafe m := by
  obtain ⟨zero, value, max, ceiling⟩ := h
  refine ⟨fun hd => ?_, ?_, ?_, ?_⟩
  · rw [x.held]
    exact zero (by simpa only [State.driving, x.part, x.regime] using hd)
  · rw [x.held, x.value]; exact value
  · rw [x.held, x.max]; exact max
  · rw [x.held]; exact ceiling.trans x.ceiling

/-- The fields that the bounds of a held traction read. -/
@[simp] def State.motorFields (s : State) (m : Motor) :=
  (s.ctl.part, s.cfg, s.intent.accepted.regime, s.intent.channels, s.ceil.records, s.intent.held.get m)

/-- A held traction's bounds stand where the fields they read do. -/
theorem MotorAlike.of {m : Motor} {s t : State} (h : t.motorFields m = s.motorFields m) : MotorAlike m s t := by
  obtain ⟨part, cfg, regime, channels, records, held⟩ := by simpa only [State.motorFields, Prod.mk.injEq] using h
  exact
    { part := part
      regime := regime
      value := by simp only [IntentTable.value, channels]
      max := by rw [cfg]
      ceiling := by simp only [State.ceilingEffort, cfg, records]; exact le_rfl
      held := held }

/-- From `s` to `t` nothing that the invariant reads is changed. -/
structure Alike (s t : State) : Prop where
  ground : GroundAlike s t
  motor : ∀ m, MotorAlike m s t

theorem Alike.safe {s t : State} (x : Alike s t) (h : s.tractionSafe) : t.tractionSafe :=
  (tractionSafe_iff t).2 ⟨x.ground.ground h.ground, fun m => (x.motor m).motorSafe (h.motor m)⟩

/-- The fields that the invariant reads. -/
@[simp] def State.safeFields (s : State) :=
  (s.groundFields, s.intent.accepted.regime, s.ceil.records, s.intent.held)

theorem Alike.of {s t : State} (h : t.safeFields = s.safeFields) : Alike s t := by
  obtain ⟨ground, regime, records, held⟩ := by simpa only [State.safeFields, Prod.mk.injEq] using h
  obtain ⟨ctl, cfg, -, -, -, -, channels⟩ := by simpa only [State.groundFields, Prod.mk.injEq] using ground
  exact ⟨.of ground, fun m => .of (by simp only [State.motorFields, ctl, cfg, regime, channels, records, held])⟩

end Sys2Proof.Machine
end

section
/-! PROOF of `Obligations.EveryStepKeepsTractionSafe`: each operation that touches an intent, a ceiling, a correction factor, a
limit or the part state keeps the ground, and the claims that follow it bring the held tractions back within their
bounds. -/

namespace Sys2Proof.Machine

variable {s : State}

/-! ### Claims (R10, R11) -/

theorem claim_groundAlike (evaluation : Bool) (m : Motor) (s : State) : GroundAlike s (claim evaluation m s) :=
  .of (by simp)

theorem claim_ground (h : s.tractionGround) (evaluation : Bool) (m : Motor) :
    (claim evaluation m s).tractionGround := (claim_groundAlike evaluation m s).ground h

theorem claim_motorAlike {m m' : Motor} (h : m' ≠ m) (evaluation : Bool) (s : State) :
    MotorAlike m' s (claim evaluation m s) := .of (by simp [h])

/-- After a claim the held traction is at most its target. -/
theorem claimed_le_target (s : State) (evaluation : Bool) (m : Motor) : s.claimed evaluation m ≤ s.target m := by
  simp only [State.claimed]
  split
  · exact min_le_left ..
  · exact min_le_right ..

/-- A taken intent, as the part uses it, lies within the channel's maximum. -/
theorem value_le_max (h : s.tractionGround) (hk : s.keepsIntents) (m : Motor) :
    s.intent.value m.role ≤ (s.cfg.tun.intent.limits.get m.role).max := by
  simp only [IntentTable.value]
  split
  · cases hv : (s.intent.channels.get m.role).intent with
    | none => exact Nat.zero_le _
    | some v => exact h.intents hk m v hv
  · exact Nat.zero_le _

/-- In ACTIVE and FALLBACK a target outside driving is 0. -/
theorem target_of_not_driving (hf : s.inForce = true) (hd : ¬ s.driving) (m : Motor) : s.target m = 0 := by
  refine target_eq_zero ?_
  by_cases traction : s.intent.accepted.regime = .traction
  · have inactive : s.ctl.part ≠ .active := fun active => hd ⟨active, traction⟩
    exact .inr (.inr (.inl (by simpa [State.inForce, inactive] using hf)))
  · exact .inl traction

/-- In ACTIVE and FALLBACK a claim brings the held traction within its bounds, wherever it stood. -/
theorem claim_motorSafe (h : s.tractionGround) (hf : s.inForce = true) (evaluation : Bool) (m : Motor) :
    (claim evaluation m s).motorSafe m := by
  have held : (claim evaluation m s).intent.held.get m ≤ s.target m := by
    rw [claim_held, PerMotor.get_set_self]
    exact claimed_le_target ..
  have c := h.factors.published m.bogie
  refine ⟨fun hd => ?_, ?_, ?_, ?_⟩
  · have : ¬ s.driving := by simpa [State.driving] using hd
    have := target_of_not_driving hf this m
    omega
  · rw [claim_value]
    exact held.trans (target_le_value c)
  · rw [claim_cfg]
    exact held.trans ((target_le_value c).trans (value_le_max h (.inl hf) m))
  · have ceiling : (claim evaluation m s).ceilingEffort m = s.ceilingEffort m := by simp [State.ceilingEffort]
    rw [ceiling]
    exact held.trans (target_le_ceilingEffort c)

/-- A claim on both motor bogies brings both held tractions within their bounds. -/
theorem claimBoth_safe (h : s.tractionGround) (hf : s.inForce = true) (evaluation : Bool) :
    (claimBoth evaluation s).tractionSafe := by
  have ground := claim_ground h evaluation .a
  refine (tractionSafe_iff _).2 ⟨claim_ground ground evaluation .b, fun m => ?_⟩
  cases m with
  | a => exact (claim_motorAlike (by decide) evaluation _).motorSafe (claim_motorSafe h hf evaluation .a)
  | b => exact claim_motorSafe ground (by simpa [State.inForce] using hf) evaluation .b

/-- A claim on a bogie whose held traction is within its bounds keeps the invariant. -/
theorem claim_safe_of_other (h : s.tractionGround) (hf : s.inForce = true) (evaluation : Bool) (m : Motor)
    (other : s.motorSafe m.other) : (claim evaluation m s).tractionSafe := by
  refine (tractionSafe_iff _).2 ⟨claim_ground h evaluation m, fun m' => ?_⟩
  by_cases hm : m' = m
  · rw [hm]; exact claim_motorSafe h hf evaluation m
  · have : m' = m.other := by cases m <;> cases m' <;> simp_all [Motor.other]
    rw [this]
    exact (claim_motorAlike (by cases m <;> decide) evaluation s).motorSafe other

/-! ### Runs and fallback (R121, R138, R177) -/

theorem handMode_safe (h : s.tractionSafe) : (handMode s).tractionSafe := Alike.safe (.of (by simp)) h
theorem initialSweep_safe (h : s.tractionSafe) : (initialSweep s).tractionSafe := Alike.safe (.of (by simp)) h
theorem raise_safe (h : s.tractionSafe) (c : Cause) : (raise c s).tractionSafe := Alike.safe (.of (by simp)) h
theorem count_safe (h : s.tractionSafe) (c : Counter) : (count c s).tractionSafe := Alike.safe (.of (by simp)) h
theorem run_safe (h : s.tractionSafe) (evaluation returning : Bool) : (run evaluation returning s).tractionSafe :=
  Alike.safe (.of (by simp)) h
theorem runServing_safe (h : s.tractionSafe) : (runServing s).tractionSafe := Alike.safe (.of (by simp)) h

/-- The words of a change of part state claim on both bogies, whatever was held. -/
theorem rewords_safe (h : s.tractionGround) (hf : s.inForce = true) (returning : Bool) :
    (rewords returning s).tractionSafe :=
  run_safe (handMode_safe (claimBoth_safe h hf false)) ..

/-- A change of the controller that leaves the part state, the settle timer and the previous state. -/
theorem withCtl_alike (f : Controller → Controller) (s : State) (part : (f s.ctl).part = s.ctl.part)
    (settle : (f s.ctl).settle = s.ctl.settle) (previous : (f s.ctl).previous = s.ctl.previous) :
    Alike s (withCtl f s) :=
  ⟨⟨part, settle, previous, .inl, fun slot _ hh hp => ⟨slot, hh, hp, rfl⟩, rfl, rfl, fun _ => rfl,
    fun e he => ⟨e, he, fun _ => rfl⟩, fun _ => rfl⟩, fun _ =>
    .of (by rw [State.motorFields, State.motorFields, show (withCtl f s).ctl.part = s.ctl.part from part]; rfl)⟩

/-- The settle timer does not run outside WAKING. -/
theorem settle_of_part (h : s.tractionGround) (part : s.ctl.part ≠ .waking) : s.ctl.settle = none :=
  by_contra fun hs => part (h.stages.settling hs)

/-- Outside PUBLISH the publish writer is not on the port. -/
theorem not_publishing (h : s.tractionGround) (part : s.ctl.part ≠ .publish) : s.onPort .publish = false :=
  eq_false_of_ne_true fun hp => part (h.stages.publishing hp)

theorem pageJudged_of_no_host (h : s.ip.host = none) : s.pageJudged := by
  intro slot off hh
  rw [h] at hh
  cases hh

/-- No page write stands where the part is not served. -/
theorem no_page_of_not_served (h : s.pageJudged) (hs : s.served = false) {slot : HostSlot} (hh : s.ip.host = some slot) :
    slot.page = none := by
  cases hp : slot.page with
  | none => rfl
  | some off => rw [(h slot off hh hp).1] at hs; cases hs

/-- A change of the part state out of neither WAKING nor PUBLISH keeps the ground. -/
theorem withCtl_ground (h : s.tractionGround) (f : Controller → Controller) (waking : s.ctl.part ≠ .waking)
    (publish : s.ctl.part ≠ .publish) (settle : (f s.ctl).settle = s.ctl.settle)
    (keeps : (withCtl f s).keepsIntents → s.keepsIntents)
    (pages : (withCtl f s).pageJudged) : (withCtl f s).tractionGround where
  stages :=
    ⟨fun hp => absurd (h.stages.publishing hp) publish, fun hs => absurd (settle.trans (settle_of_part h waking)) hs⟩
  factors := ⟨h.factors.published, h.factors.copied, h.factors.floor, h.factors.drop⟩
  intents hk := h.intents (keeps hk)
  limits := h.limits
  pages := pages

/-- A change between ACTIVE and FALLBACK keeps the ground. -/
theorem withCtl_ground_of_inForce (h : s.tractionGround) (f : Controller → Controller) (before : s.inForce = true)
    (after : (withCtl f s).inForce = true) (settle : (f s.ctl).settle = s.ctl.settle) :
    (withCtl f s).tractionGround := by
  have parts : s.ctl.part = .active ∨ s.ctl.part = .fallback := by simpa [State.inForce] using before
  refine withCtl_ground h f (by rcases parts with p | p <;> simp [p]) (by rcases parts with p | p <;> simp [p]) settle
    (fun _ => .inl before) fun slot off hh hp => ?_
  obtain ⟨_, structure_, tuning⟩ := h.pages slot off hh hp
  refine ⟨?_, fun ho => ?_, tuning⟩
  · have : (withCtl f s).ctl.part = .active ∨ (withCtl f s).ctl.part = .fallback := by
      simpa [State.inForce] using after
    rcases this with p | p <;> simp [State.served, p]
  · have := structure_ ho
    rcases parts with p | p <;> simp [p] at this

/-- Entry to FALLBACK claims on both bogies under the new part state. -/
theorem enterFallback_safe (h : s.tractionGround) (active : s.ctl.part = .active) :
    (enterFallback s).tractionSafe := by
  have entered := withCtl_ground_of_inForce h (fun c => { c with part := .fallback }) (by simp [State.inForce, active])
    rfl rfl
  exact rewords_safe ((GroundAlike.of (s := withCtl _ s) (by simp)).ground entered) rfl false

/-- A fallback cause keeps the invariant. -/
theorem deliverCause_safe (h : s.tractionSafe) (x : FallbackCause) : (deliverCause x s).tractionSafe := by
  simp only [deliverCause]
  split
  · rename_i active
    exact enterFallback_safe ((withCtl_alike _ s rfl rfl rfl).ground.ground h.ground) active
  · exact (withCtl_alike _ s rfl rfl rfl).safe h
  · exact (withCtl_alike _ s rfl rfl rfl).safe h
  · exact (withCtl_alike _ s rfl rfl rfl).safe h
  all_goals exact h

/-! ### Commands (R174 to R182) -/

theorem result_safe (h : s.tractionSafe) (value : BitVec 8) (x : CommandOutcome) : (result value x s).tractionSafe :=
  (withCtl_alike _ s rfl rfl rfl).safe h

theorem decline_safe (h : s.tractionSafe) (value : BitVec 8) (x : CommandOutcome) :
    (decline value x s).tractionSafe :=
  (Alike.of (s := result value x s) (t := decline value x s) (by simp [decline])).safe (result_safe h value x)

/-- A change of part state that leaves no held traction and no transaction on the memory port. -/
theorem safe_of_held_zero {t : State} (h : s.tractionGround) (port : t.ip.port = none) (host : t.ip.host = none)
    (settle : t.ctl.settle = none) (cfg : t.cfg = s.cfg) (published : ∀ y, (t.ev.bogies.get y).c ≤ 1000)
    (copied : ∀ e, t.ev.running = some e → ∀ y, (e.bogies.get y).c ≤ 1000)
    (intents : t.keepsIntents → ∀ (m : Motor) (v : Nat), (t.intent.channels.get m.role).intent = some v →
      v ≤ (t.cfg.tun.intent.limits.get m.role).max) (held : ∀ m, t.intent.held.get m = 0) : t.tractionSafe := by
  refine (tractionSafe_iff t).2 ⟨⟨⟨?_, ?_⟩, ⟨published, fun e y he => copied e he y, ?_, ?_⟩, intents, ?_, ?_⟩, fun m =>
    motorSafe_of_held_zero (held m)⟩
  · simp [State.onPort, port]
  · exact fun hs => absurd settle hs
  · rw [cfg]; exact h.factors.floor
  · rw [cfg]; exact h.factors.drop
  · rw [cfg]; exact h.limits
  · exact pageJudged_of_no_host host

theorem enterActive_safe (h : s.tractionGround) (port : s.ip.port = none) (host : s.ip.host = none)
    (settle : s.ctl.settle = none) : (enterActive s).tractionSafe := by
  have prepared : (startRefresh (restartHold (sandEnterActive (fetchStart (chainEnterActive
      (allocatorEnterActive (referenceModeTaken .neutral (prepareRecords (copyWindows
        (withCtl (fun c => { c with part := .active, causes := {}, validation := none }) s)))))))))).tractionSafe := by
    refine safe_of_held_zero h ?_ ?_ ?_ (by simp) ?_ ?_ (fun _ m v hv => ?_) fun m => ?_
    · simpa [fetchStart, copyWindows] using port
    · simpa [fetchStart, copyWindows] using host
    · simpa [withCtl] using settle
    · simpa using h.factors.published
    · exact fun e he y => h.factors.copied e y (by simpa using he)
    · simp [startRefresh, prepareRecords, IntentTable.reset, EffortChannel.reset] at hv
    · cases m <;> rfl
  have ran := run_safe (initialSweep_safe prepared) false false
  simp only [enterActive, reportLost]
  split
  · refine deliverCause_safe ?_ _
    exact raise_safe ran _
  · exact ran

theorem takeGoActive_safe (h : s.tractionSafe) (port : s.ip.port = none) (host : s.ip.host = none) :
    (takeGoActive s).tractionSafe := by
  simp only [takeGoActive]
  split
  · rename_i setup
    simp only [goActiveSetup]
    split
    · exact decline_safe h ..
    · split
      · exact decline_safe ((withCtl_alike _ s rfl rfl rfl).safe h) ..
      · have settle : s.ctl.settle = none := settle_of_part h.ground (by simp [setup])
        exact enterActive_safe (result_safe h ..).ground port host settle
  · rename_i fallback
    simp only [goActiveFallback]
    split
    · refine rewords_safe (withCtl_ground_of_inForce (result_safe h 1 .accepted).ground _ ?_ rfl rfl) rfl true
      simp [State.inForce, result, withCtl, fallback]
    · exact decline_safe h ..
  · exact decline_safe h ..

theorem not_keepsIntents_of_setup (h : s.ctl.part = .setup) : ¬ s.keepsIntents := by
  simp [State.keepsIntents, State.inForce, h]

/-- Outside driving no traction is held. -/
theorem held_zero (h : s.tractionSafe) (hd : ¬ s.driving) (m : Motor) : s.intent.held.get m = 0 := (h.motor m).1 hd

theorem takeGoSetup_safe (h : s.tractionSafe) (port : s.ip.port = none) (host : s.ip.host = none) :
    (takeGoSetup s).tractionSafe := by
  simp only [takeGoSetup]
  split
  · rename_i active
    split
    · rename_i rest
      have settle : s.ctl.settle = none := settle_of_part h.ground (by simp [active])
      have idle := held_zero h fun hd => by simp [State.driving, rest.1] at hd
      refine safe_of_held_zero h.ground ?_ ?_ ?_ (by simp [enterSetupByCommand, result]) ?_ ?_
        (fun keeps => absurd keeps (not_keepsIntents_of_setup ?_)) ?_
      · simpa [enterSetupByCommand, fetchStop, result] using port
      · simpa [enterSetupByCommand, fetchStop, result] using host
      · simpa [enterSetupByCommand, withCtl, result] using settle
      · simp [enterSetupByCommand, slipGoSetup, abandon, countIf, BogieRecord.reset]
      · simp [enterSetupByCommand, slipGoSetup, abandon, countIf]
      · simp [enterSetupByCommand, withCtl]
      · simpa [enterSetupByCommand, cancelRefresh, result] using idle
    · exact decline_safe h ..
  · exact decline_safe h ..

theorem takeRestart_safe (h : s.tractionGround) (port : s.ip.port = none) (host : s.ip.host = none) :
    (takeRestart s).tractionSafe := by
  refine safe_of_held_zero h ?_ ?_ ?_ (by simp [takeRestart, result]) ?_ ?_
    (fun keeps => absurd keeps (not_keepsIntents_of_setup ?_)) fun m => ?_
  · simpa [takeRestart, queueDiscard, fetchStop, result] using port
  · simpa [takeRestart, queueDiscard, fetchStop, result] using host
  · simp [takeRestart, withCtl]
  · simp [takeRestart, slipRestart, restartPeriod, abandon, countIf, BogieRecord.reset]
  · simp [takeRestart, slipRestart, restartPeriod, abandon, countIf]
  · simp [takeRestart, withCtl]
  · cases m <;> simp [takeRestart, intentRestart, IntentTable.reset, PerMotor.get]

/-- STANDBY keeps the intents of a part that was ACTIVE, and no other. -/
theorem enterStandby_safe (h : s.tractionSafe) (port : s.ip.port = none) (host : s.ip.host = none)
    (settle : s.ctl.settle = none) (hd : ¬ s.driving) (previous : Previous) (keeps : previous = .active → s.keepsIntents) :
    (enterStandby previous s).tractionSafe := by
  refine safe_of_held_zero h.ground ?_ ?_ ?_ (by simp [enterStandby]) ?_ ?_ (fun kept m v hv => ?_) ?_
  · simpa [enterStandby, fetchStop] using port
  · simpa [enterStandby, fetchStop] using host
  · simpa [enterStandby, withCtl] using settle
  · simpa [enterStandby, slipStandby, abandon, countIf] using h.ground.factors.published
  · simp [enterStandby, slipStandby, abandon, countIf]
  · have active : previous = .active := by simpa [enterStandby, State.keepsIntents, State.inForce, withCtl] using kept
    simpa [enterStandby] using h.intents (keeps active) m v (by simpa [enterStandby, cancelRefresh] using hv)
  · simpa [enterStandby, cancelRefresh] using held_zero h hd

theorem takeStandby_safe (h : s.tractionSafe) (port : s.ip.port = none) (host : s.ip.host = none) :
    (takeStandby s).tractionSafe := by
  have accepted := result_safe h 4 .accepted
  simp only [takeStandby]
  split
  · rename_i setup
    have settle : s.ctl.settle = none := settle_of_part h.ground (by simp [setup])
    split
    · exact enterStandby_safe accepted port host settle (fun hd => by simp [State.driving, result, withCtl, setup] at hd)
        _ nofun
    · exact decline_safe h ..
  · rename_i active
    have settle : s.ctl.settle = none := settle_of_part h.ground (by simp [active])
    split
    · rename_i rest
      have hold : s.intent.accepted.regime = .hold := by
        simp [State.mayStandby, active] at rest
        exact rest.2
      refine enterStandby_safe accepted port host settle (fun hd => ?_) _ fun _ => .inl ?_
      · simp [State.driving, result, hold] at hd
      · simp [State.inForce, result, withCtl, active]
    · exact decline_safe h ..
  · exact decline_safe h ..

theorem takeCommand_safe (h : s.tractionSafe) (port : s.ip.port = none) (host : s.ip.host = none) (w : Word) :
    (takeCommand w s).tractionSafe := by
  simp only [takeCommand]
  split
  · exact takeGoActive_safe h port host
  · exact takeGoSetup_safe h port host
  · exact takeRestart_safe h.ground port host
  · exact takeStandby_safe h port host
  · exact decline_safe h ..

end Sys2Proof.Machine
end

section
/-! PROOF support for `Obligations.EveryStepKeepsTractionSafe`: what a taken page word does to the items that the bounds of the
held traction read, and what its owning block does at once. -/

namespace Sys2Proof.Machine

/-! ### Items of the tuning section (12.2) -/

/-- The limits that stand after a tuning word. -/
theorem setWord_limits (c : TuningConfig) (off : Nat) (w : Word) :
    (c.setWord off w).intent.limits
      = match limitsAt off with
        | some r => c.intent.limits.set r ⟨bits w 0 16, bits w 16 16⟩
        | none => c.intent.limits := by
  simp only [TuningConfig.setWord]
  split
  case h_59 => simp_all [limitsAt]
  all_goals rfl

theorem setWord_floor (c : TuningConfig) (off : Nat) (w : Word) :
    (c.setWord off w).slip.floor = if off = 0x59 then item w else c.slip.floor := by
  simp only [TuningConfig.setWord]
  split
  case h_59 => simp_all
  all_goals rfl

theorem setWord_drop (c : TuningConfig) (off : Nat) (w : Word) :
    (c.setWord off w).slip.drop = if off = 0x5A then item w else c.slip.drop := by
  simp only [TuningConfig.setWord]
  split
  case h_59 => simp_all
  all_goals rfl

/-- In range, an item of a word lies between the bounds its chapter gives. -/
theorem itemRange_of_inRange {off lo hi : Nat} {w : Word} (h : tuningInRange off w = true)
    (hr : itemRange off = some (lo, hi))
    (hs : ¬ (off = 0x40 ∨ off = 0x41 ∨ off = 0x42) ∧ ¬ (off = 0x44 ∨ off = 0x45 ∨ off = 0x46 ∨ off = 0x47)
      ∧ ¬ (off = 0x72 ∨ off = 0x73 ∨ off = 0x74 ∨ off = 0x75)) : lo ≤ item w ∧ item w ≤ hi := by
  obtain ⟨limits, refresh, sander⟩ := hs
  simpa [tuningInRange, limits, refresh, sander, hr] using h

theorem limits_of_inRange {off : Nat} {w : Word} {r : EffortRole} (h : tuningInRange off w = true)
    (hr : limitsAt off = some r) : bits w 0 16 ≤ bits w 16 16 := by
  have at' : off = 0x40 ∨ off = 0x41 ∨ off = 0x42 := by
    simp only [limitsAt] at hr
    split at hr <;> simp_all
  have range : bits w 0 16 ≤ bits w 16 16 ∧ bits w 16 16 ≤ 65534 := by simpa [tuningInRange, at'] using h
  exact range.1

/-- What a tuning word that may be taken leaves in range (R3, R95). -/
structure TuningConfig.Bounded (c : TuningConfig) : Prop where
  limits : ∀ r : EffortRole, (c.intent.limits.get r).min ≤ (c.intent.limits.get r).max
  floor : c.slip.floor ≤ 1000
  drop : c.slip.drop ≤ 1000

theorem TuningConfig.Bounded.setWord {c : TuningConfig} (h : c.Bounded) {off : Nat} {w : Word}
    (range : 0x40 ≤ off → off < 0xA0 → tuningInRange off w = true) : (c.setWord off w).Bounded where
  limits r := by
    rw [setWord_limits]
    split
    · rename_i r' hr
      have ordered := limits_of_inRange
        (range (by simp only [limitsAt] at hr; split at hr <;> simp_all)
          (by simp only [limitsAt] at hr; split at hr <;> simp_all)) hr
      rw [PerEffort.get_set]
      split
      · exact ordered
      · exact h.limits r
    · exact h.limits r
  floor := by
    rw [setWord_floor]
    split
    · rename_i at'
      have := itemRange_of_inRange (lo := 100) (hi := 900) (range (by omega) (by omega)) (by rw [at']; rfl) (by omega)
      omega
    · exact h.floor
  drop := by
    rw [setWord_drop]
    split
    · rename_i at'
      have := itemRange_of_inRange (lo := 100) (hi := 900) (range (by omega) (by omega)) (by rw [at']; rfl) (by omega)
      omega
    · exact h.drop

variable {s : State}

theorem State.tractionGround.bounded (h : s.tractionGround) : s.cfg.tun.Bounded :=
  ⟨h.limits, h.factors.floor, h.factors.drop⟩

/-! ### A taken structure word (R174) -/

/-- The state with another configuration. -/
def State.withConfig (s : State) (cfg : PartConfig) : State := { s with cfg := cfg }

/-- In SETUP, where no traction is held, a configuration within its ranges keeps the invariant. -/
theorem withConfig_safe_of_setup (h : s.tractionSafe) (setup : s.ctl.part = .setup) {cfg : PartConfig}
    (bounded : cfg.tun.Bounded) : (s.withConfig cfg).tractionSafe :=
  (tractionSafe_iff _).2
    ⟨⟨⟨h.stages.publishing, h.stages.settling⟩, ⟨h.factors.published, h.factors.copied, bounded.floor, bounded.drop⟩,
        fun keeps => absurd keeps (not_keepsIntents_of_setup setup), bounded.limits, h.pages⟩,
      fun m => motorSafe_of_held_zero (held_zero h (fun hd => by simp [State.driving, setup] at hd) m)⟩

theorem channelWritten_safe (h : s.tractionSafe) (i : Axle) : (channelWritten i s).tractionSafe :=
  Alike.safe (.of (by simp)) h

theorem sanderTuned_safe (h : s.tractionSafe) (i : SanderId) (old : SanderTuning) :
    (sanderTuned i old s).tractionSafe := Alike.safe (.of (by simp)) h

theorem takeStructure_safe (h : s.tractionSafe) (setup : s.ctl.part = .setup) (off : Nat) (w : Word) :
    (takeStructure off w s).tractionSafe := by
  have changed := withConfig_safe_of_setup h setup (cfg := { s.cfg with str := s.cfg.str.setWord off w })
    h.ground.bounded
  simp only [takeStructure]
  split
  · exact channelWritten_safe changed _
  · exact changed

/-! ### A taken tuning word (R9, R98, R108, R154, R174) -/

/-- Tuning within its ranges that leaves the limits keeps the invariant. -/
theorem withConfig_safe_of_limits (h : s.tractionSafe) {tun : TuningConfig} (bounded : tun.Bounded)
    (limits : tun.intent.limits = s.cfg.tun.intent.limits) : (s.withConfig { s.cfg with tun := tun }).tractionSafe := by
  refine (tractionSafe_iff _).2
    ⟨⟨⟨h.stages.publishing, h.stages.settling⟩, ⟨h.factors.published, h.factors.copied, bounded.floor, bounded.drop⟩,
      fun keeps m v hv => ?_,
        bounded.limits, h.pages⟩, fun m => ?_⟩
  · change v ≤ (tun.intent.limits.get m.role).max
    rw [limits]
    exact h.intents keeps m v hv
  · exact MotorAlike.motorSafe (s := s) ⟨rfl, rfl, rfl, by simp [State.withConfig, limits], le_rfl, rfl⟩ (h.motor m)

/-- A stored intent clipped to new limits stands on the ground again. -/
theorem clipStored_ground (h : s.tractionGround) {tun : TuningConfig} (bounded : tun.Bounded) {r : EffortRole} {l : Limits}
    (limits : tun.intent.limits = s.cfg.tun.intent.limits.set r l) :
    (clipStored r (s.withConfig { s.cfg with tun := tun })).tractionGround where
  stages := ⟨h.stages.publishing, h.stages.settling⟩
  factors := ⟨h.factors.published, h.factors.copied, bounded.floor, bounded.drop⟩
  intents keeps m v hv := by
    change v ≤ (tun.intent.limits.get m.role).max
    simp only [clipStored, countIf, State.withConfig, PerEffort.get_set] at hv
    split at hv
    · rename_i role
      obtain ⟨old, _, rfl⟩ := Option.map_eq_some_iff.1 hv
      rw [role]
      exact clip_le_max (bounded.limits r) old
    · rename_i role
      rw [limits, PerEffort.get_set_ne _ _ role]
      exact h.intents keeps m v hv
  limits := bounded.limits
  pages := h.pages

/-- The bounds of a held traction of another channel stand through the clipping. -/
theorem clipStored_motorAlike {m : Motor} {tun : TuningConfig} {r : EffortRole} {l : Limits}
    (limits : tun.intent.limits = s.cfg.tun.intent.limits.set r l) (role : m.role ≠ r) :
    MotorAlike m s (clipStored r (s.withConfig { s.cfg with tun := tun })) where
  part := rfl
  regime := rfl
  value := by simp [clipStored, countIf, IntentTable.value, State.withConfig, PerEffort.get_set, role]
  max := by simp [clipStored, countIf, State.withConfig, limits, role]
  ceiling := le_rfl
  held := rfl

theorem limitsChanged_safe (h : s.tractionSafe) (hf : s.inForce = true) {tun : TuningConfig} (bounded : tun.Bounded)
    {r : EffortRole} {l : Limits} (limits : tun.intent.limits = s.cfg.tun.intent.limits.set r l) :
    (limitsChanged r (s.withConfig { s.cfg with tun := tun })).tractionSafe := by
  have ground := clipStored_ground h.ground bounded limits
  have motor {m : Motor} (role : m.role ≠ r) := (clipStored_motorAlike limits role).motorSafe (h.motor m)
  cases r with
  | tractionA => exact claim_safe_of_other ground hf false .a (motor (m := .b) (by decide))
  | tractionB => exact claim_safe_of_other ground hf false .b (motor (m := .a) (by decide))
  | brake =>
    have clipped := (tractionSafe_iff _).2 ⟨ground, fun m => motor (m := m) (by cases m <;> decide)⟩
    simp only [limitsChanged]
    split
    · exact clipped
    · exact runServing_safe clipped

theorem changeRefresh_safe (h : s.tractionSafe) (r : EffortRole) (old : Refresh) :
    (changeRefresh r old s).tractionSafe := by
  have channel (q : EffortRole) : ((changeRefresh r old s).intent.channels.get q).intent = (s.intent.channels.get q).intent
      ∧ ((changeRefresh r old s).intent.channels.get q).fresh = (s.intent.channels.get q).fresh := by
    simp only [changeRefresh, PerEffort.get_set]
    split
    · rename_i same
      rw [same]
      exact ⟨rfl, rfl⟩
    · exact ⟨rfl, rfl⟩
  refine Alike.safe (s := s) ⟨⟨rfl, rfl, rfl, .inl, fun slot _ hh hp => ⟨slot, hh, hp, rfl⟩, rfl, rfl, fun _ => rfl,
    fun e he => ⟨e, he, fun _ => rfl⟩, fun m => (channel m.role).1⟩, fun m => ⟨rfl, rfl, ?_, rfl, le_rfl, rfl⟩⟩ h
  simp only [IntentTable.value, (channel m.role).1, (channel m.role).2]

/-- Lifting every C to a floor of at most 1000 keeps the invariant (R98). -/
theorem floorWritten_safe (h : s.tractionSafe) : (floorWritten s).tractionSafe := by
  have lifted (x : PerBogie BogieRecord) (hx : ∀ y, (x.get y).c ≤ 1000) (y : Bogie) :
      ((liftC s.cfg.tun.slip.floor x).get y).c ≤ 1000 := by
    simp only [liftC, PerBogie.get_build]
    exact max_le h.factors.floor (hx y)
  refine (tractionSafe_iff _).2
    ⟨⟨⟨h.stages.publishing, h.stages.settling⟩, ⟨fun y => lifted _ h.factors.published y, fun e y he => ?_,
      h.factors.floor, h.factors.drop⟩,
      h.intents, h.limits, h.pages⟩, fun m => (MotorAlike.of (t := floorWritten s) rfl).motorSafe (h.motor m)⟩
  obtain ⟨e', he', rfl⟩ := Option.map_eq_some_iff.1 he
  exact lifted _ (fun y => h.factors.copied e' y he') y

/-- A ceiling that rises leaves the bounds. -/
theorem ceilingFloorWritten_safe (h : s.tractionSafe) : (ceilingFloorWritten s).tractionSafe := by
  refine Alike.safe (s := s) ⟨.of rfl, fun m => ⟨rfl, rfl, rfl, rfl, ?_, rfl⟩⟩ h
  simp only [State.ceilingEffort, ceilingFloorWritten, PerBogie.get_build]
  exact Nat.div_le_div_right (Nat.mul_le_mul_right _ (le_max_right ..))

theorem withRep_safe (h : s.tractionSafe) (rep : Reporter) : ({ s with rep := rep } : State).tractionSafe :=
  Alike.safe (s := s) (.of rfl) h

theorem takeTuning_safe (h : s.tractionSafe) (served : s.served = true) {off : Nat} {w : Word}
    (range : 0x40 ≤ off → off < 0xA0 → tuningInRange off w = true) : (takeTuning off w s).tractionSafe := by
  have bounded := h.ground.bounded.setWord range
  have limits := setWord_limits s.cfg.tun off w
  change (tuningActs off s.cfg.tun (s.withConfig { s.cfg with tun := s.cfg.tun.setWord off w })).tractionSafe
  simp only [tuningActs]
  cases hl : limitsAt off with
  | some r =>
    rw [hl] at limits
    simp only []
    split
    · rename_i acts
      exact limitsChanged_safe h acts.1 bounded limits
    · rename_i acts
      rcases Bool.eq_false_or_eq_true s.inForce with hf | hf
      · have same : (s.cfg.tun.setWord off w).intent.limits.get r = s.cfg.tun.intent.limits.get r :=
          by_contra fun hne => acts ⟨hf, hne⟩
        refine withConfig_safe_of_limits h bounded (PerEffort.ext_get fun q => ?_)
        by_cases hq : q = r
        · rw [hq, same]
        · rw [limits, PerEffort.get_set_ne _ _ hq]
      · refine withConfig_safe_of_setup h ?_ bounded
        simp [State.inForce] at hf
        simpa [State.served, hf] using served
  | none =>
    rw [hl] at limits
    have tuned := withConfig_safe_of_limits h bounded limits
    split
    · rename_i heq
      cases heq
    · split
      · exact changeRefresh_safe tuned ..
      · exact tuned
    · exact sanderTuned_safe tuned ..
    · split
      · exact floorWritten_safe tuned
      · split
        · exact ceilingFloorWritten_safe tuned
        · exact tuned

/-! ### A taken page write (R174) -/

theorem takePage_safe (h : s.tractionSafe) (port : s.ip.port = none) (host : s.ip.host = none)
    (served : s.served = true) {off : BitVec 8} {w : Word} (setup : off.toNat < 0x30 → s.ctl.part = .setup)
    (range : 0x40 ≤ off.toNat → off.toNat < 0xA0 → tuningInRange off.toNat w = true) : (takePage off w s).tractionSafe := by
  simp only [takePage]
  split
  · exact takeCommand_safe h port host w
  · split
    · exact withRep_safe h _
    · split
      · exact withRep_safe h _
      · split
        · rename_i low
          exact takeStructure_safe h (setup low) ..
        · exact takeTuning_safe h served range

end Sys2Proof.Machine
end

section
/-! PROOF support for `Obligations.EveryStepKeepsTractionSafe`: the processor port and the ends of memory-port transactions. -/

namespace Sys2Proof.Machine

variable {s : State}

/-! ### Deliveries -/

/-- Where every delivery keeps `Q` and `P`, and one brings `P` from `Q`, all of them together bring `P`. -/
theorem deliver_brings {P Q : State → Prop} {g : State → State} (l : List (State → State)) (hg : g ∈ l)
    (base : ∀ f ∈ l, ∀ x, Q x → Q (f x)) (brings : ∀ x, Q x → P (g x)) (keeps : ∀ f ∈ l, ∀ x, P x → P (f x)) {s : State}
    (h : Q s) : P (deliver l s) := by
  induction l generalizing s with
  | nil => exact absurd hg List.not_mem_nil
  | cons f fs ih =>
    simp only [deliver, List.foldl_cons]
    rcases List.mem_cons.1 hg with rfl | later
    · exact deliver_induct P fs (fun f' hf' => keeps f' (List.mem_cons_of_mem _ hf')) _ (brings s h)
    · exact ih later (fun f' hf' => base f' (List.mem_cons_of_mem _ hf'))
        (fun f' hf' => keeps f' (List.mem_cons_of_mem _ hf')) (base f (List.mem_cons_self ..) s h)

/-! ### Completions to the host -/

theorem inForce_served (h : s.inForce = true) : s.served = true := by
  have parts : s.ctl.part = .active ∨ s.ctl.part = .fallback := by simpa [State.inForce] using h
  rcases parts with p | p <;> simp [State.served, p]

theorem inForce_of_part {t : State} (h : s.inForce = true) (part : t.ctl.part = s.ctl.part) :
    t.inForce = true := by
  simpa only [State.inForce, part] using h

/-- The ground stands when the host's transaction is replied to. -/
theorem reply_safe (h : s.tractionSafe) (ok : Bool) (d : Word) : (reply ok d s).tractionSafe :=
  Alike.safe (s := s) ⟨⟨rfl, rfl, rfl, .inl, nofun, rfl, rfl, fun _ => rfl, fun e he => ⟨e, he, fun _ => rfl⟩, fun _ => rfl⟩,
    fun _ => .of rfl⟩ h

theorem refuse_safe (h : s.tractionSafe) (c : Cause) : (refuse c s).tractionSafe := reply_safe (raise_safe h c) ..

/-- A host transaction that is no page write, or is one judged to be taken, stands at the processor port. -/
theorem occupy_safe (h : s.tractionSafe) (t : HostTxn) (w : HostWait) (page : Option (BitVec 8))
    (judged : (occupy t w page s).pageJudged) : (occupy t w page s).tractionSafe := by
  obtain ⟨ground, motors⟩ := (tractionSafe_iff s).1 h
  exact (tractionSafe_iff _).2 ⟨⟨⟨ground.stages.publishing, ground.stages.settling⟩, ⟨ground.factors.published,
    ground.factors.copied, ground.factors.floor, ground.factors.drop⟩, ground.intents, ground.limits, judged⟩,
    fun m => (MotorAlike.of (t := occupy t w page s) rfl).motorSafe (motors m)⟩

theorem occupy_safe_of_no_page (h : s.tractionSafe) (t : HostTxn) (w : HostWait) :
    (occupy t w none s).tractionSafe := by
  refine occupy_safe h t w none fun slot off hh hp => ?_
  cases Option.some.inj hh
  cases hp

/-! ### Intent writes (R4, R5, R6) -/

/-- A taken effort is clipped, so that it stands on the ground again. -/
theorem takeEffort_ground (h : s.tractionGround) (r : EffortRole) (w : Word) : (takeEffort r w s).tractionGround where
  stages := ⟨by simpa [State.onPort] using h.stages.publishing, by simpa using h.stages.settling⟩
  factors := ⟨by simpa using h.factors.published, by simpa using h.factors.copied, by simpa using h.factors.floor,
    by simpa using h.factors.drop⟩
  intents keeps m v hv := by
    have keeps : s.keepsIntents := by simpa [State.keepsIntents, State.inForce] using keeps
    rw [takeEffort_cfg]
    by_cases role : m.role = r
    · have : v = clip (s.cfg.tun.intent.limits.get r) (item w) := by
        simpa [takeEffort, role] using hv.symm
      rw [role, this]
      exact clip_le_max (h.limits r) _
    · exact h.intents keeps m v (by simpa [takeEffort, PerEffort.get_set, role] using hv)
  limits := by simpa using h.limits
  pages := by simpa [State.pageJudged, State.served] using h.pages

/-- The bounds of a held traction of another channel stand through a taken effort. -/
theorem takeEffort_motorAlike {m : Motor} {r : EffortRole} (role : m.role ≠ r) (w : Word) (s : State) :
    MotorAlike m s (takeEffort r w s) where
  part := by simp
  regime := by simp [takeEffort]
  value := by simp [takeEffort, IntentTable.value, PerEffort.get_set, role]
  max := by simp
  ceiling := by simp [State.ceilingEffort]
  held := by simp [takeEffort]

theorem effortWrite_safe (h : s.tractionSafe) (hf : s.inForce = true) (r : EffortRole) (w : Word) :
    (effortWrite r w s).tractionSafe := by
  have ground := takeEffort_ground h.ground r w
  have force : (takeEffort r w s).inForce = true := inForce_of_part hf (by simp)
  have motor {m : Motor} (role : m.role ≠ r) := (takeEffort_motorAlike role w s).motorSafe (h.motor m)
  refine reply_safe ?_ ..
  cases r with
  | tractionA => exact claim_safe_of_other ground force false .a (motor (m := .b) (by decide))
  | tractionB => exact claim_safe_of_other ground force false .b (motor (m := .a) (by decide))
  | brake => exact runServing_safe ((tractionSafe_iff _).2 ⟨ground, fun m => motor (by cases m <;> decide)⟩)

theorem takeMode_ground (h : s.tractionGround) (m : ModeRecord) (clipped adjusted : Bool) :
    (takeMode m clipped adjusted s).tractionGround :=
  (GroundAlike.of (by simp [takeMode])).ground h

/-- A MODE taken event brings the held tractions within their bounds, whatever regime was accepted before. -/
theorem modeTaken_safe (h : s.tractionGround) (hf : s.inForce = true) (order : Fin 120) (before : Direction) :
    (modeTaken order before s).tractionSafe := by
  have mem {f : State → State} : f ∈ permuted order.val (modeDeliveries before) ↔ f ∈ modeDeliveries before :=
    (permuted_perm _ _).mem_iff
  have claims {x : State} (hx : x.tractionGround ∧ x.inForce = true) :
      (handMode (claimBoth false x)).tractionSafe ∧ (handMode (claimBoth false x)).inForce = true :=
    ⟨handMode_safe (claimBoth_safe hx.1 hx.2 _), inForce_of_part hx.2 (by simp)⟩
  refine (deliver_brings (P := fun x => x.tractionSafe ∧ x.inForce = true)
    (Q := fun x => x.tractionGround ∧ x.inForce = true) (g := fun x => handMode (claimBoth false x)) _
    (mem.2 (by simp [modeDeliveries])) (fun f hf x hx => ?_) (fun x hx => claims hx) (fun f hf x hx => ?_) ⟨h, hf⟩).1
  all_goals
    have block := mem.1 hf
    simp only [modeDeliveries, List.mem_cons, List.not_mem_nil, or_false] at block
    obtain ⟨kept, force⟩ := hx
    rcases block with rfl | rfl | rfl | rfl | rfl
  · exact ⟨(claims ⟨kept, force⟩).1.ground, (claims ⟨kept, force⟩).2⟩
  · exact ⟨(GroundAlike.of (t := run false false x) (by simp)).ground kept, inForce_of_part force (by simp)⟩
  · exact ⟨(GroundAlike.of (t := sandModeTaken x) (by simp)).ground kept, inForce_of_part force (by simp)⟩
  · exact ⟨(GroundAlike.of (t := referenceModeTaken before x) (by simp)).ground kept, inForce_of_part force (by simp)⟩
  · exact ⟨(GroundAlike.of (t := ceilingModeTaken before x) (by simp)).ground kept, inForce_of_part force (by simp)⟩
  · exact claims ⟨kept.ground, force⟩
  · exact ⟨run_safe kept .., inForce_of_part force (by simp)⟩
  · exact ⟨Alike.safe (t := sandModeTaken x) (.of (by simp)) kept, inForce_of_part force (by simp)⟩
  · exact ⟨Alike.safe (t := referenceModeTaken before x) (.of (by simp)) kept, inForce_of_part force (by simp)⟩
  · exact ⟨Alike.safe (s := x) (t := ceilingModeTaken before x) (.of rfl) kept, inForce_of_part force (by simp)⟩

theorem modeWrite_safe (h : s.tractionSafe) (hf : s.inForce = true) (w : Word) (order : Fin 120) :
    (modeWrite w order s).tractionSafe := by
  simp only [modeWrite]
  split
  · exact refuse_safe h _
  · exact reply_safe (modeTaken_safe (takeMode_ground h.ground ..) (inForce_of_part hf (by simp)) ..) ..

/-! ### Decoding (R24 to R29) -/

theorem pageWrite_safe (h : s.tractionSafe) (served : s.served = true) (off : BitVec 8) (t : HostTxn) :
    (pageWrite off t s).tractionSafe := by
  simp only [pageWrite]
  split
  · exact refuse_safe h _
  · rename_i taken
    refine occupy_safe h t _ _ fun slot off' hh hp => ?_
    cases Option.some.inj hh
    cases Option.some.inj hp
    simp only [State.judgePage] at taken
    split at taken
    · cases taken
    · refine ⟨served, fun low => ?_, fun low high => ?_⟩
      · rw [if_pos low] at taken
        change s.ctl.part = .setup
        exact of_not_not fun other => by rw [if_neg other] at taken; cases taken
      · rw [if_neg (by omega), if_pos ⟨low, high⟩] at taken
        exact of_not_not fun out => by rw [if_neg out] at taken; cases taken

theorem inForce_of_window {a : Addr} {e : WindowEntry} (h : s.target' a = .window e) : s.inForce = true := by
  by_contra hf
  simp only [State.target', hf] at h
  split at h <;> cases h

theorem windowWrite_safe (h : s.tractionSafe) (hf : s.inForce = true) (e : WindowEntry) (t : HostTxn) :
    (windowWrite e t s).tractionSafe := by
  simp only [windowWrite, intentWrite]
  split
  · split
    · split
      · exact effortWrite_safe h hf ..
      · exact modeWrite_safe h hf ..
    · exact refuse_safe h _
  · split
    · exact occupy_safe_of_no_page h ..
    · exact refuse_safe h _

theorem decodeTxn_safe (h : s.tractionSafe) (served : s.served = true) (t : HostTxn) :
    (decodeTxn t s).tractionSafe := by
  simp only [decodeTxn]
  split
  · split
    · exact pageWrite_safe h served ..
    · exact occupy_safe_of_no_page h ..
  · rename_i window
    split
    · exact windowWrite_safe h (inForce_of_window window) ..
    · exact occupy_safe_of_no_page h ..
  · split <;> exact occupy_safe_of_no_page h ..

/-- A wake in STANDBY, where no traction is held and no page write stands. -/
theorem startWaking_safe (h : s.tractionSafe) : (startWaking s).tractionSafe := by
  simp only [startWaking]
  split
  · rename_i standby
    have published := not_publishing h.ground (by simp [standby])
    refine (tractionSafe_iff _).2 ⟨⟨⟨fun hp => absurd hp (by simpa [withCtl, State.onPort] using published), fun _ => rfl⟩,
      ⟨h.factors.published, h.factors.copied, h.factors.floor, h.factors.drop⟩, fun keeps => h.intents ?_, h.limits,
      fun slot off hh hp => ?_⟩, fun m => motorSafe_of_held_zero (held_zero h (fun hd => ?_) m)⟩
    · simpa [State.keepsIntents, State.inForce, withCtl, standby] using keeps
    · have unserved : s.served = false := by simp [State.served, standby]
      rw [no_page_of_not_served h.pages unserved hh] at hp
      cases hp
    · simp [State.driving, standby] at hd
  · exact h

theorem hostArrive_safe (h : s.tractionSafe) (t : HostTxn) : (hostArrive t s).tractionSafe := by
  simp only [hostArrive]
  split
  · exact h
  · split
    · exact h
    · exact occupy_safe_of_no_page h ..
    · exact occupy_safe_of_no_page h ..
    · exact startWaking_safe (occupy_safe_of_no_page h ..)
    all_goals exact decodeTxn_safe h (by simp_all [State.served]) t

/-- The invariant without the host's transaction. -/
theorem withoutHost_safe (h : s.tractionSafe) :
    ({ s with ip := { s.ip with host := none } } : State).tractionSafe :=
  Alike.safe (s := s) ⟨⟨rfl, rfl, rfl, .inl, nofun, rfl, rfl, fun _ => rfl, fun e he => ⟨e, he, fun _ => rfl⟩, fun _ => rfl⟩,
    fun _ => .of rfl⟩ h

theorem serveHeld_safe (h : s.tractionSafe) (served : s.served = true) : (serveHeld s).tractionSafe := by
  simp only [serveHeld]
  split
  · split
    · exact decodeTxn_safe (withoutHost_safe h) served _
    · exact h
  · exact h

/-! ### The ends of memory-port transactions (R29, R36 to R38, R43, R172) -/

theorem freePort_safe (h : s.tractionSafe) : (freePort s).tractionSafe :=
  Alike.safe (s := s) ⟨⟨rfl, rfl, rfl, nofun, fun slot _ hh hp => ⟨slot, hh, hp, rfl⟩, rfl, rfl, fun _ => rfl,
    fun e he => ⟨e, he, fun _ => rfl⟩, fun _ => rfl⟩, fun _ => .of rfl⟩ h

theorem passEnd_safe (h : s.tractionSafe) (r : MemEnd) : (passEnd r s).tractionSafe := by
  simp only [passEnd]
  split
  · exact freePort_safe h
  · rename_i slot hh
    split
    · exact count_safe (reply_safe (freePort_safe h) ..) _
    · split
      · rename_i off hp
        obtain ⟨served, setup, range⟩ := h.pages slot off hh hp
        refine takePage_safe (reply_safe (freePort_safe h) ..) rfl rfl ?_ ?_ range
        · exact served
        · exact setup
      · exact reply_safe (freePort_safe h) ..

theorem landFlight_safe (h : s.tractionSafe) : (landFlight s).tractionSafe := by
  have keys : (landFlight s).ip.host.map HostSlot.key = s.ip.host.map HostSlot.key := by
    simp only [landFlight]
    cases s.ip.host <;> rfl
  exact Alike.safe (s := s) ⟨⟨rfl, rfl, rfl, nofun, pages_of_key keys, rfl, rfl, fun _ => rfl, fun e he => ⟨e, he, fun _ => rfl⟩,
    fun _ => rfl⟩, fun _ => .of rfl⟩ h

theorem abandonEntry_safe (h : s.tractionSafe) (e : QueueEntry) : (abandonEntry e s).tractionSafe := by
  refine deliverCause_safe (raise_safe (count_safe ?_ _) _) _
  exact Alike.safe (s := s) (.of rfl) h

theorem returnEntry_safe (h : s.tractionSafe) (e : QueueEntry) : (returnEntry e s).tractionSafe := by
  refine count_safe ?_ _
  exact Alike.safe (s := s) (.of rfl) h

theorem writebackFailed_safe (h : s.tractionSafe) : (writebackFailed s).tractionSafe := by
  have landed := landFlight_safe h
  simp only [writebackFailed]
  split
  · exact freePort_safe h
  · split
    · exact landed
    · split
      · exact abandonEntry_safe landed _
      · split
        · exact count_safe landed _
        · exact returnEntry_safe landed _

theorem raiseIf_safe (h : s.tractionSafe) (b : Bool) (c : Cause) : (raiseIf b c s).tractionSafe :=
  Alike.safe (.of (by simp)) h
theorem countIf_safe (h : s.tractionSafe) (b : Bool) (c : Counter) : (countIf b c s).tractionSafe :=
  Alike.safe (.of (by simp)) h
theorem reportAdvance_safe (h : s.tractionSafe) : (reportAdvance s).tractionSafe := Alike.safe (.of (by simp)) h

theorem reportWordEnd_safe (h : s.tractionSafe) (ok : Bool) : (reportWordEnd ok s).tractionSafe :=
  reportAdvance_safe (countIf_safe (freePort_safe h) ..)

/-- The end of PUBLISH: the part enters SETUP with nothing on the port. -/
theorem enterSetup_safe (h : s.tractionSafe) (publish : s.ctl.part = .publish) (port : s.ip.port = none) :
    (enterSetup s).tractionSafe := by
  have settle : s.ctl.settle = none := settle_of_part h.ground (by simp [publish])
  refine (tractionSafe_iff _).2 ⟨⟨⟨fun hp => ?_, fun hs => absurd settle ?_⟩, 
    ⟨by simpa [enterSetup, restartPeriod, withCtl] using h.factors.published,
      by simpa [enterSetup, restartPeriod, withCtl] using h.factors.copied, h.factors.floor, h.factors.drop⟩,
    fun keeps => ?_, h.limits, fun slot off hh hp => ?_⟩,
    fun m => motorSafe_of_held_zero ?_⟩
  · simp [enterSetup, State.onPort, port] at hp
  · simpa [enterSetup, withCtl] using hs
  · exact absurd keeps (not_keepsIntents_of_setup (by simp [enterSetup, withCtl]))
  · have unserved : s.served = false := by simp [State.served, publish]
    rw [no_page_of_not_served h.pages unserved (by simpa [enterSetup] using hh)] at hp
    cases hp
  · simpa [enterSetup] using held_zero h (fun hd => by simp [State.driving, publish] at hd) m

theorem publishWordEnd_safe (h : s.tractionSafe) (publish : s.ctl.part = .publish) (ok : Bool) :
    (publishWordEnd ok s).tractionSafe := by
  have freed (b : Bool) : (raiseIf b .memoryFault (freePort s)).tractionSafe := raiseIf_safe (freePort_safe h) ..
  have ended : (publishEnd ok s).tractionSafe := by
    simp only [publishEnd]
    split
    · split
      · exact enterSetup_safe (freed _) (by simpa using publish) (by simp)
      · exact (withCtl_alike _ _ rfl rfl rfl).safe (freed _)
    · exact (withCtl_alike _ _ rfl rfl rfl).safe (freed _)
  simp only [publishWordEnd]
  split
  · rename_i setup
    exact serveHeld_safe ended (by simp [State.served, setup])
  · exact ended

/-- The invariant under another fetch. -/
theorem withFetch_safe (h : s.tractionSafe) (f : Option Fetch) (wait : Nat) :
    ({ s with ip := { s.ip with fetch := f, fetchWait := wait } } : State).tractionSafe :=
  Alike.safe (s := s) (.of rfl) h

theorem feedbackDelivery_safe (h : s.tractionSafe) (x : PerMotor (Option Int)) :
    (feedbackDelivery x s).tractionSafe := by
  refine runServing_safe (raiseIf_safe ?_ ..)
  exact Alike.safe (s := s) (.of rfl) h

theorem fetchRead_safe (h : s.tractionSafe) (r : MemEnd) : (fetchRead r s).tractionSafe := by
  have freed := countIf_safe (freePort_safe h) (achievedBy r).isNone .feedbackRejected
  simp only [fetchRead]
  split
  · exact freed
  · split
    · exact withFetch_safe freed ..
    · split
      · exact feedbackDelivery_safe (withFetch_safe freed ..) _
      · exact withFetch_safe freed ..

/-- A transaction on the port times out. -/
theorem portTimeout_safe (h : s.tractionSafe) : (portTimeout s).tractionSafe := by
  simp only [portTimeout]
  split
  · exact h
  · rename_i p hport
    have later : ({ s with now := max s.now p.deadline, memory := s.memory.missed p.claimant } : State).tractionSafe :=
      Alike.safe (s := s) (.of rfl) h
    split
    · rename_i claimant
      exact publishWordEnd_safe later (h.stages.publishing (by simp [State.onPort, hport, claimant])) _
    · exact passEnd_safe later _
    · exact writebackFailed_safe later
    · exact fetchRead_safe later _
    · exact reportWordEnd_safe later _

end Sys2Proof.Machine
end

section
/-! PROOF of `Obligations.EveryStepKeepsTractionSafe`: evaluations, expiries and samples, every move of a step, and what
follows every command. -/

namespace Sys2Proof.Machine

variable {s : State}

/-! ### Evaluations (R80, R92, R96, R99, R105) -/

theorem correct_le {t : SlipTuning} {c : Nat} (hc : c ≤ 1000) (floor : t.floor ≤ 1000) (drop : t.drop ≤ 1000)
    (onset anyExcursion anyGripping : Bool) : correct t c onset anyExcursion anyGripping ≤ 1000 := by
  have dropped : c * t.drop / 1000 ≤ c := scale_le drop
  simp only [correct]
  (repeat' split) <;> omega

theorem update_c_le {b : BogieRecord} {t : SlipTuning} (hc : b.c ≤ 1000) (floor : t.floor ≤ 1000)
    (drop : t.drop ≤ 1000) (x0 y0 x y : SlipRecord) : (b.update t x0 y0 x y).c ≤ 1000 := by
  simp only [BogieRecord.update]
  split
  · exact floor
  · dsimp only
    split
    · exact floor
    · exact correct_le hc floor drop ..

theorem updated_c_le (h : s.factorsBounded) (slips : PerAxle SlipRecord) (y : Bogie) :
    ((s.updated slips).get y).c ≤ 1000 := by
  simp only [State.updated, PerBogie.get_build]
  split
  · exact update_c_le (h.published y) h.floor h.drop ..
  · exact le_refl 1000

/-- Other copied correction factors of at most 1000 keep the invariant. -/
theorem adhesionStages_safe (h : s.tractionSafe) (samples : PerAxle Sample) (frame : Option Frame) :
    (adhesionStages samples frame s).tractionSafe := by
  refine (tractionSafe_iff _).2 ⟨⟨⟨h.stages.publishing, h.stages.settling⟩, ⟨h.factors.published, fun e y he => ?_,
    h.factors.floor, h.factors.drop⟩, h.intents, h.limits, h.pages⟩,
    fun m => (MotorAlike.of (t := adhesionStages samples frame s) rfl).motorSafe (h.motor m)⟩
  cases Option.some.inj he
  exact updated_c_le h.factors _ y

theorem recordEfforts_safe (h : s.tractionSafe) : (recordEfforts s).tractionSafe := by
  refine Alike.safe (s := s) ⟨.of rfl, fun m => ⟨rfl, rfl, rfl, rfl, ?_, rfl⟩⟩ h
  cases m <;> exact le_rfl

theorem latchAxles_safe (h : s.tractionSafe) : (latchAxles s).tractionSafe := Alike.safe (.of (by simp)) h
theorem takeFrame_safe (h : s.tractionSafe) : (takeFrame s).tractionSafe := Alike.safe (.of (by simp)) h
theorem referenceStage_safe (h : s.tractionSafe) (x : PerAxle Sample) (f : Option Frame) :
    (referenceStage x f s).tractionSafe := Alike.safe (.of (by simp)) h
theorem restartPeriod_safe (h : s.tractionSafe) : (restartPeriod s).tractionSafe :=
  Alike.safe (s := s) (.of rfl) h

theorem evaluate_safe (h : s.tractionSafe) : (evaluate s).tractionSafe :=
  adhesionStages_safe (takeFrame_safe (referenceStage_safe (recordEfforts_safe (latchAxles_safe h)) ..)) ..

theorem periodEnd_safe (h : s.tractionSafe) : (periodEnd s).tractionSafe := by
  simp only [periodEnd]
  split
  · exact restartPeriod_safe h
  · exact restartPeriod_safe (evaluate_safe h)

theorem publishRecords_safe (h : s.tractionSafe) {e : Evaluation} (running : s.ev.running = some e) :
    (publishRecords e s).tractionSafe := by
  refine (tractionSafe_iff _).2 ⟨⟨⟨h.stages.publishing, h.stages.settling⟩, ⟨fun y => h.factors.copied e y running,
    fun e' y he => ?_, h.factors.floor, h.factors.drop⟩, h.intents, h.limits, h.pages⟩,
    fun m => MotorAlike.motorSafe (s := s) (.of rfl) (h.motor m)⟩
  cases he

/-- The records, queue and causes that a pass of the ceiling unit leaves, before its claims (R105). -/
def passed (e : Evaluation) (s : State) : State :=
  { s with
    ceil :=
      { records := (s.passResult e).records, queue := (s.passResult e).queue, outgoing := (s.passResult e).outgoing }
    rep := (s.passResult e).rep }

/-- Whether a pass lowers the K of a motor bogie. -/
def lowersK (e : Evaluation) (s : State) (m : Motor) : Bool :=
  decide (((s.passResult e).records.get m.bogie).k < (s.ceil.records.get m.bogie).k)

/-- Where a pass lowers no K of a motor bogie, the bounds of its held traction stand. -/
theorem passed_motorSafe {m : Motor} {e : Evaluation} (h : s.motorSafe m) (kept : lowersK e s m = false) :
    (passed e s).motorSafe m :=
  MotorAlike.motorSafe (s := s) ⟨rfl, rfl, rfl, rfl,
    Nat.div_le_div_right (Nat.mul_le_mul_right _ (not_lt.1 (of_decide_eq_false kept))), rfl⟩ h

/-- A claim that is made if a K has been lowered. -/
def claimIf (lower : Bool) (m : Motor) (s : State) : State := if lower then claim false m s else s

theorem claimIf_ground (h : s.tractionGround) (lower : Bool) (m : Motor) : (claimIf lower m s).tractionGround := by
  cases lower with
  | false => exact h
  | true => exact claim_ground h ..

theorem claimIf_inForce (hf : s.inForce = true) (lower : Bool) (m : Motor) : (claimIf lower m s).inForce = true := by
  cases lower with
  | false => exact hf
  | true => exact inForce_of_part hf (by simp [claimIf])

theorem claimIf_motorSafe {lower : Bool} {m : Motor} (h : s.tractionGround) (hf : s.inForce = true)
    (kept : lower = false → s.motorSafe m) : (claimIf lower m s).motorSafe m := by
  cases lower with
  | false => exact kept rfl
  | true => exact claim_motorSafe h hf ..

theorem claimIf_motorSafe_ne {m m' : Motor} (other : m' ≠ m) (h : s.motorSafe m') (lower : Bool) :
    (claimIf lower m s).motorSafe m' := by
  cases lower with
  | false => exact h
  | true => exact (claim_motorAlike other ..).motorSafe h

theorem ceilingPass_eq (e : Evaluation) (s : State) :
    ceilingPass e s = claimIf (lowersK e s .b) .b (claimIf (lowersK e s .a) .a (passed e s)) := by
  simp only [claimIf, lowersK, decide_eq_true_eq]
  rfl

theorem ceilingPass_safe (h : s.tractionSafe) (hf : s.inForce = true) (e : Evaluation) :
    (ceilingPass e s).tractionSafe := by
  have ground : (passed e s).tractionGround := by
    refine GroundAlike.ground (s := s) ?_ h.ground
    exact .of rfl
  have kept (m : Motor) (hk : lowersK e s m = false) : (passed e s).motorSafe m := passed_motorSafe (h.motor m) hk
  have force : (passed e s).inForce = true := hf
  rw [ceilingPass_eq]
  refine (tractionSafe_iff _).2 ⟨claimIf_ground (claimIf_ground ground ..) .., fun m => ?_⟩
  cases m with
  | a =>
    have a : (claimIf (lowersK e s .a) .a (passed e s)).motorSafe .a := claimIf_motorSafe ground force (kept .a)
    exact claimIf_motorSafe_ne (by decide) a _
  | b =>
    exact claimIf_motorSafe (claimIf_ground ground ..) (claimIf_inForce force ..)
      fun hk => claimIf_motorSafe_ne (by decide) (kept .b hk) _

theorem evaluationRun_safe (h : s.tractionSafe) (e : Evaluation) : (evaluationRun e s).tractionSafe := by
  refine run_safe ?_ ..
  exact Alike.safe (s := s) (.of rfl) h

theorem sandCompletion_safe (h : s.tractionSafe) (e : Evaluation) : (sandCompletion e s).tractionSafe :=
  Alike.safe (.of (by simp)) h

theorem completeEvaluation_safe (h : s.tractionSafe) (order : Fin 24) : (completeEvaluation order s).tractionSafe := by
  simp only [completeEvaluation]
  split
  · exact h
  · rename_i e running
    have published := publishRecords_safe h running
    split
    · rename_i force
      refine (deliver_induct (fun x => x.tractionSafe ∧ x.inForce = true) _ (fun f hf x hx => ?_) _
        ⟨published, inForce_of_part force (by simp)⟩).1
      have block := (permuted_perm order.val (completionDeliveries e)).mem_iff.1 hf
      obtain ⟨safe, force⟩ := hx
      simp only [completionDeliveries, List.mem_cons, List.not_mem_nil, or_false] at block
      rcases block with rfl | rfl | rfl | rfl
      · exact ⟨claimBoth_safe safe.ground force true, inForce_of_part force (by simp)⟩
      · exact ⟨ceilingPass_safe safe force e, inForce_of_part force (by simp)⟩
      · exact ⟨evaluationRun_safe safe e, inForce_of_part force (by simp [evaluationRun])⟩
      · exact ⟨sandCompletion_safe safe e, inForce_of_part force (by simp)⟩
    · exact published

theorem excursionEnd_safe (h : s.tractionSafe) (i : Axle) : (excursionEnd i s).tractionSafe := by
  have marked (x : PerBogie BogieRecord) (y : Bogie) :
      ((x.set i.bogie { x.get i.bogie with floorPending := true }).get y).c = (x.get y).c := by
    rw [PerBogie.get_set]
    split
    · rename_i same
      rw [same]
    · rfl
  refine raise_safe ?_ _
  refine Alike.safe (s := s) ⟨⟨rfl, rfl, rfl, .inl, fun slot _ hh hp => ⟨slot, hh, hp, rfl⟩, rfl, rfl,
    fun y => marked _ y, fun e he => ?_, fun _ => rfl⟩, fun m => .of rfl⟩ h
  obtain ⟨e', he', rfl⟩ := Option.map_eq_some_iff.1 he
  exact ⟨e', he', fun y => marked _ y⟩

/-! ### Refresh and hold (R8, R72) -/

/-- A stale channel loses its claim on a held traction alone. -/
theorem staleEffort_ground (h : s.tractionGround) (r : EffortRole) : (staleEffort r s).tractionGround := by
  refine GroundAlike.ground (s := s) ⟨by simp, by simp, by simp, by simpa [State.onPort] using .inl,
    pages_of_key (by simp), by simp,
    by simp, by simp, copied_of_bogies (by simp), fun m => ?_⟩ h
  simp only [staleEffort, raise_intent, PerEffort.get_set]
  split
  · rename_i same
    rw [same]
  · rfl

theorem staleEffort_motorAlike {m : Motor} {r : EffortRole} (role : m.role ≠ r) (s : State) :
    MotorAlike m s (staleEffort r s) where
  part := by simp
  regime := by simp [staleEffort]
  value := by simp [staleEffort, IntentTable.value, PerEffort.get_set, role]
  max := by simp
  ceiling := by simp [State.ceilingEffort]
  held := by simp [staleEffort]

/-- A claim on a bogie whose channel has gone stale leaves no held traction on it, in every part state. -/
theorem claim_stale_held (h : s.tractionGround) (m : Motor) :
    (claim false m (staleEffort m.role s)).intent.held.get m = 0 := by
  have value : (staleEffort m.role s).intent.value m.role = 0 := by simp [staleEffort, IntentTable.value]
  have target := target_le_value ((staleEffort_ground h m.role).factors.published m.bogie)
  have claimed := claimed_le_target (staleEffort m.role s) false m
  rw [claim_held, PerMotor.get_set_self]
  omega

theorem claim_stale_safe (h : s.tractionSafe) (m : Motor) : (claim false m (staleEffort m.role s)).tractionSafe := by
  refine (tractionSafe_iff _).2 ⟨claim_ground (staleEffort_ground h.ground _) .., fun m' => ?_⟩
  by_cases same : m' = m
  · rw [same]; exact motorSafe_of_held_zero (claim_stale_held h.ground m)
  · refine (claim_motorAlike same false _).motorSafe ((staleEffort_motorAlike ?_ s).motorSafe (h.motor m'))
    cases m <;> cases m' <;> simp_all [Motor.role]

theorem staleMode_safe (h : s.tractionSafe) : (staleMode s).tractionSafe := by
  refine handMode_safe (raise_safe ?_ _)
  exact Alike.safe (s := s) (.of rfl) h

theorem refreshEnd_safe (h : s.tractionSafe) (c : IntentRole) : (refreshEnd c s).tractionSafe := by
  rcases c with (_ | _ | _) | _
  · exact claim_stale_safe h .a
  · exact claim_stale_safe h .b
  · exact runServing_safe ((tractionSafe_iff _).2 ⟨staleEffort_ground h.ground .brake, fun m =>
      (staleEffort_motorAlike (by cases m <;> decide) s).motorSafe (h.motor m)⟩)
  · exact deliverCause_safe (staleMode_safe h) _

theorem holdEnd_safe (h : s.tractionSafe) : (holdEnd s).tractionSafe := by
  refine deliverCause_safe (raise_safe ?_ _) _
  exact Alike.safe (s := s) (.of rfl) h

/-! ### The end of WAKING (R182) -/

/-- The controller leaves WAKING, where no traction is held and no page write stands, for a served state. -/
theorem woken_safe (h : s.tractionSafe) (waking : s.ctl.part = .waking) :
    (withCtl Controller.woken s).tractionSafe := by
  have published := not_publishing h.ground (by simp [waking])
  have unserved : s.served = false := by simp [State.served, waking]
  refine (tractionSafe_iff _).2 ⟨⟨⟨fun hp => absurd hp (by simpa [withCtl, State.onPort] using published),
    fun hs => absurd rfl hs⟩, ⟨h.factors.published, h.factors.copied, h.factors.floor, h.factors.drop⟩,
    fun keeps => h.intents (.inr ⟨.inr waking, ?_⟩), h.limits, fun slot off hh hp => ?_⟩,
    fun m => motorSafe_of_held_zero (held_zero h (fun hd => by simp [State.driving, waking] at hd) m)⟩
  · by_contra other
    have : s.ctl.wakeTo = .setup := by
      simp only [Controller.wakeTo]
      split
      · contradiction
      all_goals rfl
    exact not_keepsIntents_of_setup (s := withCtl Controller.woken s) this keeps
  · rw [no_page_of_not_served h.pages unserved hh] at hp
    cases hp

theorem startRefresh_safe (h : s.tractionSafe) : (startRefresh s).tractionSafe :=
  Alike.safe (s := s) ⟨⟨rfl, rfl, rfl, .inl, fun slot _ hh hp => ⟨slot, hh, hp, rfl⟩, rfl, rfl, fun _ => rfl,
    fun e he => ⟨e, he, fun _ => rfl⟩, fun m => by simp [startRefresh]⟩,
    fun m => ⟨rfl, rfl, by simp [startRefresh, IntentTable.value], rfl, le_rfl, rfl⟩⟩ h

theorem axleWake_safe (h : s.tractionSafe) : (axleWake s).tractionSafe := Alike.safe (.of (by simp)) h
theorem slipWake_safe (h : s.tractionSafe) : (slipWake s).tractionSafe :=
  Alike.safe (s := s) (.of rfl) h
theorem restartHold_safe (h : s.tractionSafe) : (restartHold s).tractionSafe := Alike.safe (.of (by simp)) h
theorem reportStart_safe (h : s.tractionSafe) : (reportStart s).tractionSafe := Alike.safe (.of (by simp)) h
theorem fetchStart_safe (h : s.tractionSafe) : (fetchStart s).tractionSafe :=
  Alike.safe (s := s) (.of rfl) h
theorem chainWake_safe (h : s.tractionSafe) (serving : Bool) : (chainWake serving s).tractionSafe :=
  Alike.safe (.of (by simp)) h
theorem allocatorFallback_safe (h : s.tractionSafe) : (allocatorFallback s).tractionSafe := Alike.safe (.of (by simp)) h
theorem emptyNotices_safe (h : s.tractionSafe) : (emptyNotices s).tractionSafe :=
  Alike.safe (s := s) (.of rfl) h
theorem sandGoSetup_safe (h : s.tractionSafe) : (sandGoSetup s).tractionSafe := Alike.safe (.of (by simp)) h

theorem wakeServing_safe (h : s.tractionSafe) : (wakeServing s).tractionSafe := by
  have served := chainWake_safe (fetchStart_safe (startRefresh_safe h)) true
  simp only [wakeServing]
  split
  · rename_i fallback
    refine rewords_safe (allocatorFallback_safe (raise_safe served _)).ground ?_ _
    exact inForce_of_part (s := s) (by simp [State.inForce, fallback]) (by simp)
  · exact run_safe served ..

@[simp] theorem wakeServing_ctl (s : State) : (wakeServing s).ctl = s.ctl := by
  simp only [wakeServing]
  split <;> simp

theorem wakeSetup_safe (h : s.tractionSafe) : (wakeSetup s).tractionSafe :=
  chainWake_safe (sandGoSetup_safe (emptyNotices_safe h)) false

theorem endWaking_safe (h : s.tractionSafe) (waking : s.ctl.part = .waking) : (endWaking s).tractionSafe := by
  have woken := restartHold_safe (slipWake_safe (axleWake_safe (woken_safe h waking)))
  simp only [endWaking]
  split
  · exact reportStart_safe (wakeServing_safe woken)
  · exact reportStart_safe (wakeSetup_safe woken)

theorem endWaking_served (s : State) : (endWaking s).served = true := by
  have part : (endWaking s).ctl.part = s.ctl.wakeTo := by
    have woken : (withCtl Controller.woken s).ctl.part = s.ctl.wakeTo := rfl
    simp only [endWaking]
    split
    · simpa using woken
    · simpa [wakeSetup] using woken
  simp only [State.served, part, Controller.wakeTo]
  (repeat' split) <;> simp

theorem settleEnd_safe (h : s.tractionSafe) (waking : s.ctl.part = .waking) : (settleEnd s).tractionSafe :=
  serveHeld_safe (endWaking_safe h waking) (endWaking_served s)

end Sys2Proof.Machine
end

section
/-! PROOF of `Obligations.EveryStepKeepsTractionSafe`: resets, samples, every move of a step and what follows it. -/

namespace Sys2Proof.Machine

variable {s : State}

/-! ### Resets and start-up (R171) -/

theorem bounded_default : TuningConfig.default.Bounded :=
  ⟨fun r => by cases r <;> decide, by decide, by decide⟩

/-- With every block at its power-on values nothing is held and nothing stands on a port. -/
theorem reset_safe : State.reset.tractionSafe where
  stages := ⟨by decide, by decide⟩
  factors := ⟨fun y => by cases y <;> decide, fun e y he => (Option.some_ne_none e he.symm).elim, bounded_default.floor,
    bounded_default.drop⟩
  zero _ m := by cases m <;> rfl
  bound m := by cases m <;> exact ⟨Nat.zero_le _, Nat.zero_le _, Nat.zero_le _⟩
  intents keeps := absurd keeps (by simp [State.keepsIntents, State.inForce, State.reset, Controller.reset])
  limits := bounded_default.limits
  pages := pageJudged_of_no_host rfl

theorem resetPart_safe (x : RestartCause) (s : State) : (resetPart x s).tractionSafe :=
  Alike.safe (s := State.reset) ⟨⟨rfl, rfl, rfl, .inl, fun slot _ hh hp => ⟨slot, hh, hp, rfl⟩, rfl, rfl, fun _ => rfl,
    fun e he => ⟨e, he, fun _ => rfl⟩, fun _ => rfl⟩, fun _ => .of rfl⟩ reset_safe

theorem startUp_safe (h : s.tractionSafe) (straps : BitVec 2) : (startUp straps s).tractionSafe := by
  simp only [startUp]
  split
  · rename_i reset
    have unserved : s.served = false := by simp [State.served, reset]
    refine (tractionSafe_iff _).2 ⟨⟨⟨fun _ => rfl, fun hs => absurd (settle_of_part h.ground (by simp [reset])) hs⟩,
      ⟨h.factors.published, h.factors.copied, bounded_default.floor, bounded_default.drop⟩, fun keeps => ?_,
      bounded_default.limits, fun slot off hh hp => ?_⟩,
      fun m => motorSafe_of_held_zero (held_zero h (fun hd => by simp [State.driving, reset] at hd) m)⟩
    · simp [State.keepsIntents, State.inForce] at keeps
    · rw [no_page_of_not_served h.pages unserved hh] at hp
      cases hp
  · exact h

/-! ### Samples (R48, R62, R151, R153, R159) -/

theorem movementWake_safe (h : s.tractionSafe) : (movementWake s).tractionSafe :=
  startWaking_safe ((withCtl_alike _ _ rfl rfl rfl).safe (raise_safe h _))

theorem phaseEdge_safe (h : s.tractionSafe) (i : Axle) (ph : Phase) (rising : Bool) (stamp : Nat) :
    (phaseEdge i ph rising stamp s).tractionSafe := Alike.safe (.of (by simp)) h

theorem edge_safe (h : s.tractionSafe) (i : Axle) (ph : Phase) (rising : Bool) (stamp : Nat) :
    (edge i ph rising stamp s).tractionSafe := by
  simp only [edge]
  split
  · exact movementWake_safe (phaseEdge_safe h ..)
  · exact phaseEdge_safe h ..

theorem setChannel_safe (h : s.tractionSafe) (i : Axle) (c : Channel) : (setChannel i c s).tractionSafe :=
  Alike.safe (s := s) (.of rfl) h
theorem withChain_safe (h : s.tractionSafe) (c : ChainLink) : ({ s with chain := c } : State).tractionSafe :=
  Alike.safe (s := s) (.of rfl) h
theorem endFrame_safe (h : s.tractionSafe) (c : Counter) : (endFrame c s).tractionSafe := Alike.safe (.of (by simp)) h
theorem alignPeriod_safe (h : s.tractionSafe) : (alignPeriod s).tractionSafe :=
  Alike.safe (s := s) (.of rfl) h

theorem completeFrame_safe (h : s.tractionSafe) (bytes : List FrameByte) : (completeFrame bytes s).tractionSafe := by
  simp only [completeFrame]
  split
  · exact endFrame_safe h _
  · split
    · exact endFrame_safe h _
    · exact endFrame_safe h _
    · exact alignPeriod_safe (Alike.safe (s := s) (.of (by simp)) h)

theorem receiveByte_safe (h : s.tractionSafe) (b : FrameByte) : (receiveByte b s).tractionSafe := by
  simp only [receiveByte]
  split
  · split
    · split
      · exact withChain_safe h _
      · exact h
    · split
      · exact withChain_safe h _
      · exact completeFrame_safe h _
  · exact h

theorem framingError_safe (h : s.tractionSafe) : (framingError s).tractionSafe := Alike.safe (.of (by simp)) h
theorem levelLow_safe (h : s.tractionSafe) (i : SanderId) : (levelLow i s).tractionSafe := Alike.safe (.of (by simp)) h
theorem levelHigh_safe (h : s.tractionSafe) (i : SanderId) : (levelHigh i s).tractionSafe := Alike.safe (.of (by simp)) h
theorem supplySample_safe (h : s.tractionSafe) (v : Nat) : (supplySample v s).tractionSafe := Alike.safe (.of (by simp)) h
theorem withPins_safe (h : s.tractionSafe) (pins : Pins) : ({ s with pins := pins } : State).tractionSafe :=
  Alike.safe (s := s) (.of rfl) h
theorem endSending_safe (h : s.tractionSafe) (now : Nat) : (endSending { s with now := now }).tractionSafe :=
  Alike.safe (s := s) (.of rfl) h

theorem tick_safe (h : s.tractionSafe) : (tick s).tractionSafe :=
  tick_keeps (P := State.tractionSafe) (fun _ hx => endSending_safe hx _)
    (fun i _ hx => sampleAxle_keeps (P := State.tractionSafe) (fun _ _ _ hx => setChannel_safe hx ..)
      (fun _ _ _ _ _ hx => edge_safe hx ..) i hx)
    (fun hx => sampleChain_keeps (P := State.tractionSafe) (fun _ => withChain_safe hx _)
      (fun b _ hx => receiveByte_safe hx b) (fun hx => framingError_safe hx) hx)
    (fun i _ hx => levelLow_safe hx i) (fun i _ hx => levelHigh_safe hx i) (fun v _ hx => supplySample_safe hx v) h

/-! ### Expiries that touch nothing of it -/

theorem fetchEnd_safe (h : s.tractionSafe) : (fetchEnd s).tractionSafe := by
  refine countIf_safe ?_ _ _
  exact Alike.safe (s := s) (.of rfl) h
theorem standstillEnd_safe (h : s.tractionSafe) (i : Axle) : (standstillEnd i s).tractionSafe :=
  Alike.safe (.of (by simp)) h
theorem pulseEnd_safe (h : s.tractionSafe) (i : SanderId) : (pulseEnd i s).tractionSafe := Alike.safe (.of (by simp)) h
theorem levelFull_safe (h : s.tractionSafe) (i : SanderId) : (levelFull i s).tractionSafe := Alike.safe (.of (by simp)) h
theorem silenceEnd_safe (h : s.tractionSafe) : (silenceEnd s).tractionSafe := Alike.safe (.of (by simp)) h
theorem transmit_safe (h : s.tractionSafe) : (transmit s).tractionSafe := by
  refine count_safe ?_ _
  exact Alike.safe (s := s) (.of rfl) h
theorem frameIncomplete_safe (h : s.tractionSafe) : (frameIncomplete s).tractionSafe := Alike.safe (.of (by simp)) h
theorem reportEnd_safe (h : s.tractionSafe) : (reportEnd s).tractionSafe := Alike.safe (.of (by simp)) h
theorem withBlend_safe (h : s.tractionSafe) (a : Allocator) : ({ s with blend := a } : State).tractionSafe :=
  Alike.safe (s := s) (.of rfl) h
theorem lagEnd_safe (h : s.tractionSafe) (m : Motor) : (lagEnd m s).tractionSafe :=
  runServing_safe (count_safe (raise_safe (withBlend_safe h _) _) _)
theorem probeEnd_safe (h : s.tractionSafe) (m : Motor) : (probeEnd m s).tractionSafe :=
  runServing_safe (withBlend_safe h _)
theorem deficitEnd_safe (h : s.tractionSafe) : (deficitEnd s).tractionSafe := by
  exact runServing_safe (count_safe (withBlend_safe h _) _)

/-! ### What follows every command (R32, R41) -/

theorem releaseHolds_safe (h : s.tractionSafe) : (releaseHolds s).tractionSafe := by
  have keys : (releaseHolds s).ip.host.map HostSlot.key = s.ip.host.map HostSlot.key := by
    simp only [releaseHolds]
    cases s.ip.host <;> rfl
  exact Alike.safe (s := s) (.of (by simp only [State.safeFields, State.groundFields, keys]; rfl)) h

/-- Another transaction on the port, of the publish writer in PUBLISH alone. -/
theorem withPort_safe {ip : Interposer} {rw' : ReportWriter} {p : PortTxn} (h : s.tractionSafe) (port : ip.port = some p)
    (publish : p.claimant = .publish → s.ctl.part = .publish)
    (host : ip.host.map HostSlot.key = s.ip.host.map HostSlot.key) :
    ({ s with ip := ip, rw := rw' } : State).tractionSafe := by
  refine Alike.safe (s := s) ⟨⟨rfl, rfl, rfl, fun hp => .inr (publish ?_), pages_of_key host, rfl, rfl, fun _ => rfl,
    fun e he => ⟨e, he, fun _ => rfl⟩, fun _ => rfl⟩, fun m => .of rfl⟩ h
  simpa [State.onPort, port] using hp

theorem publish_of_chosen (h : s.chosen = some .publish) : s.ctl.part = .publish := by
  by_contra other
  simp only [State.chosen, other, if_false] at h
  (repeat' split at h) <;> cases h

theorem grant_safe (h : s.tractionSafe) {c : Claimant} (chosen : s.chosen = some c) : (grant c s).tractionSafe := by
  cases c with
  | publish => exact withPort_safe h rfl (fun _ => publish_of_chosen chosen) rfl
  | passThrough =>
    simp only [grant, grantHost]
    split
    · exact h
    · rename_i hh
      exact withPort_safe h rfl nofun (by rw [hh]; rfl)
  | queue =>
    simp only [grant, grantQueue]
    split
    · exact h
    · exact withPort_safe h rfl nofun rfl
  | fetcher =>
    simp only [grant, grantFetch]
    split
    · exact h
    · exact withPort_safe h rfl nofun rfl
  | report =>
    simp only [grant, grantReport]
    split
    · exact h
    · exact withPort_safe h rfl nofun rfl

theorem arbitrate_safe (h : s.tractionSafe) : (arbitrate s).tractionSafe := by
  simp only [arbitrate]
  split
  · rename_i chosen
    exact grant_safe h chosen
  · exact h

theorem finish_safe (h : s.tractionSafe) : (finish s).tractionSafe := by
  have granted := arbitrate_safe (releaseHolds_safe h)
  exact Alike.safe (s := arbitrate (releaseHolds s)) (.of rfl) granted

/-! ### The obligation -/

/-- Every move keeps the invariant. -/
theorem moves_safe {t : State} (h : s.tractionSafe) (moves : Moves s t) : t.tractionSafe := by
  have answered {x : State} (a : MemoryAnswers) (hx : x.tractionSafe) : ({ x with memory := a } : State).tractionSafe :=
    Alike.safe (s := x) (.of rfl) hx
  have ends {c : Claimant} {ours : Bool} {f : State → State} (hf : ∀ {x : State}, x.tractionSafe → (f x).tractionSafe) :
      (completion c ours f s).tractionSafe :=
    completion_keeps_of (P := State.tractionSafe) answered (fun a _ => hf (answered a h)) h
  have later (d : Nat) : ({ s with now := d } : State).tractionSafe :=
    Alike.safe (s := s) (.of rfl) h
  have expires {timer : Timer} {f : State → State} (hf : ∀ {x : State}, x.tractionSafe → (f x).tractionSafe) :
      (onExpiry timer f s).tractionSafe :=
    onExpiry_keeps (P := State.tractionSafe) (fun _ _ => hf (later _)) h
  cases moves with
  | reset x pins => exact resetPart_safe x _
  | startUp straps => exact startUp_safe h straps
  | arrives t => exact hostArrive_safe h t
  | publishEnds ok =>
    exact completion_keeps_of (P := State.tractionSafe) answered
      (fun a ours => publishWordEnd_safe (answered a h) (h.stages.publishing ours) ok) h
  | passEnds ours r => exact ends (passEnd_safe · r)
  | writebackLands => exact ends landFlight_safe
  | writebackFails => exact ends writebackFailed_safe
  | portTimesOut => exact portTimeout_safe h
  | fetchExpires => exact expires fetchEnd_safe
  | fetchReads r => exact ends (fetchRead_safe · r)
  | refreshExpires c => exact expires (refreshEnd_safe · c)
  | edge i ph rising stamp => exact edge_safe h ..
  | standstillExpires i => exact expires (standstillEnd_safe · i)
  | periodExpires => exact expires periodEnd_safe
  | evaluationCompletes order => exact completeEvaluation_safe h order
  | excursionExpires i => exact expires (excursionEnd_safe · i)
  | holdExpires => exact expires holdEnd_safe
  | lagExpires m => exact expires (lagEnd_safe · m)
  | probeExpires m => exact expires (probeEnd_safe · m)
  | deficitExpires => exact expires deficitEnd_safe
  | pulseExpires i => exact expires (pulseEnd_safe · i)
  | levelLow i => exact levelLow_safe (withPins_safe h _) i
  | levelHigh i => exact levelHigh_safe (withPins_safe h _) i
  | levelExpires i => exact expires (levelFull_safe · i)
  | supply v => exact supplySample_safe (withPins_safe h _) v
  | byte b => exact receiveByte_safe h b
  | framing => exact framingError_safe h
  | idleLimit => exact expires frameIncomplete_safe
  | silenceExpires => exact expires silenceEnd_safe
  | transmits => exact expires transmit_safe
  | settles =>
    exact onExpiry_keeps (P := State.tractionSafe)
      (fun d hd => settleEnd_safe (later _) (h.stages.settling (by rw [hd]; nofun))) h
  | reportExpires => exact expires reportEnd_safe
  | reportWordEnds ok => exact ends (reportWordEnd_safe · ok)
  | tick => exact tick_safe h

/-- Settles O59: every move of a step and what follows every command keep the invariant: where an intent, a ceiling, a
correction factor, a limit, the accepted regime or the part state changes, a claim follows in ACTIVE and FALLBACK, and no
traction is held in any other part state. -/
theorem everyStepKeepsTractionSafe : Obligations.EveryStepKeepsTractionSafe := by
  intro s t h hs
  refine step_keeps (P := State.tractionSafe) (fun x _ _ hx => ?_) moves_safe finish_safe h hs
  exact Alike.safe (s := x) (.of rfl) hx

end Sys2Proof.Machine
end

section
/-! PROOF of `Obligations.ResetSatisfiesTheInvariants`: the part right after reset. -/

namespace Sys2Proof.Machine

/-- Settles O60: after reset no word, no completion and no traction stands, and every counter is 0. -/
theorem resetSatisfiesTheInvariants : Obligations.ResetSatisfiesTheInvariants := by
  refine ⟨fun i => ?_, List.nodup_nil, ⟨nofun, nofun⟩, reset_safe.stages, nofun, reset_safe⟩
  have zero : ∀ j : Fin 40, State.reset.rep.counter j = 0 := by decide
  rw [zero]
  exact Nat.zero_le _

end Sys2Proof.Machine
end

section
/-! PROOF of `Obligations.DifferingWordsJoinTheQueue`: what handing a word does, by whether it differs from the last handed
one and whether its address is queued. -/

namespace Sys2Proof.Machine

/-- A word equal to the last handed one is not handed (R18). -/
theorem hand_of_handed {role : Role} {w : Word} {s : State} (h : s.intent.handed.get role = some w) :
    hand role w s = s := by
  have none : s.intent.handAddr role w = none := if_pos h
  simp only [hand, none]

/-- A differing word is handed to the queue (R18). -/
theorem hand_of_differs {role : Role} {w : Word} {s : State} {a : Addr} (h : s.intent.handed.get role ≠ some w)
    (ha : s.intent.addrs.get role = some a) :
    hand role w s
      = { s with
          intent := { s.intent with handed := s.intent.handed.set role (some w) }
          ip := s.ip.enqueue role a w } := by
  have addr : s.intent.handAddr role w = some a := (if_neg h).trans ha
  simp only [hand, addr]

/-- A word for a queued address replaces that entry's word (R34). -/
theorem enqueue_of_queued {ip : Interposer} {a : Addr} (h : ∃ e ∈ ip.queue, e.addr = a) (origin : Role) (w : Word) :
    ip.enqueue origin a w
      = { ip with queue := ip.queue.map fun e => if e.addr = a then { e with word := w } else e } :=
  if_pos (by simpa using h)

/-- A word for another address joins at the tail (R34). -/
theorem enqueue_of_new {ip : Interposer} {a : Addr} (h : ∀ e ∈ ip.queue, e.addr ≠ a) (origin : Role) (w : Word) :
    ip.enqueue origin a w
      = { ip with
          queue := ip.queue ++ [{ id := ip.nextId, addr := a, word := w, origin := origin, attempts := 0 }]
          nextId := ip.nextId + 1
          queueWait := if ip.queue.isEmpty then 0 else ip.queueWait
          host := ip.host.map fun h => h.joinPending ip.inflight a ip.nextId } :=
  if_neg (by simpa using h)

/-- Settles O31: handing splits on the last handed word, joining on whether the address is queued. -/
theorem differingWordsJoinTheQueue : Obligations.DifferingWordsJoinTheQueue := by
  refine ⟨fun role w s => ⟨hand_of_handed, fun a => hand_of_differs⟩, fun origin a w ip =>
    ⟨by simp, by simp, by simp, by simp, fun queued => ?_, fun new => ?_⟩⟩
  · rw [enqueue_of_queued queued]
    exact ⟨rfl, rfl, rfl⟩
  · rw [enqueue_of_new new]
    refine ⟨_, rfl, rfl, rfl, rfl, rfl, fun empty => by simp [empty], fun some => by simp [some], rfl, rfl, ?_⟩
    congr 1

end Sys2Proof.Machine
end

section
/-! PROOF support. The ways into the model that the statements share: a transaction that arrives in a served state, a page
write that is taken, a completion that acts, and the reports a command raises. -/

namespace Sys2Proof.Machine

variable {s : State}

/-! ### Host transactions (R25 to R28) -/

/-- In a served state an arriving transaction is decoded at once. -/
theorem hostArrive_of_served (host : s.ip.host = none) (served : s.served = true) (t : HostTxn) :
    hostArrive t s = decodeTxn t s := by
  simp only [hostArrive, host, Option.isSome_none, Bool.false_eq_true, if_false]
  split <;> simp_all [State.served]

/-- A write to a window, as it arrives. -/
theorem hostArrive_of_window (host : s.ip.host = none) {t : HostTxn} {e : WindowEntry}
    (window : s.target' t.addr = .window e) (write : t.write = true) : hostArrive t s = windowWrite e t s := by
  rw [hostArrive_of_served host (inForce_served (inForce_of_window window))]
  simp only [decodeTxn, window, write, if_true]

/-- A full write to an intent window, by the window's role. -/
theorem windowWrite_of_intent {e : WindowEntry} {t : HostTxn} (code : e.code.toNat ≤ 4) (full : t.lanes = fullLanes) :
    windowWrite e t s = intentWrite e.code t s := by
  simp only [windowWrite, if_pos code, if_pos full]

theorem intentWrite_of_effort {c : BitVec 4} {r : EffortRole} (code : c = (Role.intent r).windowCode) (t : HostTxn)
    (s : State) : intentWrite c t s = effortWrite r t.data s := by
  subst code
  cases r <;> rfl

theorem intentWrite_of_mode {c : BitVec 4} (code : c = Role.windowCode .mode) (t : HostTxn) (s : State) :
    intentWrite c t s = modeWrite t.data t.order s := by
  subst code
  rfl

theorem reply_eq_answered (ok : Bool) (s : State) : reply ok 0 s = s.answered ok := rfl

theorem refuse_eq (c : Cause) (s : State) : refuse c s = (s.raised c).answered false := rfl

/-- A full write to an effort channel's window. -/
theorem exec_effortWrite {addr : Addr} {data : Word} {e : WindowEntry} {r : EffortRole} (host : s.ip.host = none)
    (window : s.target' addr = .window e) (code : e.code = (Role.intent r).windowCode) :
    exec (.tractionOrBrakeWrite addr data) s = .next (finish (effortWrite r data s)) := by
  have low : e.code.toNat ≤ 4 := by rw [code]; cases r <;> decide
  change Host.Outcome.next (finish (hostArrive (fullWrite addr data 0) s)) = _
  rw [hostArrive_of_window host (t := fullWrite addr data 0) window rfl, windowWrite_of_intent low rfl,
    intentWrite_of_effort code]
  rfl

/-- A full write to the MODE window. -/
theorem exec_modeWrite {addr : Addr} {data : Word} {order : Fin 120} {e : WindowEntry} (host : s.ip.host = none)
    (window : s.target' addr = .window e) (code : e.code = Role.windowCode .mode) :
    exec (.modeWrite addr data order) s = .next (finish (modeWrite data order s)) := by
  have low : e.code.toNat ≤ 4 := by rw [code]; decide
  change Host.Outcome.next (finish (hostArrive (fullWrite addr data order) s)) = _
  rw [hostArrive_of_window host (t := fullWrite addr data order) window rfl, windowWrite_of_intent low rfl,
    intentWrite_of_mode code]
  rfl

/-! ### Page writes that are taken (R29, R174) -/

/-- A page write that stands on the port is taken where its row names it. -/
theorem takenOnPort_of_stands {off : BitVec 8} {w : Word} (h : s.pageStands off w) {p : Nat → Word → Bool}
    (row : p off.toNat w = true) : takenOnPort p s = takePage off w (s.completed true 0) := by
  obtain ⟨awaits, slot, host, page, rfl⟩ := h
  obtain ⟨port, owed⟩ : s.onPort .passThrough = true ∧ s.owed .passThrough = false := by
    simpa [State.awaits] using awaits
  have named : s.pageOnPort p = true := by simp [State.pageOnPort, port, host, page, row]
  have data : readData slot.txn 0 = 0 := by simp [readData]
  simp only [takenOnPort, completion_of_not_owed owed, named, if_true, passEnd, host, page, data]
  rfl

/-- A completion of a claimant's transaction acts where it can be no other's. -/
theorem completion_of_awaits {c : Claimant} (h : s.awaits c = true) (f : State → State) :
    completion c (s.onPort c) f s = f s := by
  obtain ⟨port, owed⟩ : s.onPort c = true ∧ s.owed c = false := by simpa [State.awaits] using h
  rw [completion_of_not_owed owed, port, if_pos rfl]

end Sys2Proof.Machine
end

section
/-! PROOF of `Obligations.RefusedIntentWritesChangeNothing`: MODE writes with an invalid code and partial writes. -/

namespace Sys2Proof.Machine

theorem Regime.ofCode_of_ge {c : BitVec 3} (h : 5 ≤ c.toNat) : Regime.ofCode c = none := by
  simp only [Regime.ofCode]
  split
  case h_6 => rfl
  all_goals omega

theorem Direction.ofCode_of_three {c : BitVec 2} (h : c.toNat = 3) : Direction.ofCode c = none := by
  simp only [Direction.ofCode, h]

theorem parseMode_of_invalid {w : Word} (h : 5 ≤ bits w 25 3 ∨ bits w 23 2 = 3) : parseMode w = none := by
  simp only [parseMode]
  rcases h with regime | direction
  · rw [Regime.ofCode_of_ge regime]
  · rw [Direction.ofCode_of_three direction]
    split <;> simp_all

/-- Settles O12: an invalid code fails the parse, and lanes short of all four fail the decoder's first test. -/
theorem refusedIntentWritesChangeNothing : Obligations.RefusedIntentWritesChangeNothing := by
  refine ⟨fun addr data order e s host _ window code invalid => ?_,
    fun addr data lanes e s host _ window code lanesShort => ?_⟩
  · rw [exec_modeWrite host window code, modeWrite, parseMode_of_invalid invalid]
    rfl
  · change Host.Outcome.next (finish (hostArrive (laneWrite addr data lanes) s)) = _
    have short : ¬ (laneWrite addr data lanes).lanes = fullLanes := lanesShort
    rw [hostArrive_of_window host (t := laneWrite addr data lanes) window rfl, windowWrite]
    simp only [if_pos code, if_neg short, refuse_eq]

end Sys2Proof.Machine
end

section
/-! PROOF of `Obligations.EffortWritesAreTaken`: what a taken effort leaves, and the claim or run it leads to. -/

namespace Sys2Proof.Machine

/-- A taken effort (R4). -/
theorem takeEffort_eq (r : EffortRole) (w : Word) (s : State) :
    takeEffort r w s
      = { s with
          intent :=
            { s.intent with
              channels := s.intent.channels.set r
                { intent := some (clip (s.cfg.tun.intent.limits.get r) (item w)), fresh := .live
                  timer :=
                    if (s.cfg.tun.intent.refresh.get r).continuous then none
                    else some (s.now + (s.cfg.tun.intent.refresh.get r).budget * 10 * 1000) } }
          rep := if clip (s.cfg.tun.intent.limits.get r) (item w) = item w then s.rep else s.rep.bump 0 } := by
  simp only [takeEffort, countIf, bne_iff_ne, ne_eq, ite_not]
  rfl

/-- A taken effort is the value of its channel, whatever stood there. -/
theorem takeEffort_value (r : EffortRole) (w : Word) (s : State) :
    (takeEffort r w s).intent.value r = clip (s.cfg.tun.intent.limits.get r) (item w) := by
  simp [takeEffort, IntentTable.value]

/-- The word of a claim on a bogie whose channel has just taken an effort (R13). -/
theorem tractionWord_of_live {s : State} {m : Motor} {v : Nat} (fresh : (s.intent.channels.get m.role).fresh = .live)
    (intent : (s.intent.channels.get m.role).intent = some v) :
    s.tractionWord m
      = if s.cfg.str.driveIsolated.get m then setpointWord 65535 .void
        else if s.ctl.part = .fallback then setpointWord (s.intent.held.get m) .fallback
        else if v = s.intent.held.get m then setpointWord (s.intent.held.get m) .effective
        else setpointWord (s.intent.held.get m) .corrected := by
  simp only [State.tractionWord, State.tractionTag, fresh, intent, Option.some.injEq, ne_eq, not_true, if_false]
  split
  · rfl
  · (repeat' split) <;> rfl

/-- Settles O10: a taken effort by its equation, then the claim's target, held traction and word. -/
theorem effortWritesAreTaken : Obligations.EffortWritesAreTaken := by
  refine ⟨fun m addr data e s host _ window code => ?_, fun addr data e s host force window code => ?_⟩
  · intro effort limits refresh taken goal held word s1
    have target : (takeEffort m.role data s).target m = goal := by
      have value : (takeEffort m.role data s).intent.value m.role = taken := takeEffort_value ..
      have accepted : (takeEffort m.role data s).intent.accepted = s.intent.accepted := by simp [takeEffort]
      simp only [State.target, State.ceilingEffort, value, accepted, takeEffort_ctl, takeEffort_cfg, takeEffort_ceil,
        takeEffort_ev]
      rfl
    have claimed : (takeEffort m.role data s).claimed false m = held := by
      have stands : (takeEffort m.role data s).intent.held = s.intent.held := by simp [takeEffort]
      simp only [State.claimed, target, stands]
      rfl
    have formed : s1.tractionWord m = word := by
      have own : s1.intent.channels.get m.role
          = { intent := some taken, fresh := .live
              timer := if refresh.continuous then none else some (s.now + refresh.budget * 10 * 1000) } :=
        PerEffort.get_set_self ..
      have lowered : s1.intent.held.get m = held := PerMotor.get_set_self ..
      rw [tractionWord_of_live (v := taken) (by rw [own]) (by rw [own]), lowered]
    have handed : claim false m (takeEffort m.role data s) = hand (.intent m.role) word s1 := by
      rw [claim, claimed, takeEffort_eq, ← formed]
      rfl
    have written : effortWrite m.role data s = (claim false m (takeEffort m.role data s)).answered true := by
      cases m <;> rfl
    rw [exec_effortWrite host window code, written, handed]
  · intro effort limits refresh taken s1
    have ran : takeEffort .brake data s = s1 := takeEffort_eq .brake data s
    refine ⟨ran ▸ takeEffort_value .brake data s, ?_⟩
    have served : s1.inForce = true := force
    rw [exec_effortWrite (r := .brake) host window code, effortWrite, reply_eq_answered]
    simp only [ran, runServing, served, if_true]

end Sys2Proof.Machine
end

section
/-! PROOF support. Handed words through a command: what a role's last handed word and its queued word are after several words
of several roles have been handed (R18, R34). -/

namespace Sys2Proof.Machine

/-- From `s` to `t` a role's last handed word stands (`none`), or a word of it has been handed. -/
structure Follows (s t : State) (role : Role) (word : Option Word) : Prop where
  addrs : t.intent.addrs = s.intent.addrs
  stands : word = none → t.intent.handed.get role = s.intent.handed.get role
  handed : ∀ w, word = some w → Handed s t role w

variable {s t : State} {role : Role} {v : Option Word}

theorem Follows.refl (s : State) (role : Role) : Follows s s role none := ⟨rfl, fun _ => rfl, nofun⟩

/-- A state with the same handed words and queue follows as well. -/
theorem Follows.of_eq (h : Follows s t role v) {u : State} (addrs : u.intent.addrs = t.intent.addrs)
    (handed : u.intent.handed = t.intent.handed) (queue : u.ip.queue = t.ip.queue) : Follows s u role v where
  addrs := addrs.trans h.addrs
  stands none := by rw [handed]; exact h.stands none
  handed w some a ha := by rw [handed, queue]; exact h.handed w some a ha

/-- The word of another role leaves a role's words alone. -/
theorem Follows.hand_ne (h : Follows s t role v) {q : Role} (other : q ≠ role) (x : Word) :
    Follows s (hand q x t) role v where
  addrs := (hand_addrs ..).trans h.addrs
  stands none := (hand_handed_ne other.symm ..).trans (h.stands none)
  handed w some a ha := by
    obtain ⟨last, waits⟩ := h.handed w some a ha
    refine ⟨(hand_handed_ne other.symm ..).trans last, fun differs apart => ?_⟩
    exact hand_keeps_queued (by rw [h.addrs]; exact apart q other) (waits differs apart) x

/-- After a role's own word has been handed, that word is the one handed, whatever was handed before. -/
theorem Follows.hand_self (h : Follows s t role v) (w : Word) : Follows s (hand role w t) role (some w) where
  addrs := (hand_addrs ..).trans h.addrs
  stands := nofun
  handed := by
    rintro w ⟨⟩ a ha
    have addr : t.intent.addrs.get role = some a := by rw [h.addrs]; exact ha
    refine ⟨hand_handed_self (by simp [addr]) w, fun differs apart => ?_⟩
    by_cases same : t.intent.handed.get role = some w
    · rw [hand_of_handed same]
      cases v with
      | none => exact absurd ((h.stands rfl).symm.trans same) differs
      | some v =>
        obtain ⟨last, waits⟩ := h.handed v rfl a ha
        cases Option.some.inj (last.symm.trans same)
        exact waits differs apart
    · exact hand_queued addr same

/-! ### The operations that hand words -/

theorem Follows.claim_ne (h : Follows s t role v) (evaluation : Bool) {m : Motor} (other : Role.intent m.role ≠ role) :
    Follows s (claim evaluation m t) role v :=
  Follows.hand_ne
    (h.of_eq (u := { t with intent := { t.intent with held := t.intent.held.set m (t.claimed evaluation m) } })
    rfl rfl rfl) other _

theorem Follows.claim_self {m : Motor} (h : Follows s t (.intent m.role) v) (evaluation : Bool) :
    ∃ w, Follows s (claim evaluation m t) (.intent m.role) (some w) :=
  ⟨_, Follows.hand_self
    (h.of_eq (u := { t with intent := { t.intent with held := t.intent.held.set m (t.claimed evaluation m) } })
    rfl rfl rfl) _⟩

theorem Follows.handMode_self (h : Follows s t .mode v) :
    Follows s (handMode t) .mode (some (modeWord t.intent.accepted t.modeTag)) := h.hand_self _

/-- Words handed one after the other. -/
def handAll (words : List (Role × Word)) (s : State) : State := words.foldl (fun x rw => hand rw.1 rw.2 x) s

theorem Follows.handAll_ne {words : List (Role × Word)} (h : Follows s t role v) (others : ∀ rw ∈ words, rw.1 ≠ role) :
    Follows s (handAll words t) role v := by
  induction words generalizing t with
  | nil => exact h
  | cons rw rest ih =>
    exact ih (h.hand_ne (others rw (List.mem_cons_self ..)) _) fun q hq => others q (List.mem_cons_of_mem _ hq)

theorem Follows.handAll_self {words : List (Role × Word)} (h : Follows s t role v) (own : role ∈ words.map (·.1)) :
    ∃ w, Follows s (handAll words t) role (some w) := by
  induction words generalizing t v with
  | nil => exact absurd own List.not_mem_nil
  | cons rw rest ih =>
    by_cases later : role ∈ rest.map (·.1)
    · by_cases first : rw.1 = role
      · exact ih (v := some rw.2) (first ▸ h.hand_self (role := role) rw.2) later
      · exact ih (h.hand_ne first rw.2) later
    · have first : rw.1 = role := by simpa [later, eq_comm] using own
      refine ⟨rw.2, Follows.handAll_ne (t := hand rw.1 rw.2 t) ?_ fun q hq same => later (List.mem_map.2 ⟨q, hq, same⟩)⟩
      rw [first]
      exact h.hand_self rw.2

/-- The words of a run, in their order (R129); `before` is the state the run began in. -/
def runWords (before : State) (w : Walk) (s : State) : List (Role × Word) :=
  (.intent .brake, setpointWord (s.blend.dEff - s.blend.deficit) (s.brakeTag (s.blend.dEff - s.blend.deficit)))
    :: [Source.edA, .edB, .frA, .frT, .frB].map fun x => (.output x, before.outputWord w x)

theorem handRun_eq (before : State) (w : Walk) (s : State) : handRun before w s = handAll (runWords before w s) s := rfl

/-- A run hands its words in the state that its record makes. -/
theorem run_hands (evaluation returning : Bool) (s : State) :
    let recorded : State := { s with blend := s.runRecord evaluation returning }
    let handed := handAll (runWords s (s.walk (s.demanded evaluation returning)) recorded) recorded
    (run evaluation returning s).intent = handed.intent ∧ (run evaluation returning s).ip = handed.ip :=
  run_handed evaluation returning s

theorem runWords_roles (before : State) (w : Walk) (s : State) :
    (runWords before w s).map (·.1)
      = [.intent .brake, .output .edA, .output .edB, .output .frA, .output .frT, .output .frB] := rfl

theorem Follows.run_ne (h : Follows s t role v)
    (other : role ∉ [Role.intent .brake, .output .edA, .output .edB, .output .frA, .output .frT, .output .frB])
    (evaluation returning : Bool) : Follows s (run evaluation returning t) role v := by
  obtain ⟨intent, ip⟩ := run_hands evaluation returning t
  have began : Follows s { t with blend := t.runRecord evaluation returning } role v := h.of_eq rfl rfl rfl
  refine (began.handAll_ne fun rw hrw same => other ?_).of_eq (by rw [intent]) (by rw [intent]) (by rw [ip])
  rw [← runWords_roles t, ← same]
  exact List.mem_map_of_mem hrw

theorem Follows.run_self (h : Follows s t role v)
    (own : role ∈ [Role.intent .brake, .output .edA, .output .edB, .output .frA, .output .frT, .output .frB])
    (evaluation returning : Bool) : ∃ w, Follows s (run evaluation returning t) role (some w) := by
  obtain ⟨intent, ip⟩ := run_hands evaluation returning t
  have began : Follows s { t with blend := t.runRecord evaluation returning } role v := h.of_eq rfl rfl rfl
  obtain ⟨w, handed⟩ := began.handAll_self
    (words := runWords t (t.walk (t.demanded evaluation returning)) { t with blend := t.runRecord evaluation returning }) own
  exact ⟨w, handed.of_eq (by rw [intent]) (by rw [intent]) (by rw [ip])⟩

/-- The words of a change between ACTIVE and FALLBACK are those of all nine roles. -/
theorem Follows.rewords_self (h : Follows s t role v) (returning : Bool) :
    ∃ w, Follows s (rewords returning t) role (some w) := by
  by_cases own : role ∈ [Role.intent .brake, .output .edA, .output .edB, .output .frA, .output .frT, .output .frB]
  · have apart {q : Role}
        (hq : q ∉ [Role.intent .brake, .output .edA, .output .edB, .output .frA, .output .frT, .output .frB]) :
        q ≠ role := fun same => hq (same ▸ own)
    have claimed := (h.claim_ne (m := .a) false (apart (by decide))).claim_ne (m := .b) false (apart (by decide))
    exact (claimed.hand_ne (apart (by decide)) _).run_self own false returning
  · suffices ∃ w, Follows s (handMode (claimBoth false t)) role (some w) from
      this.imp fun w handed => handed.run_ne own false returning
    rcases role with (_ | _ | _) | _ | x
    case intent.tractionA =>
      obtain ⟨w, handed⟩ := h.claim_self (m := .a) false
      exact ⟨w, (handed.claim_ne (m := .b) false (by decide)).hand_ne (by decide) _⟩
    case intent.tractionB =>
      obtain ⟨w, handed⟩ := (h.claim_ne (m := .a) false (by decide)).claim_self (m := .b) false
      exact ⟨w, handed.hand_ne (by decide) _⟩
    case intent.brake => exact absurd (by decide) own
    case mode =>
      exact ⟨_, ((h.claim_ne (m := .a) false (by decide)).claim_ne (m := .b) false (by decide)).handMode_self⟩
    case output => exact absurd (by cases x <;> decide) own

/-- Of the MODE word that a change between ACTIVE and FALLBACK hands, the fields and the tag. -/
theorem Follows.rewords_mode (h : Follows s t .mode v) (returning : Bool) :
    Follows s (rewords returning t) .mode (some (modeWord t.intent.accepted t.modeTag)) := by
  have claimed : Follows s (claimBoth false t) .mode v :=
    (h.claim_ne (m := .a) false (by decide)).claim_ne (m := .b) false (by decide)
  have accepted : (claimBoth false t).intent.accepted = t.intent.accepted := by simp
  have tag : (claimBoth false t).modeTag = t.modeTag := by simp [State.modeTag]
  rw [← accepted, ← tag]
  exact claimed.handMode_self.run_ne (by decide) false returning

end Sys2Proof.Machine
end

section
/-! PROOF support. What an allocator run leaves in its record and in the reporter, and the entry to FALLBACK. -/

namespace Sys2Proof.Machine

variable {s : State}

/-! ### Reports of a run (R128, R134, R135, R144) -/

/-- A property of the reporter that raising and the count of sand pulses keep. -/
structure Reporter.Kept (P : Reporter → Prop) : Prop where
  raise : ∀ r c, P r → P (r.raise c)
  pulse : ∀ r, P r → P (r.bump Counter.sandPulseStart.number)

variable {P : Reporter → Prop}

theorem raiseIf_rep_keeps (kept : Reporter.Kept P) (b : Bool) (c : Cause) (h : P s.rep) : P (raiseIf b c s).rep := by
  simp only [raiseIf]
  split
  · exact kept.raise _ _ h
  · exact h

theorem offer_rep_keeps (kept : Reporter.Kept P) (i : SanderId) (parts : List Trigger) (h : P s.rep) :
    P (offer i parts s).rep := by
  simp only [offer]
  split
  · exact h
  · exact kept.raise _ _ h
  · exact kept.pulse _ h

theorem sandRelease_rep_keeps (kept : Reporter.Kept P) (h : P s.rep) : P (sandRelease s).rep :=
  offer_rep_keeps kept _ _ (offer_rep_keeps kept _ _ (offer_rep_keeps kept _ _ (offer_rep_keeps kept _ _ h)))

theorem run_rep_keeps (kept : Reporter.Kept P) (evaluation returning : Bool) (h : P s.rep) :
    P (run evaluation returning s).rep := by
  simp only [run]
  split
  · refine sandRelease_rep_keeps kept ?_
    simp only [handRun_rep, rollbackClear_rep]
    exact raiseIf_rep_keeps kept _ _ (raiseIf_rep_keeps kept _ _ h)
  · simp only [handRun_rep, rollbackClear_rep]
    exact raiseIf_rep_keeps kept _ _ (raiseIf_rep_keeps kept _ _ h)

theorem rewords_rep_keeps (kept : Reporter.Kept P) (returning : Bool) (h : P s.rep) : P (rewords returning s).rep :=
  run_rep_keeps kept _ _ (by simpa using h)

/-- A set flag stays set. -/
theorem kept_flag (c : Cause) : Reporter.Kept fun r => r.flag c = true :=
  ⟨fun r d h => by simp [h], fun r h => h⟩

end Sys2Proof.Machine
end

section
/-! PROOF support. A fallback cause, by the part state it meets, and what entry to FALLBACK leaves (R20, R138, R177). -/

namespace Sys2Proof.Machine

variable {s : State}

theorem deliverCause_of_active (h : s.ctl.part = .active) (x : FallbackCause) :
    deliverCause x s = enterFallback (withCtl (fun c => { c with causes := c.causes.join x }) s) := by
  simp only [deliverCause, h]

theorem deliverCause_of_fallback (h : s.ctl.part = .fallback) (x : FallbackCause) :
    deliverCause x s = withCtl (fun c => { c with causes := c.causes.join x }) s := by
  simp only [deliverCause, h]

theorem deliverCause_of_waiting (h : s.ctl.part = .standby ∨ s.ctl.part = .waking) (x : FallbackCause) :
    deliverCause x s = withCtl (fun c => { c with fallbackPending := c.fallbackPending || x == .memoryFault }) s := by
  rcases h with h | h <;> simp only [deliverCause, h]

theorem deliverCause_of_none (h : s.ctl.part = .reset ∨ s.ctl.part = .publish ∨ s.ctl.part = .setup) (x : FallbackCause) :
    deliverCause x s = s := by
  rcases h with h | h | h <;> simp only [deliverCause, h]

/-- Outside ACTIVE and FALLBACK a cause can set fallback pending alone. -/
theorem deliverCause_of_not_inForce (h : s.inForce = false) (x : FallbackCause) :
    deliverCause x s = { s with ctl := (deliverCause x s).ctl } := by
  cases part : s.ctl.part with
  | active | fallback => simp [State.inForce, part] at h
  | standby => rw [deliverCause_of_waiting (.inl part)]; rfl
  | waking => rw [deliverCause_of_waiting (.inr part)]; rfl
  | reset => rw [deliverCause_of_none (.inl part)]
  | publish => rw [deliverCause_of_none (.inr (.inl part))]
  | setup => rw [deliverCause_of_none (.inr (.inr part))]

/-- Outside ACTIVE and FALLBACK another cause than MEMORY_FAULT changes nothing. -/
theorem deliverCause_of_idle (h : s.inForce = false) {x : FallbackCause} (other : x ≠ .memoryFault) :
    deliverCause x s = s := by
  have pending : (x == .memoryFault) = false := by simpa using other
  cases part : s.ctl.part with
  | active | fallback => simp [State.inForce, part] at h
  | standby => simp [deliverCause_of_waiting (.inl part), withCtl, pending]
  | waking => simp [deliverCause_of_waiting (.inr part), withCtl, pending]
  | reset => rw [deliverCause_of_none (.inl part)]
  | publish => rw [deliverCause_of_none (.inr (.inl part))]
  | setup => rw [deliverCause_of_none (.inr (.inr part))]

theorem enterFallback_ctl (s : State) : (enterFallback s).ctl = { s.ctl with part := .fallback } := by
  simp [enterFallback, withCtl]

/-- The state in which the words of an entry to FALLBACK are handed (R138). -/
def fallbackEntered (s : State) : State :=
  allocatorFallback (raise .fallback (withCtl (fun c => { c with part := .fallback }) s))

theorem enterFallback_eq (s : State) : enterFallback s = rewords false (fallbackEntered s) := rfl

/-- In FALLBACK a claim leaves no held traction. -/
theorem claim_held_of_fallback (h : s.ctl.part = .fallback) (m : Motor) :
    (claim false m s).intent.held = s.intent.held.set m 0 := by
  rw [claim_held]
  simp [State.claimed, target_eq_zero (.inr (.inr (.inl h)))]

theorem rewords_held (returning : Bool) (s : State) :
    (rewords returning s).intent.held = (claimBoth false s).intent.held := by
  simp [rewords]

theorem enterFallback_held (s : State) (m : Motor) : (enterFallback s).intent.held.get m = 0 := by
  have part : (fallbackEntered s).ctl.part = .fallback := rfl
  rw [enterFallback_eq, rewords_held]
  simp only [claimBoth]
  rw [claim_held_of_fallback (by simpa using part), claim_held_of_fallback part]
  cases m <;> rfl

theorem run_hill (evaluation returning : Bool) (s : State) :
    (run evaluation returning s).blend.hill = s.nextHill returning := by rw [run_blend]; rfl

theorem run_shortfall (evaluation returning : Bool) (s : State) (m : Motor) :
    (run evaluation returning s).blend.shortfall.get m
      = (s.intent.accepted.regime == .serviceBrake && s.blend.shortfall.get m) := by
  rw [run_blend]
  exact PerMotor.get_build ..

theorem nextHill_of_not_active (h : s.ctl.part ≠ .active) (returning : Bool) : s.nextHill returning = .off := if_neg h

theorem enterFallback_hill (s : State) : (enterFallback s).blend.hill = .off := by
  rw [enterFallback_eq, rewords, run_hill]
  exact nextHill_of_not_active (by simp [fallbackEntered, withCtl]) _

theorem enterFallback_shortfall (s : State) (m : Motor) : (enterFallback s).blend.shortfall.get m = false := by
  have cleared : (fallbackEntered s).blend.shortfall.get m = false := by cases m <;> rfl
  rw [enterFallback_eq, rewords, run_shortfall]
  simp [cleared]

theorem enterFallback_rep_keeps {P : Reporter → Prop} (kept : Reporter.Kept P) (h : P s.rep) : P (enterFallback s).rep :=
  rewords_rep_keeps kept _ (kept.raise _ _ h)

theorem enterFallback_flag (s : State) : (enterFallback s).rep.flag .fallback = true :=
  rewords_rep_keeps (kept_flag .fallback) _ (by simp [raise])

theorem deliverCause_rep_keeps {P : Reporter → Prop} (kept : Reporter.Kept P) (x : FallbackCause) (h : P s.rep) :
    P (deliverCause x s).rep := by
  simp only [deliverCause]
  split
  · exact enterFallback_rep_keeps kept h
  all_goals exact h

/-- What entry to FALLBACK leaves alone. -/
theorem enterFallback_frame (s : State) :
    enterFallback s
      = { s with
          ctl := (enterFallback s).ctl, ip := (enterFallback s).ip, intent := (enterFallback s).intent
          ref := (enterFallback s).ref, ev := (enterFallback s).ev, blend := (enterFallback s).blend
          sand := (enterFallback s).sand, rep := (enterFallback s).rep } :=
  State.ext (by simp) (by simp) (by simp) rfl (by simp) rfl rfl (by simp) rfl rfl (by simp) rfl rfl (by simp) rfl (by simp)
    (by simp) (by simp) (by simp)

theorem deliverCause_frame (x : FallbackCause) (s : State) :
    deliverCause x s
      = { s with
          ctl := (deliverCause x s).ctl, ip := (deliverCause x s).ip, intent := (deliverCause x s).intent
          ref := (deliverCause x s).ref, ev := (deliverCause x s).ev, blend := (deliverCause x s).blend
          sand := (deliverCause x s).sand, rep := (deliverCause x s).rep } :=
  State.ext (by simp) (by simp) (by simp) rfl (by simp) rfl rfl (by simp) rfl rfl (by simp) rfl rfl (by simp) rfl (by simp)
    (by simp) (by simp) (by simp)

/-- At entry to FALLBACK the MODE word goes out with the accepted MODE and tag FALLBACK. -/
theorem Follows.enterFallback_mode {t : State} {v : Option Word} (h : Follows s t .mode v) :
    Follows s (enterFallback t) .mode (some (modeWord t.intent.accepted .fallback)) :=
  (h.of_eq (u := fallbackEntered t) rfl rfl rfl).rewords_mode false

theorem Follows.withCtl {t : State} {role : Role} {v : Option Word} (h : Follows s t role v)
    (f : Controller → Controller) : Follows s (withCtl f t) role v := h.of_eq rfl rfl rfl

/-- A fallback cause in ACTIVE hands the MODE word with tag FALLBACK. -/
theorem Follows.deliverCause_mode {t : State} {v : Option Word} (h : Follows s t .mode v) (active : t.ctl.part = .active)
    (x : FallbackCause) : Follows s (deliverCause x t) .mode (some (modeWord t.intent.accepted .fallback)) := by
  rw [deliverCause_of_active active]
  exact (h.withCtl _).enterFallback_mode

theorem Follows.enterFallback_self {t : State} {role : Role} {v : Option Word} (h : Follows s t role v) :
    ∃ w, Follows s (enterFallback t) role (some w) :=
  (h.of_eq (u := fallbackEntered t) rfl rfl rfl).rewords_self false

end Sys2Proof.Machine
end

section
/-! PROOF of `Obligations.RefreshExpiryMakesStale`: a refresh timer's expiry by its channel, and the MODE word. -/

namespace Sys2Proof.Machine

variable {s : State}

theorem exec_refreshExpiry {c : IntentRole} {d : Nat} (h : s.intent.refreshTimer c = some d) :
    exec (.refreshTimerExpiry c) s = .next (finish (refreshEnd c { s with now := max s.now d })) := by
  change Host.Outcome.next (finish (onExpiry (s.intent.refreshTimer c) (refreshEnd c) s)) = _
  rw [h, onExpiry_some]

theorem claimed_of_value_zero {m : Motor} (h : s.intent.value m.role = 0) : s.claimed false m = 0 := by
  have target := target_le_scaled s m
  simp only [h, Nat.zero_min, Nat.zero_mul, Nat.zero_div, Nat.le_zero] at target
  simp [State.claimed, target]

theorem modeTag_eq (s : State) :
    s.modeTag
      = if s.ctl.part = .fallback then .fallback
        else if s.intent.mode.fresh = .absent ∨ s.intent.mode.fresh = .stale then .default
        else if s.intent.adjusted = true then .corrected
        else .effective := by
  simp only [State.modeTag]
  cases s.intent.mode.fresh <;> simp

/-- The MODE word at the channel's expiry: in FALLBACK with that tag, elsewhere DEFAULT (R8, R15). -/
theorem staleMode_follows (s : State) :
    Follows s (staleMode s) .mode
      (some (modeWord s.intent.accepted (if s.ctl.part = .fallback then .fallback else .default))) := by
  have began : Follows s
      (raise .staleIntent
        { s with intent := { s.intent with mode := { s.intent.mode with fresh := .stale, timer := none } } })
      .mode none := (Follows.refl s .mode).of_eq rfl rfl rfl
  have formed := began.handMode_self
  rwa [State.modeTag] at formed

/-- With MODE stale, the MODE word ends with tag FALLBACK where the part serves, and with DEFAULT elsewhere. -/
theorem modeStale_follows (s : State) :
    Follows s (deliverCause .modeStale (staleMode s)) .mode
      (some (modeWord s.intent.accepted (if s.inForce = true then .fallback else .default))) := by
  have handed := staleMode_follows s
  have ctl : (staleMode s).ctl = s.ctl := by simp
  by_cases force : s.inForce = true
  · rw [if_pos force]
    rcases (by simpa [State.inForce] using force : s.ctl.part = .active ∨ s.ctl.part = .fallback) with part | part
    · have accepted : (staleMode s).intent.accepted = s.intent.accepted := by simp [staleMode]
      rw [← accepted]
      exact handed.deliverCause_mode (by rw [ctl]; exact part) _
    · rw [deliverCause_of_fallback (by rw [ctl]; exact part)]
      rw [if_pos part] at handed
      exact handed.withCtl _
  · have part : s.ctl.part ≠ .fallback := fun fallback => force (by simp [State.inForce, fallback])
    rw [deliverCause_of_idle (by simpa [State.inForce] using force) (x := .modeStale) nofun, if_neg force]
    rwa [if_neg part] at handed

/-- Settles O37: a stale traction channel claims on its bogie with the intent 0, a stale BRAKE leads to a run, a stale MODE
hands its word and is a fallback cause, by the part state it meets. -/
theorem refreshExpiryMakesStale : Obligations.RefreshExpiryMakesStale := by
  refine ⟨fun r d s timer => ?_, fun d s timer => ?_, fun s => ?_⟩
  · intro stale
    have expired := exec_refreshExpiry (c := .effort r) timer
    have value : stale.intent.value r = 0 := by simp [stale, IntentTable.value]
    refine ⟨fun m hm => ?_, fun hr force => ?_, fun hr force => ?_⟩
    · subst hm
      have claimed : claim false m stale
          = handTraction m { stale with intent := { stale.intent with held := s.intent.held.set m 0 } } := by
        simp only [claim, claimed_of_value_zero value]
        rfl
      rw [expired, ← claimed]
      cases m <;> rfl
    · subst hr
      have serves : runServing stale = run false false stale := if_pos force
      refine ⟨value, ?_⟩
      rw [expired, ← serves]
      rfl
    · subst hr
      have serves : runServing stale = stale := if_neg (by simpa [State.inForce] using force)
      rw [expired, ← serves]
      rfl
  · let stale : State := staleMode { s with now := max s.now d }
    have ctl : stale.ctl = s.ctl := by simp [stale]
    have held : stale.intent.held = s.intent.held := by simp [stale, staleMode]
    have rep : stale.rep = s.rep.raise .staleIntent := by simp [stale, staleMode, raise]
    refine ⟨deliverCause .modeStale stale, exec_refreshExpiry (c := .mode) timer, by simp [stale], ?_, ?_, ?_, ?_, ?_, ?_, ?_,
      ?_, ?_⟩
    · simp [stale, staleMode]
    · simp [stale, staleMode]
    · simp [stale, staleMode]
    · exact deliverCause_rep_keeps (kept_flag .staleIntent) _ (by simp [rep])
    · exact (modeStale_follows { s with now := max s.now d }).handed _ rfl
    · intro active
      rw [deliverCause_of_active (by rw [ctl]; exact active)]
      refine ⟨by rw [enterFallback_ctl]; simp [withCtl, ctl, CauseSet.join], enterFallback_flag _, enterFallback_held _,
        enterFallback_hill _, enterFallback_shortfall _⟩
    · intro fallback
      rw [deliverCause_of_fallback (by rw [ctl]; exact fallback)]
      exact ⟨by simp [withCtl, ctl, CauseSet.join], held⟩
    · intro idle
      rw [deliverCause_of_idle (by simpa [State.inForce, ctl] using idle) (x := .modeStale) nofun]
      exact ⟨ctl, rep, held⟩
    · rw [deliverCause_frame]
      simp [stale, staleMode]
  · intro tag
    refine ⟨by rw [handMode, modeTag_eq], rfl, ?_⟩
    exact (Follows.refl s .mode).enterFallback_mode.handed _ rfl

end Sys2Proof.Machine
end

section
/-! PROOF of `Obligations.FailedWriteBacksRetryThenAreAbandoned`: a failed write-back by what its entry has seen. -/

namespace Sys2Proof.Machine

variable {s : State} {f : InFlight}

/-! ### A failed write-back (R37, R38, R40) -/

/-- The entry in flight after one more failed attempt. -/
def InFlight.failed (f : InFlight) : QueueEntry := { f.entry with attempts := f.entry.attempts + 1 }

theorem writebackFailed_of_inflight (h : s.ip.inflight = some f) :
    writebackFailed s
      = if f.discarding then landFlight s
        else if 3 ≤ f.failed.attempts then abandonEntry f.failed (landFlight s)
        else if s.ip.queue.any fun q => q.addr = f.failed.addr then count .writebackSuperseded (landFlight s)
        else returnEntry f.failed (landFlight s) := by
  simp only [writebackFailed, h]
  rfl

theorem writebackFailed_of_discarding (h : s.ip.inflight = some f) (discarding : f.discarding = true) :
    writebackFailed s = landFlight s := by
  rw [writebackFailed_of_inflight h, if_pos discarding]

theorem writebackFailed_of_superseded (h : s.ip.inflight = some f) (kept : f.discarding = false)
    (early : f.entry.attempts < 2) (newer : ∃ q ∈ s.ip.queue, q.addr = f.failed.addr) :
    writebackFailed s = count .writebackSuperseded (landFlight s) := by
  have attempts : ¬ 3 ≤ f.failed.attempts := by simp only [InFlight.failed]; omega
  rw [writebackFailed_of_inflight h, if_neg (by simp [kept]), if_neg attempts, if_pos (by simpa using newer)]

theorem writebackFailed_of_retry (h : s.ip.inflight = some f) (kept : f.discarding = false)
    (early : f.entry.attempts < 2) (latest : ∀ q ∈ s.ip.queue, q.addr ≠ f.failed.addr) :
    writebackFailed s = returnEntry f.failed (landFlight s) := by
  have attempts : ¬ 3 ≤ f.failed.attempts := by simp only [InFlight.failed]; omega
  rw [writebackFailed_of_inflight h, if_neg (by simp [kept]), if_neg attempts, if_neg (by simpa using latest)]

theorem writebackFailed_of_spent (h : s.ip.inflight = some f) (kept : f.discarding = false)
    (late : 2 ≤ f.entry.attempts) : writebackFailed s = abandonEntry f.failed (landFlight s) := by
  have attempts : 3 ≤ f.failed.attempts := by simp only [InFlight.failed]; omega
  rw [writebackFailed_of_inflight h, if_neg (by simp [kept]), if_pos attempts]

theorem exec_writebackFailed (h : s.awaits .queue = true) :
    exec .writebackFailed s = .next (finish (writebackFailed s)) := by
  change Host.Outcome.next (finish (completion .queue (s.onPort .queue) writebackFailed s)) = _
  rw [completion_of_awaits h]

theorem writebackFailed_inflight (h : s.ip.inflight = some f) : (writebackFailed s).ip.inflight = none := by
  rw [writebackFailed_of_inflight h]
  (repeat' split)
  · rfl
  · simp [abandonEntry, landFlight]
  · rfl
  · rfl

/-! ### Abandonment (R38) -/

/-- The state in which MEMORY_FAULT is delivered for an abandoned entry. -/
def abandoned (e : QueueEntry) (s : State) : State :=
  raise .memoryFault (count .writebackAbandoned
    { s with
      ip := { s.ip with lastAbandoned := some e.origin }
      intent := { s.intent with handed := s.intent.handed.set e.origin none } })

theorem abandonEntry_eq (e : QueueEntry) (s : State) :
    abandonEntry e s = deliverCause .memoryFault (abandoned e s) := rfl

/-- Raising a cause leaves the counters of the events that no cause counts. -/
theorem Reporter.raise_counter {i : Fin 40} (h : i < 26) (r : Reporter) (c : Cause) :
    (r.raise c).counter i = r.counter i := by
  simp only [Reporter.raise]
  split
  · rfl
  · split
    · rename_i j latch
      have other : i ≠ j := by
        rintro rfl
        cases c <;> simp only [Cause.latchCounter, Option.some.injEq, reduceCtorEq] at latch <;>
          (rw [← latch] at h; exact absurd h (by decide))
      rw [Reporter.bump_counter, if_neg fun both => other both.1]
      rfl
    · rfl

theorem kept_counter {i : Fin 40} (h : i < 26) (pulse : i ≠ Counter.sandPulseStart.number) (n : Nat) :
    Reporter.Kept fun r => r.counter i = n :=
  ⟨fun r c hr => by rw [Reporter.raise_counter h, hr],
    fun r hr => by rw [Reporter.bump_counter, if_neg fun both => pulse both.1, hr]⟩

/-- From ACTIVE the role of an abandoned entry, with no last handed word, is handed whatever its word is (R18, R38). -/
theorem abandoned_rehanded {e : QueueEntry} (active : s.ctl.part = .active) {a : Addr}
    (ha : s.intent.addrs.get e.origin = some a) :
    ∃ w, (abandonEntry e s).intent.handed.get e.origin = some w
      ∧ ((∀ r, r ≠ e.origin → s.intent.addrs.get r ≠ some a) →
          ∃ q ∈ (abandonEntry e s).ip.queue, q.addr = a ∧ q.word = w) := by
  obtain ⟨w, follows⟩ := ((Follows.refl (abandoned e s) e.origin).withCtl
    fun c => { c with causes := c.causes.join .memoryFault }).enterFallback_self
  have forgotten : (abandoned e s).intent.handed.get e.origin = none := PerRole.get_set_self ..
  obtain ⟨last, waits⟩ := follows.handed w rfl a ha
  rw [abandonEntry_eq, deliverCause_of_active (s := abandoned e s) active]
  exact ⟨w, last, waits (by simp [forgotten])⟩

/-- Settles O33: below the third attempt the four outcomes by their equations; at the third what the delivered MEMORY_FAULT
does in each part state. -/
theorem failedWriteBacksRetryThenAreAbandoned : Obligations.FailedWriteBacksRetryThenAreAbandoned := by
  refine ⟨fun f s awaits inflight => ?_, fun f s awaits inflight kept late => ?_⟩
  · refine ⟨writebackFailed s, exec_writebackFailed awaits, writebackFailed_inflight inflight, fun discarding => ?_,
      fun kept early newer => ?_, fun kept early latest => ?_, fun early => ?_⟩
    · rw [writebackFailed_of_discarding inflight discarding]
      exact ⟨rfl, rfl, rfl, rfl⟩
    · rw [writebackFailed_of_superseded inflight kept early newer]
      exact ⟨rfl, rfl, rfl, rfl⟩
    · rw [writebackFailed_of_retry inflight kept early latest]
      exact ⟨rfl, rfl, rfl, rfl, rfl⟩
    · by_cases discarding : f.discarding = true
      · rw [writebackFailed_of_discarding inflight discarding]
        rfl
      · have kept := eq_false_of_ne_true discarding
        have early := early.resolve_left discarding
        by_cases newer : ∃ q ∈ s.ip.queue, q.addr = f.failed.addr
        · rw [writebackFailed_of_superseded inflight kept early newer]
          rfl
        · rw [writebackFailed_of_retry inflight kept early fun q hq same => newer ⟨q, hq, same⟩]
          rfl
  · have spent := writebackFailed_of_spent inflight kept late
    let began := abandoned f.failed (landFlight s)
    have delivered : writebackFailed s = deliverCause .memoryFault began := spent
    have frame := deliverCause_frame .memoryFault began
    have intent : (deliverCause .memoryFault began).intent
        = { s.intent with
            held := (deliverCause .memoryFault began).intent.held
            handed := (deliverCause .memoryFault began).intent.handed } := by
      refine IntentTable.ext ?_ ?_ ?_ ?_ rfl rfl ?_ <;> simp [began, abandoned, landFlight, raise, count]
    refine ⟨writebackFailed s, exec_writebackFailed awaits, writebackFailed_inflight inflight, ?_⟩
    have active (h : s.ctl.part = .active) (a : Addr) (ha : s.intent.addrs.get f.entry.origin = some a) :=
      abandoned_rehanded (s := landFlight s) (e := f.failed) h ha
    rw [abandonEntry_eq] at active
    rw [delivered]
    refine ⟨?_, deliverCause_rep_keeps (kept_flag .memoryFault) _ (by simp [began, abandoned, raise]),
      deliverCause_rep_keeps (kept_counter (by decide) (by decide) _) _ (Reporter.raise_counter (by decide) ..),
      fun other => ?_, active, fun force => ?_, fun waiting => ?_, intent, frame⟩
    · rw [deliverCause_ip_lastAbandoned]
      rfl
    · by_cases fallback : s.ctl.part = .fallback
      · rw [deliverCause_of_fallback (s := began) fallback]
        exact ⟨rfl, rfl, rfl⟩
      · have idle : began.inForce = false := by
          change s.inForce = false
          simp [State.inForce, other, fallback]
        rw [deliverCause_of_not_inForce idle]
        exact ⟨rfl, rfl, rfl⟩
    · rcases (by simpa [State.inForce] using force : s.ctl.part = .active ∨ s.ctl.part = .fallback) with part | part
      · rw [deliverCause_of_active (s := began) part, enterFallback_ctl]
        rfl
      · rw [deliverCause_of_fallback (s := began) part, ← part]
        rfl
    · rw [deliverCause_of_waiting (s := began) waiting]
      change ({ s.ctl with fallbackPending := s.ctl.fallbackPending || true } : Controller) = _
      rw [Bool.or_true]

end Sys2Proof.Machine
end

section
/-! PROOF of `Obligations.ResetTakesPowerOnValues`: a reset, and the values it leaves. -/

namespace Sys2Proof.Machine

/-- Settles O6: nothing waits for the port in RESET and the lines are down, so that `finish` adds nothing; the values stand
in the power-on records. -/
theorem resetTakesPowerOnValues : Obligations.ResetTakesPowerOnValues := by
  refine ⟨fun s => ⟨rfl, rfl⟩, ?_⟩
  have handed (r : Role) : State.reset.intent.handed.get r = none := PerRole.get_same ..
  have addrs (r : Role) : State.reset.intent.addrs.get r = none := PerRole.get_same ..
  refine ⟨rfl, rfl, rfl, rfl, rfl, rfl, rfl, rfl, rfl, rfl, rfl, rfl, rfl, rfl, rfl, rfl, fun r => by cases r <;> rfl, rfl,
    rfl,
    fun m => by cases m <;> rfl, handed, addrs, rfl, rfl, rfl, rfl, rfl, rfl, rfl, rfl, fun i => by cases i <;> rfl,
    fun y => by cases y <;> rfl, rfl, fun y => by cases y <;> exact ⟨rfl, rfl⟩, rfl, rfl, rfl, rfl, rfl,
    fun x => by cases x <;> rfl, rfl, rfl, rfl, rfl, rfl, fun i => by cases i <;> exact ⟨rfl, rfl, rfl, rfl⟩, rfl, rfl, rfl,
    rfl, rfl, rfl, rfl, rfl, fun c => by cases c <;> rfl, rfl, by decide, rfl, rfl, rfl, rfl⟩

end Sys2Proof.Machine
end

section
/-! PROOF of `Obligations.IntentTuningActsAtItsTaking`: what the limits and refresh words of the intent channels do. -/

namespace Sys2Proof.Machine

variable {s : State}

@[simp] theorem completed_inForce (s : State) (ok : Bool) (d : Word) : (s.completed ok d).inForce = s.inForce := rfl

/-- A tuning word of the intent channels that stands on the port is taken (R9, R174). -/
theorem exec_intentTuning {off : BitVec 8} {w : Word} (h : s.pageStands off w) (low : 0x40 ≤ off.toNat)
    (high : off.toNat ≤ 0x48) :
    exec .intentTuningWrite s = .next (finish (takeTuning off.toNat w (s.completed true 0))) := by
  change Host.Outcome.next (finish (takenOnPort (fun off _ => 0x40 ≤ off && off ≤ 0x48) s)) = _
  rw [takenOnPort_of_stands h (by simp [low, high])]
  simp only [takePage]
  rw [if_neg (by omega), if_neg (by omega), if_neg (by omega), if_neg (by omega)]

/-- The state with a tuning word's items replaced. -/
def State.tuned (s : State) (off : Nat) (w : Word) : State :=
  { s with cfg := { s.cfg with tun := s.cfg.tun.setWord off w } }

theorem tuned_limits {off : Nat} {r : EffortRole} (h : limitsAt off = some r) (w : Word) (s : State) :
    (s.tuned off w).cfg.tun.intent.limits.get r = ⟨bits w 0 16, bits w 16 16⟩ := by
  change (s.cfg.tun.setWord off w).intent.limits.get r = _
  rw [setWord_limits, h]
  exact PerEffort.get_set_self ..

/-- A limits word (R9). -/
theorem takeTuning_of_limits {off : Nat} {r : EffortRole} (h : limitsAt off = some r) (w : Word) (s : State) :
    takeTuning off w s
      = if s.inForce = true ∧ (⟨bits w 0 16, bits w 16 16⟩ : Limits) ≠ s.cfg.tun.intent.limits.get r then
          limitsChanged r (s.tuned off w)
        else s.tuned off w := by
  change tuningActs off s.cfg.tun (s.tuned off w) = _
  simp only [tuningActs, h, tuned_limits h]
  rfl

/-- A refresh word (R9). -/
theorem takeTuning_of_refresh {off : Nat} {r : EffortRole} (h : refreshAt off = some r) (other : limitsAt off = none)
    (w : Word) (s : State) :
    takeTuning off w s
      = if s.inForce = true then changeRefresh r (s.cfg.tun.intent.refresh.get r) (s.tuned off w) else s.tuned off w := by
  change tuningActs off s.cfg.tun (s.tuned off w) = _
  simp only [tuningActs, h, other]
  rfl

/-- The stored intent clipped to new limits (R9). -/
theorem clipStored_eq (r : EffortRole) (s : State) :
    clipStored r s
      = { s with
          intent :=
            { s.intent with
              channels := s.intent.channels.set r
                { s.intent.channels.get r with
                  intent := (s.intent.channels.get r).intent.map (clip (s.cfg.tun.intent.limits.get r)) } }
          rep :=
            if (s.intent.channels.get r).intent.map (clip (s.cfg.tun.intent.limits.get r)) = (s.intent.channels.get r).intent
            then s.rep else s.rep.bump 0 } := by
  simp only [clipStored, countIf, bne_iff_ne, ne_eq, ite_not]
  rfl

/-- A stored intent within the new limits stands, and nothing is counted. -/
theorem clipStored_of_within {r : EffortRole}
    (h : (s.intent.channels.get r).intent.map (clip (s.cfg.tun.intent.limits.get r)) = (s.intent.channels.get r).intent) :
    clipStored r s = s := by
  have stands : s.intent.channels.set r (s.intent.channels.get r) = s.intent.channels := by cases r <;> rfl
  rw [clipStored_eq, if_pos h, h]
  change { s with intent := { s.intent with channels := s.intent.channels.set r (s.intent.channels.get r) } } = s
  rw [stands]

theorem limitsChanged_motor (m : Motor) (s : State) : limitsChanged m.role s = claim false m (clipStored m.role s) := by
  cases m <;> rfl

theorem clipStored_intent (s : State) :
    (clipStored .brake s).intent.channels.brake.intent
      = s.intent.channels.brake.intent.map (clip s.cfg.tun.intent.limits.brake) := by
  rw [clipStored_eq]
  rfl

theorem limitsChanged_brake_of_within
    (h : s.intent.channels.brake.intent.map (clip s.cfg.tun.intent.limits.brake) = s.intent.channels.brake.intent) :
    limitsChanged .brake s = s := by
  simp only [limitsChanged, clipStored_of_within (r := .brake) h, if_true]

theorem limitsChanged_brake_of_moved
    (h : s.intent.channels.brake.intent.map (clip s.cfg.tun.intent.limits.brake) ≠ s.intent.channels.brake.intent) :
    limitsChanged .brake s = runServing (clipStored .brake s) := by
  simp only [limitsChanged, clipStored_intent, if_neg h]

/-- Settles O27: each word by the equation of its taking, and a stored intent by whether the new limits move it. -/
theorem intentTuningActsAtItsTaking : Obligations.IntentTuningActsAtItsTaking := by
  refine ⟨fun m w off s stands at' => ?_, fun w s stands => ?_, fun r w off s stands at' => ?_⟩
  · intro old new c clipped s1
    have place : limitsAt off.toNat = some m.role := by subst at'; cases m <;> rfl
    have page : 0x40 ≤ off.toNat ∧ off.toNat ≤ 0x48 := by subst at'; cases m <;> decide
    have limits : s1.cfg.tun.intent.limits.get m.role = new := tuned_limits place w (s.completed true 0)
    have taken := exec_intentTuning stands page.1 page.2
    rw [takeTuning_of_limits place, completed_inForce, State.completed_cfg] at taken
    refine ⟨limits, fun idle => ?_, fun force changed => ?_⟩
    · rw [taken, if_neg fun ⟨force, changed⟩ => idle.elim (fun h => by rw [h] at force; cases force) changed]
      rfl
    · have acts : clipStored m.role ((s.completed true 0).tuned off.toNat w)
          = { s1 with
              intent := { s.intent with channels := s.intent.channels.set m.role { c with intent := clipped } }
              rep := if clipped = c.intent then s.rep else s.rep.bump 0 } := by
        rw [clipStored_eq, tuned_limits place]
        rfl
      rw [taken, if_pos ⟨force, changed⟩, limitsChanged_motor, acts]
  · intro old new c clipped s1
    have place : limitsAt 0x42 = some .brake := rfl
    have taken : exec .intentTuningWrite s = .next (finish (takeTuning 0x42 w (s.completed true 0))) :=
      exec_intentTuning stands (by decide) (by decide)
    rw [takeTuning_of_limits place, completed_inForce, State.completed_cfg] at taken
    have limits : s1.cfg.tun.intent.limits.brake = new := tuned_limits place w (s.completed true 0)
    have clips : s1.intent.channels.brake.intent.map (clip s1.cfg.tun.intent.limits.brake) = clipped := by
      rw [limits]
      rfl
    refine ⟨fun idle => ?_, fun force changed moved => ?_⟩
    · rw [taken]
      split
      · rename_i acts
        have within : clipped = c.intent := (idle.resolve_left (by simp [acts.1])).resolve_left acts.2
        exact congrArg (fun x => Host.Outcome.next (finish x)) (limitsChanged_brake_of_within (s := s1) (clips.trans within))
      · rfl
    · have serves : (clipStored .brake s1).inForce = true := by rw [clipStored_eq]; exact force
      have ran : limitsChanged .brake s1 = run false false (clipStored .brake s1) := by
        rw [limitsChanged_brake_of_moved (s := s1) (clips ▸ moved), runServing, if_pos serves]
      have acts : clipStored .brake s1
          = { s1 with
              intent := { s.intent with channels := { s.intent.channels with brake := { c with intent := clipped } } }
              rep := s.rep.bump 0 } := by
        rw [clipStored_eq, if_neg (clips ▸ moved)]
        simp only [PerEffort.set]
        rw [← clips]
        rfl
      rw [taken, if_pos ⟨force, changed⟩, ← acts, ← ran]
      rfl
  · intro old c timer s1
    have place : refreshAt off.toNat = some r := by subst at'; cases r <;> rfl
    have other : limitsAt off.toNat = none := by subst at'; cases r <;> rfl
    have page : 0x40 ≤ off.toNat ∧ off.toNat ≤ 0x48 := by subst at'; cases r <;> decide
    have taken := exec_intentTuning stands page.1 page.2
    rw [takeTuning_of_refresh place other, completed_inForce, State.completed_cfg] at taken
    refine ⟨fun idle => ?_, fun force => ?_⟩
    · rw [taken, if_neg (by simp [idle])]
      rfl
    · rw [taken, if_pos force]
      subst at'
      cases r <;> rfl

end Sys2Proof.Machine
end

section
/-! PROOF support. The commands of the run word: each as it is taken from the port, and what declines it (R174). -/

namespace Sys2Proof.Machine

variable {s : State} {w : Word}

/-- A run word that stands on the port is taken as a command. -/
theorem takenOnPort_of_command (h : s.pageStands 0xC0 w) {p : Nat → Bool} (value : p (bits w 0 8) = true) :
    takenOnPort (runWord p) s = takeCommand w (s.completed true 0) :=
  takenOnPort_of_stands h (by simp [runWord, value])

theorem exec_goActive (h : s.pageStands 0xC0 w) (value : bits w 0 8 = 1) :
    exec .goActive s = .next (finish (takeGoActive (s.completed true 0))) := by
  change Host.Outcome.next (finish (takenOnPort (runWord (· = 1)) s)) = _
  rw [takenOnPort_of_command h (by simp [value]), takeCommand]
  simp only [show (w.extractLsb' 0 8).toNat = 1 from value]

theorem exec_goSetup (h : s.pageStands 0xC0 w) (value : bits w 0 8 = 2) :
    exec .goSetup s = .next (finish (takeGoSetup (s.completed true 0))) := by
  change Host.Outcome.next (finish (takenOnPort (runWord (· = 2)) s)) = _
  rw [takenOnPort_of_command h (by simp [value]), takeCommand]
  simp only [show (w.extractLsb' 0 8).toNat = 2 from value]

theorem exec_restart (h : s.pageStands 0xC0 w) (value : bits w 0 8 = 3) :
    exec .restart s = .next (finish (takeRestart (s.completed true 0))) := by
  change Host.Outcome.next (finish (takenOnPort (runWord (· = 3)) s)) = _
  rw [takenOnPort_of_command h (by simp [value]), takeCommand]
  simp only [show (w.extractLsb' 0 8).toNat = 3 from value]

theorem exec_standby (h : s.pageStands 0xC0 w) (value : bits w 0 8 = 4) :
    exec .standby s = .next (finish (takeStandby (s.completed true 0))) := by
  change Host.Outcome.next (finish (takenOnPort (runWord (· = 4)) s)) = _
  rw [takenOnPort_of_command h (by simp [value]), takeCommand]
  simp only [show (w.extractLsb' 0 8).toNat = 4 from value]

/-- With no transaction on the port, stopping the fetcher leaves no fetch (R44). -/
theorem fetchStop_of_free (h : s.ip.port = none) :
    fetchStop s
      = { s with
          ip :=
            { s.ip with
              fetchTimer := none, fetch := none
              fetchWait := if s.ip.fetch.isSome then 0 else s.ip.fetchWait } } := by
  have claims : s.fetchClaims = s.ip.fetch.isSome := by simp [State.fetchClaims, h]
  cases hf : s.ip.fetch with
  | none => simp [fetchStop, claims, hf]
  | some f => simp [fetchStop, claims, hf]

/-- An evaluation in progress is abandoned and counted (R82). -/
theorem abandon_eq (s : State) :
    abandon s
      = { s with
          ev := { s.ev with running := none }
          rep := if s.ev.running = none then s.rep else s.rep.bump Counter.evaluationAbandoned.number } := by
  cases h : s.ev.running <;> simp [abandon, countIf, h]

end Sys2Proof.Machine
end

section
/-! PROOF of `Obligations.GoSetupLeavesActive`. -/

namespace Sys2Proof.Machine

/-- What entry to SETUP by GO_SETUP leaves (R179). -/
theorem enterSetupByCommand_eq (s : State) :
    enterSetupByCommand s
      = { s with
          ctl := { s.ctl with part := .setup, causes := {}, fallbackPending := false }
          ip := (fetchStop s).ip
          intent := (cancelRefresh s).intent
          ev :=
            { s.ev with
              slips := PerAxle.build fun i => (s.ev.slips.get i).goSetup
              bogies := PerBogie.build fun _ => BogieRecord.reset
              timers := PerAxle.build fun _ => none, running := none }
          ceil := { s.ceil with queue := [] }
          blend := (allocatorStop s).blend
          sand := (sandGoSetup s).sand
          chain := { s.chain with link := .searching, silence := none, transmit := none }
          rep := if s.ev.running = none then s.rep else s.rep.bump Counter.evaluationAbandoned.number } := by
  simp only [enterSetupByCommand, slipGoSetup, abandon_eq]
  rfl

/-- Settles O22: GO_SETUP by the tests of its rule; what an accepted one leaves stands in the entry's own updates. -/
theorem goSetupLeavesActive : Obligations.GoSetupLeavesActive := by
  intro w s stands value declined
  have taken := exec_goSetup stands value
  refine ⟨fun other => ?_, fun active moving => ?_, fun active hold rest => ?_⟩
  · have : takeGoSetup (s.completed true 0) = declined .wrongState := if_neg other
    rw [taken, this]
  · have : takeGoSetup (s.completed true 0) = declined .notReady := by
      rw [takeGoSetup, if_pos (show (s.completed true 0).ctl.part = .active from active),
        if_neg fun both => moving.elim (· both.1) (· both.2)]
      rfl
    rw [taken, this]
  · have : takeGoSetup (s.completed true 0) = enterSetupByCommand (result 2 .accepted (s.completed true 0)) := by
      rw [takeGoSetup, if_pos (show (s.completed true 0).ctl.part = .active from active), if_pos ⟨hold, rest⟩]
    rw [taken, this]
    rw [enterSetupByCommand_eq]
    exact ⟨_, rfl, rfl, fun r => PerEffort.get_build .., rfl, rfl, rfl, rfl, rfl, rfl, fun y => PerBogie.get_build ..,
      fun i => PerAxle.get_build .., fun i => by cases i <;> exact ⟨rfl, rfl⟩, rfl, rfl, rfl, rfl,
      fun m => by cases m <;> exact ⟨rfl, rfl⟩, fun i => by cases i <;> rfl, rfl, rfl, rfl, rfl, rfl, rfl, rfl⟩

end Sys2Proof.Machine
end

section
/-! PROOF of `Obligations.RestartResetsEveryBlock`. -/

namespace Sys2Proof.Machine

variable {s : State}

theorem slipRestart_eq (s : State) :
    slipRestart s
      = { s with
          ev := { Evaluator.reset with period := s.timer s.controlPeriod, length := s.controlPeriod }
          rep := if s.ev.running = none then s.rep else s.rep.bump Counter.evaluationAbandoned.number } := by
  simp only [slipRestart, abandon_eq]
  rfl

/-- With no report word on the port, a RESTART begins an update of its own (R190). -/
theorem reportRestart_of_free (free : s.ip.port = none) :
    reportRestart s
      = { s with rw := { timer := s.timer s.reportLength, update := some s.newUpdate, pendingUpdate := false } } := by
  cases hu : s.rw.update <;> simp [reportRestart, free, hu]

/-- The controller at a RESTART (R180). -/
def Controller.restarted (c : Controller) : Controller :=
  { c with
    part := .setup, restartCause := .command, causes := {}, fallbackPending := false, previous := none
    movementMark := false, settle := none, commandValue := 3, outcome := .accepted }

/-- What a RESTART leaves where no transaction is on the port (R180). -/
theorem takeRestart_eq (free : s.ip.port = none) :
    takeRestart s
      = { s with
          ctl := s.ctl.restarted
          ip :=
            { s.ip with
              queue := [], inflight := s.ip.inflight.map fun f => { f with discarding := true }
              queueWait := 0, fetchWait := 0, fetchTimer := none, fetch := none }
          intent := { IntentTable.reset with addrs := s.intent.addrs }
          axle := (axleRestart s).axle
          ref := { Reference.reset with odometer := s.ref.odometer, remainder := s.ref.remainder }
          ev := { Evaluator.reset with period := s.timer s.controlPeriod, length := s.controlPeriod }
          ceil := (ceilingRestart s).ceil
          blend := Allocator.reset
          sand := (sandRestart s).sand
          chain :=
            { s.chain with
              receiving := none, buffer := none, link := .searching, silence := none, transmit := none, last := none }
          rep := if s.ev.running = none then s.rep else s.rep.bump Counter.evaluationAbandoned.number
          rw :=
            { timer := s.timer s.reportLength
              update := some { window := none, record := 0, word := 0, contents := none, stopping := false }
              pendingUpdate := false } } := by
  have fetch := fetchStop_of_free (s := { s with ctl := s.ctl.restarted }) free
  have restarted : withCtl
      (fun c =>
        { c with
          part := .setup, restartCause := .command, causes := {}, fallbackPending := false, previous := none
          movementMark := false, settle := none })
      (result 3 .accepted s) = { s with ctl := s.ctl.restarted } := rfl
  simp only [takeRestart, restarted, fetch, slipRestart_eq]
  refine (reportRestart_of_free ?_).trans ?_
  · exact free
  · rfl

/-- A channel in use begins to settle at a RESTART; one that is DISABLED stands (R64). -/
theorem axleRestart_get (i : Axle) (s : State) :
    (axleRestart s).axle.channels.get i
      = if (s.axle.channels.get i).state = .disabled then s.axle.channels.get i
        else (s.axle.channels.get i).emptied.settle s.standstillTimer := PerAxle.get_build ..

/-- Settles O23: every field from the equation of a RESTART on a free port. -/
theorem restartResetsEveryBlock : Obligations.RestartResetsEveryBlock := by
  intro w s stands value _
  have taken := exec_restart stands value
  rw [takeRestart_eq rfl] at taken
  refine ⟨_, taken, rfl, rfl, rfl, rfl, rfl, fun i used => ?_, fun i unused => ?_, rfl, rfl, rfl,
    fun y => PerBogie.get_build .., rfl, rfl, rfl, fun i => PerSander.get_build .., rfl, rfl, rfl, rfl, rfl⟩
  · have channel : (axleRestart (s.completed true 0)).axle.channels.get i
        = (s.axle.channels.get i).emptied.settle s.standstillTimer := (axleRestart_get ..).trans (if_neg used)
    rw [channel]
    exact ⟨rfl, rfl, rfl, rfl, rfl, rfl, rfl, rfl, rfl, rfl, rfl⟩
  · exact (axleRestart_get i s).trans (if_pos unused)

end Sys2Proof.Machine
end

section
/-! PROOF of `Obligations.StandbyStopsTheBlocks`. -/

namespace Sys2Proof.Machine

variable {s : State}

theorem PerAxle.mem_toList {α : Type} {v : PerAxle α} {x : α} : x ∈ v.toList ↔ ∃ i, v.get i = x := by
  constructor
  · intro h
    simp only [PerAxle.toList, List.mem_cons, List.not_mem_nil, or_false] at h
    rcases h with rfl | rfl | rfl | rfl | rfl | rfl
    exacts [⟨.a1, rfl⟩, ⟨.a2, rfl⟩, ⟨.t1, rfl⟩, ⟨.t2, rfl⟩, ⟨.b1, rfl⟩, ⟨.b2, rfl⟩]
  · rintro ⟨i, rfl⟩
    cases i <;> simp [PerAxle.toList, PerAxle.get]

theorem allStill_iff (s : State) : s.allStill = true ↔ ∀ i, (s.axle.channels.get i).state ≠ .valid := by
  simp [State.allStill, PerAxle.mem_toList]

/-- The conditions of STANDBY (R181). -/
theorem mayStandby_iff (s : State) :
    s.mayStandby = true ↔ s.ref.magnitude = 0 ∧ (∀ i, (s.axle.channels.get i).state ≠ .valid)
      ∧ (s.ctl.part = .setup ∨ s.intent.accepted.regime = .hold) := by
  simp [State.mayStandby, allStill_iff, and_assoc]

/-- What entry to STANDBY leaves where no transaction is on the port (R181). -/
theorem enterStandby_eq (free : s.ip.port = none) (previous : Previous) :
    enterStandby previous s
      = { s with
          ctl := { s.ctl with part := .standby, previous := some previous }
          ip :=
            { s.ip with
              fetchTimer := none, fetch := none, fetchWait := if s.ip.fetch.isSome then 0 else s.ip.fetchWait }
          intent := (cancelRefresh s).intent
          axle := (axleStandby s).axle
          ref := { s.ref with hold := none }
          ev := { s.ev with period := none, timers := PerAxle.build fun _ => none, running := none }
          blend := (allocatorStop s).blend
          sand := (sandStandby s).sand
          chain := (chainStandby s).chain
          rep := if s.ev.running = none then s.rep else s.rep.bump Counter.evaluationAbandoned.number
          rw := { s.rw with timer := none, pendingUpdate := false } } := by
  have fetch := fetchStop_of_free
    (s := cancelRefresh (withCtl (fun c => { c with part := .standby, previous := some previous }) s)) free
  simp only [enterStandby, fetch, slipStandby, abandon_eq]
  rfl

theorem mem_allSanders (i : SanderId) : i ∈ allSanders := by cases i <;> decide

/-- The trail mark when every pulse is stopped (R152). -/
theorem sandStandby_trailMark (s : State) :
    (sandStandby s).sand.trailMark
      = if allSanders.any fun i => (s.sand.sanders.get i).pulse.isSome && s.leads i then some s.sand.endMark
        else s.sand.trailMark := by
  simp [sandStandby, stopPulses]

theorem sandStandby_trailMark_of_led (h : ∃ i, (s.sand.sanders.get i).pulse ≠ none ∧ s.leads i = true) :
    (sandStandby s).sand.trailMark = some s.sand.endMark := by
  obtain ⟨i, pulse, leads⟩ := h
  rw [sandStandby_trailMark,
    if_pos (List.any_eq_true.2 ⟨i, mem_allSanders i, by simp [Option.isSome_iff_ne_none, pulse, leads]⟩)]

theorem sandStandby_trailMark_of_idle (h : ∀ i, s.leads i = true → (s.sand.sanders.get i).pulse = none) :
    (sandStandby s).sand.trailMark = s.sand.trailMark := by
  have idle : ¬ (allSanders.any fun i => (s.sand.sanders.get i).pulse.isSome && s.leads i) = true := by
    simp only [List.any_eq_true, Bool.and_eq_true, not_exists, not_and]
    intro i _ pulse leads
    simp [h i leads] at pulse
  rw [sandStandby_trailMark, if_neg idle]

/-- A channel in use loses its standstill timer and movement count; one that is DISABLED stands (R62). -/
theorem axleStandby_get (i : Axle) (s : State) :
    (axleStandby s).axle.channels.get i
      = if (s.axle.channels.get i).state = .disabled then s.axle.channels.get i
        else { s.axle.channels.get i with standstill := none, movement := 0 } := PerAxle.get_build ..

/-- The command of STANDBY, by the part state and its conditions. -/
theorem takeStandby_of_ready (part : s.ctl.part = .setup ∨ s.ctl.part = .active) (ready : s.mayStandby = true) :
    takeStandby s = enterStandby (if s.ctl.part = .setup then .setup else .active) (result 4 .accepted s) := by
  rcases part with part | part <;> simp [takeStandby, part, ready]

theorem takeStandby_of_not_ready (part : s.ctl.part = .setup ∨ s.ctl.part = .active) (ready : s.mayStandby = false) :
    takeStandby s = decline 4 .notReady s := by
  rcases part with part | part <;> simp [takeStandby, part, ready]

/-- Settles O24: STANDBY by its conditions, and every field from the equation of the entry on a free port. -/
theorem standbyStopsTheBlocks : Obligations.StandbyStopsTheBlocks := by
  intro w s stands value declined ready
  have taken := exec_standby stands value
  have iff : (s.completed true 0).mayStandby = true ↔ ready := mayStandby_iff _
  refine ⟨fun fallback => ?_, fun part other => ?_, fun part at_rest => ?_⟩
  · have : takeStandby (s.completed true 0) = declined .wrongState := by
      simp [takeStandby, fallback]
      rfl
    rw [taken, this]
  · rw [taken, takeStandby_of_not_ready (s := s.completed true 0) part (eq_false_of_ne_true fun h => other (iff.1 h))]
    rfl
  · rw [takeStandby_of_ready (s := s.completed true 0) part (iff.2 at_rest),
      enterStandby_eq (s := result 4 .accepted (s.completed true 0)) rfl] at taken
    refine ⟨_, taken, rfl, fun r => PerEffort.get_build .., rfl, rfl, rfl, rfl, fun i used => ?_, rfl, rfl, rfl, rfl, rfl, rfl,
      fun i => PerAxle.get_build .., rfl, rfl, fun i => ?_, fun led => ?_, fun none => ?_, rfl, rfl, rfl, rfl, rfl, rfl, rfl, rfl,
      rfl,
      rfl, rfl⟩
    · exact (axleStandby_get ..).trans (if_neg used)
    · exact PerSander.get_build ..
    · exact sandStandby_trailMark_of_led (s := s) led
    · exact sandStandby_trailMark_of_idle (s := s) none

end Sys2Proof.Machine
end

section
/-! PROOF support. What an allocator run computes and what it leaves alone: the walk's shares, the demand, the lines and the
MTB share, the words and the frame (R121, R123 to R129). -/

namespace Sys2Proof.Machine

variable {s : State}

/-! ### The shares of the walk (R128) -/

/-- A source of the walk takes the smaller of what remains before it and its cap. -/
theorem walk_alloc (caps : PerSource Nat) (order : List Source) (w : Walk) (distinct : order.Nodup) {x : Source}
    (h : x ∈ order) :
    (order.foldl (Walk.take caps) w).alloc.get x
      = min ((order.foldl (Walk.take caps) w).before.get x) (caps.get x) := by
  induction order generalizing w with
  | nil => exact absurd h List.not_mem_nil
  | cons z rest ih =>
    obtain ⟨new, restDistinct⟩ := List.nodup_cons.1 distinct
    obtain ⟨before, alloc⟩ := walk_out caps rest (w.take caps z) new
    rw [List.foldl_cons]
    rcases List.mem_cons.1 h with rfl | later
    · rw [before, alloc]
      simp [Walk.take]
    · exact ih _ restDistinct later

/-- What the sources of the walk take and what remains add up to what there was. -/
theorem walk_total (caps : PerSource Nat) (order : List Source) (w : Walk) (distinct : order.Nodup) :
    (order.map (order.foldl (Walk.take caps) w).alloc.get).sum + (order.foldl (Walk.take caps) w).remaining
      = w.remaining := by
  induction order generalizing w with
  | nil => simp
  | cons z rest ih =>
    obtain ⟨new, restDistinct⟩ := List.nodup_cons.1 distinct
    have own : (rest.foldl (Walk.take caps) (w.take caps z)).alloc.get z = min w.remaining (caps.get z) := by
      rw [(walk_out caps rest (w.take caps z) new).2]
      exact PerSource.get_set_self ..
    have others := ih (w.take caps z) restDistinct
    have left : (w.take caps z).remaining = w.remaining - min w.remaining (caps.get z) := rfl
    rw [left] at others
    rw [List.foldl_cons, List.map_cons, List.sum_cons, own]
    omega

theorem PerSource.sum_eq (x : PerSource Nat) : x.sum = (allSources.map x.get).sum := by
  simp [PerSource.sum, allSources, PerSource.get, Nat.add_assoc]

theorem allSources_nodup : allSources.Nodup := by decide

theorem allocationOrder_nodup (h : s.allocationOrder.Perm allSources) : s.allocationOrder.Nodup :=
  h.nodup_iff.2 allSources_nodup

theorem mem_allocationOrder (h : s.allocationOrder.Perm allSources) (x : Source) : x ∈ s.allocationOrder :=
  h.mem_iff.2 (by cases x <;> decide)

/-- The sources before one that stands once. -/
theorem takeWhile_ne {earlier later : List Source} {x : Source} (h : (earlier ++ x :: later).Nodup) :
    (earlier ++ x :: later).takeWhile (· != x) = earlier := by
  have apart : ∀ y ∈ earlier, (y != x) = true := fun y hy => by
    simpa using (List.nodup_append.1 h).2.2 y hy x (List.mem_cons_self ..)
  rw [List.takeWhile_append_of_pos apart, List.takeWhile_cons_of_neg (by simp), List.append_nil]

/-! ### The record of a run (R121 to R128, R136) -/

variable (evaluation returning : Bool) (s)

theorem run_dEff :
    (run evaluation returning s).blend.dEff
      = effectiveDemand s.blend.dEff (run evaluation returning s).blend.d s.cfg.tun.blend.releaseStep evaluation := by
  rw [run_blend]; rfl

theorem run_d :
    (run evaluation returning s).blend.d
      = demand (s.ctl.part = .fallback) s.intent.accepted.regime s.blend.standstill s.brakeIntent s.holdRequirement
          (run evaluation returning s).blend.fhs s.cfg.tun.blend.emergencyDemand s.cfg.tun.blend.fallbackBrake := by
  rw [run_blend]; rfl

theorem run_h : (run evaluation returning s).blend.h = s.holdRequirement := by rw [run_blend]; rfl

theorem run_fhs :
    (run evaluation returning s).blend.fhs = s.blend.friction s.holdRequirement (s.nextHill returning) := by
  rw [run_blend]; rfl

theorem run_caps : (run evaluation returning s).blend.caps = s.caps := by rw [run_blend]; rfl

theorem run_lines_set : (run evaluation returning s).blend.lines = s.blend.linesSet s.intent.accepted.regime := by
  rw [run_blend]; rfl

theorem run_mtb :
    (run evaluation returning s).blend.mtb
      = if (run evaluation returning s).blend.lines = true ∧ s.sand.supplyGood = true then
          min s.cfg.tun.blend.mtbEffort (run evaluation returning s).blend.dEff
        else 0 := by
  rw [run_blend]
  change (if (_ && _) = true then _ else _) = _
  simp only [Bool.and_eq_true]
  rfl

theorem mtb_le_dEff : (run evaluation returning s).blend.mtb ≤ (run evaluation returning s).blend.dEff := by
  rw [run_mtb]
  split
  · exact min_le_right ..
  · exact Nat.zero_le _

/-- The allocations and the deficit of a run are those of its walk. -/
theorem run_walk :
    let b := (run evaluation returning s).blend
    let w := walk b.caps s.allocationOrder (b.dEff - b.mtb)
    b.alloc = w.alloc ∧ b.deficit = w.remaining
      ∧ s.walk (s.demanded evaluation returning) = w := by
  simp only [run_blend]
  exact ⟨rfl, rfl, rfl⟩

/-- The track-brake lines after a run: EMERGENCY above 50 mm/s, or deficit assist that stands (R136, R137). -/
theorem run_lines_iff :
    (run evaluation returning s).blend.lines = true
      ↔ 50 < s.blend.seenMagnitude
        ∧ (s.intent.accepted.regime = .emergency
          ∨ s.blend.assist = true ∧ s.intent.accepted.regime = .serviceBrake) := by
  rw [run_lines_set]
  simp only [Allocator.linesSet, Allocator.assistKept, Bool.or_eq_true, Bool.and_eq_true, beq_iff_eq, decide_eq_true_eq]
  tauto

/-- B as the obligations write it. -/
theorem brakeIntent_eq :
    s.brakeIntent
      = if s.intent.channels.brake.fresh = .live then s.intent.channels.brake.intent.getD 0 else 0 := rfl

/-- D as the obligations write it (R123). -/
theorem demand_eq (fallback : Bool) (regime : Regime) (standstill : Bool) (b h fhs emergency fallbackBrake : Nat) :
    demand fallback regime standstill b h fhs emergency fallbackBrake
      = min 65534
          (if fallback = true then max b (max h fallbackBrake)
           else
             match regime with
             | .hold => max b h
             | .serviceBrake => if standstill = true then max b h else b
             | .coast => if standstill = true then h else 0
             | .traction => fhs
             | .emergency => max b emergency) := by
  cases regime <;> rfl

theorem holdRequirement_of_live (h : s.ctl.part ≠ .fallback ∨ s.intent.mode.fresh = .live) :
    s.holdRequirement
      = s.intent.accepted.mass * 250 * 981 * s.intent.accepted.gradient.natAbs / 1000000
          * (1000 + s.cfg.tun.blend.holdMargin) / 1000 := by
  have read : s.massAndGradient = (s.intent.accepted.mass, s.intent.accepted.gradient.natAbs) :=
    if_neg fun ⟨part, fresh⟩ => h.elim (· part) fresh
  rw [State.holdRequirement, read]
  rfl

theorem holdRequirement_of_maxima (part : s.ctl.part = .fallback) (fresh : s.intent.mode.fresh ≠ .live) :
    s.holdRequirement
      = s.cfg.tun.blend.maxMass * 250 * 981 * s.cfg.tun.blend.maxGradient / 1000000
          * (1000 + s.cfg.tun.blend.holdMargin) / 1000 := by
  have read : s.massAndGradient = (s.cfg.tun.blend.maxMass, s.cfg.tun.blend.maxGradient) := if_pos ⟨part, fresh⟩
  rw [State.holdRequirement, read]
  rfl

/-! ### The frame of a run (R121) -/

theorem run_frame :
    run evaluation returning s
      = { s with
          blend := (run evaluation returning s).blend, intent := (run evaluation returning s).intent
          ip := (run evaluation returning s).ip, ref := (run evaluation returning s).ref
          ev := (run evaluation returning s).ev, sand := (run evaluation returning s).sand
          rep := (run evaluation returning s).rep } :=
  State.ext (by simp) (by simp) (by simp) (by simp) (by simp) rfl rfl (by simp) rfl rfl (by simp) rfl rfl (by simp) rfl
    (by simp) (by simp) (by simp) (by simp)

theorem run_intent_frame :
    (run evaluation returning s).intent
      = { s.intent with handed := (run evaluation returning s).intent.handed } :=
  IntentTable.ext (by simp) (by simp) (by simp) (by simp) (by simp) rfl (by simp)

theorem run_ref_frame :
    (run evaluation returning s).ref = { s.ref with rollback := (run evaluation returning s).ref.rollback } := by
  simp only [run]
  split <;> simp [rollbackClear]

theorem run_ev_frame :
    (run evaluation returning s).ev = { s.ev with running := (run evaluation returning s).ev.running } := by
  simp only [run]
  split <;> simp [rollbackClear]

/-- A deficit above the threshold raises BRAKE_DEFICIT (R128). -/
theorem run_flag_deficit (h : s.cfg.tun.blend.deficitThreshold < (run evaluation returning s).blend.deficit) :
    (run evaluation returning s).rep.flag .brakeDeficit = true := by
  rw [run_blend] at h
  have above : decide (s.cfg.tun.blend.deficitThreshold < (s.walk (s.demanded evaluation returning)).remaining) = true :=
    decide_eq_true h
  simp only [run]
  split
  · refine sandRelease_rep_keeps (kept_flag .brakeDeficit) ?_
    simp [raiseIf, above]
  · simp [raiseIf, above]

end Sys2Proof.Machine
end

section
/-! PROOF of `Obligations.RunSharesOutTheDemand`: the walk's shares, the demand, the caps, the lines, the words and the
frame of a run. -/

namespace Sys2Proof.Machine

variable {s : State}

/-! ### The words of a run (R14, R17, R129) -/

/-- The words handed depend on the intent table and the interposer alone. -/
theorem handAll_congr {t : State} (words : List (Role × Word)) (intent : s.intent = t.intent) (ip : s.ip = t.ip) :
    (handAll words s).intent = (handAll words t).intent ∧ (handAll words s).ip = (handAll words t).ip := by
  induction words generalizing s t with
  | nil => exact ⟨intent, ip⟩
  | cons rw rest ih =>
    obtain ⟨intent, ip⟩ := hand_congr intent ip rw.1 rw.2
    exact ih intent ip

theorem handAll_handed_ne {words : List (Role × Word)} {role : Role} (others : role ∉ words.map (·.1)) (s : State) :
    (handAll words s).intent.handed.get role = s.intent.handed.get role := by
  induction words generalizing s with
  | nil => rfl
  | cons rw rest ih =>
    obtain ⟨first, later⟩ : ¬ role = rw.1 ∧ role ∉ rest.map (·.1) := by
      simpa only [List.map_cons, List.mem_cons, not_or] using others
    exact (ih later _).trans (hand_handed_ne first rw.2 s)

/-- Each role's word, where the roles are distinct, is the role's last handed word. -/
theorem handAll_handed {words : List (Role × Word)} (distinct : (words.map (·.1)).Nodup) {role : Role} {w : Word}
    (own : (role, w) ∈ words) {s : State} (addr : s.intent.addrs.get role ≠ none) :
    (handAll words s).intent.handed.get role = some w := by
  induction words generalizing s with
  | nil => exact absurd own List.not_mem_nil
  | cons rw rest ih =>
    obtain ⟨new, restDistinct⟩ := List.nodup_cons.1 distinct
    rcases List.mem_cons.1 own with rfl | later
    · exact (handAll_handed_ne new _).trans (hand_handed_self addr w)
    · exact ih restDistinct later (by rw [hand_addrs]; exact addr)

theorem mtbShare_eq (evaluation returning : Bool) (s : State) :
    s.mtbShare (s.demanded evaluation returning) = (run evaluation returning s).blend.mtb := by
  rw [run_blend]; rfl

theorem unreducedCap_eq (s : State) (x : Source) :
    let caps := s.cfg.tun.blend
    let electric (cap : Nat) : Nat := if s.intent.accepted.regime = .serviceBrake then cap else 0
    s.unreducedCap x
      = (⟨electric caps.edCap.a, electric caps.edCap.b, caps.frCap.a, caps.frCap.t, caps.frCap.b⟩
          : PerSource Nat).get x := by
  cases x <;> rfl

/-- The fade ratio as the obligation writes it (R125). -/
theorem fadeRatio_eq (v : Nat) : fadeRatio v = if 2500 ≤ v then 1000 else if 500 < v then (v - 500) / 2 else 0 := by
  simp only [fadeRatio]
  (repeat' split) <;> omega

theorem edCap_of_braking {m : Motor}
    (h : ¬ (s.ctl.part = .fallback ∨ s.intent.accepted.regime ≠ .serviceBrake ∨ s.cfg.str.driveIsolated.get m = true)) :
    s.edCap m
      = (if s.blend.shortfall.get m = true then min (s.cfg.tun.blend.edCap.get m) (s.blend.braking m)
          else s.cfg.tun.blend.edCap.get m) * fadeRatio s.blend.seenMagnitude / 1000
          * (s.ev.bogies.get m.bogie).c * (s.ceil.records.get m.bogie).k / 1000000 := if_neg h

/-- An output word by what stands before its source in the walk (R17, R129). -/
theorem outputWord_eq (s : State) (w : Walk) (x : Source) :
    s.outputWord w x
      = if s.isolated x = true then voidWord
        else setpointWord (w.alloc.get x)
          (if s.ctl.part = .fallback then .fallback
           else if s.intent.channels.brake.fresh ≠ .live then .default
           else if s.caps.get x < w.before.get x ∧ s.caps.get x < s.unreducedCap x then .corrected else .effective) := by
  by_cases isolated : s.isolated x = true <;> simp [State.outputWord, State.outputTag, isolated]

/-- Settles O48: each part by the run's equations; the shares by the walk over distinct sources. -/
theorem runSharesOutTheDemand : Obligations.RunSharesOutTheDemand := by
  refine ⟨fun evaluation returning s perm => ?_, fun evaluation returning s => ?_, fun evaluation returning s => ?_,
    fun evaluation returning s => ?_, fun evaluation returning s perm => ?_, fun evaluation returning s => ?_⟩
  · intro t b
    obtain ⟨alloc, deficit, -⟩ := run_walk s evaluation returning
    have distinct := allocationOrder_nodup perm
    refine ⟨?_, fun earlier x later split => ?_, run_flag_deficit s evaluation returning⟩
    · have shares := walk_total b.caps s.allocationOrder ⟨⟨0, 0, 0, 0, 0⟩, ⟨0, 0, 0, 0, 0⟩, b.dEff - b.mtb⟩ distinct
      have all : (s.allocationOrder.map b.alloc.get).sum = b.alloc.sum := by
        rw [PerSource.sum_eq]
        exact (perm.map _).sum_eq
      have shared : (s.allocationOrder.map b.alloc.get).sum + b.deficit = b.dEff - b.mtb := by
        rw [show b.alloc = _ from alloc, show b.deficit = _ from deficit]
        exact shares
      have := mtb_le_dEff s evaluation returning
      change b.mtb ≤ b.dEff at this
      omega
    · have here := mem_allocationOrder perm x
      have before := walk_before b.caps s.allocationOrder ⟨⟨0, 0, 0, 0, 0⟩, ⟨0, 0, 0, 0, 0⟩, b.dEff - b.mtb⟩ distinct here
      have taken := walk_alloc b.caps s.allocationOrder ⟨⟨0, 0, 0, 0, 0⟩, ⟨0, 0, 0, 0, 0⟩, b.dEff - b.mtb⟩ distinct here
      have first : s.allocationOrder.takeWhile (· != x) = earlier := by
        rw [split]
        exact takeWhile_ne (split ▸ distinct)
      rw [before, first, min_comm] at taken
      rw [show b.alloc = _ from alloc]
      exact taken
  · intro b tun standstill brake hold
    refine ⟨run_dEff s evaluation returning, ?_, fun live => ?_, fun part fresh => ?_⟩
    · rw [show b.d = _ from run_d s evaluation returning, demand_eq, show b.h = _ from run_h s evaluation returning]
      simp only [decide_eq_true_eq, Allocator.standstill]
      rfl
    · rw [show b.h = _ from run_h s evaluation returning]
      exact holdRequirement_of_live s live
    · rw [show b.h = _ from run_h s evaluation returning]
      exact holdRequirement_of_maxima s part fresh
  · intro b v f
    have caps : b.caps = s.caps := run_caps s evaluation returning
    refine ⟨fun m => ?_, fun y => ?_⟩
    · have cap : b.caps.get m.ed = s.edCap m := by rw [caps]; cases m <;> rfl
      refine ⟨fun none => cap.trans (if_pos none), fun some => cap.trans ?_⟩
      rw [edCap_of_braking some, fadeRatio_eq]
      rfl
    · have cap : b.caps.get y.fr = s.frCap y := by rw [caps]; cases y <;> rfl
      rw [cap, State.frCap]
      simp only [Allocator.standstill, decide_eq_true_eq]
      rfl
  · intro b
    refine ⟨fun on => ?_, fun off => ?_, run_lines_iff s evaluation returning⟩
    · exact (run_mtb s evaluation returning).trans (if_pos on)
    · refine (run_mtb s evaluation returning).trans (if_neg fun ⟨lines, supply⟩ => ?_)
      rcases off with off | off
      · exact absurd (lines.symm.trans off) (by decide)
      · exact absurd (supply.symm.trans off) (by decide)
  · intro t b caps electric unreduced asked shared word applied brakeWord words handed
    obtain ⟨alloc, -, walked⟩ := run_walk s evaluation returning
    have distinct := allocationOrder_nodup perm
    obtain ⟨intent, ip⟩ := run_hands evaluation returning s
    let recorded : State := { s with blend := s.runRecord evaluation returning }
    have record : s.runRecord evaluation returning = b := (run_blend evaluation returning s).symm
    have output (x : Source) : s.outputWord (s.walk (s.demanded evaluation returning)) x = word x := by
      have before : (walk b.caps s.allocationOrder (b.dEff - b.mtb)).before.get x = asked x := by
        rw [show asked x = _ from congrArg (fun a => _ - (List.map (PerSource.get a) _).sum) alloc]
        exact walk_before b.caps s.allocationOrder _ distinct (mem_allocationOrder perm x)
      rw [outputWord_eq, walked, before, ← alloc, unreducedCap_eq, ← run_caps s evaluation returning]
      simp only [word, shared, Bool.and_eq_true, decide_eq_true_eq]
      rfl
    have brake : setpointWord applied (recorded.brakeTag applied) = brakeWord := by
      have mode : recorded.intent = s.intent ∧ recorded.ctl = s.ctl := ⟨rfl, rfl⟩
      simp only [brakeWord, shared, State.brakeTag, mode]
      by_cases same : s.intent.channels.brake.intent = some applied <;> simp [same]
    have formed : runWords s (s.walk (s.demanded evaluation returning)) recorded = words := by
      simp only [runWords, words, output, ← brake]
      rw [show recorded.blend = b from record]
    have roles : (words.map (·.1)).Nodup := by
      rw [← formed, runWords_roles]
      decide
    obtain ⟨sameIntent, sameIp⟩ := handAll_congr (s := recorded) (t := s) words rfl rfl
    rw [formed] at intent ip
    refine ⟨intent.trans sameIntent, ip.trans sameIp, fun x addr => ?_, fun addr => ?_⟩
    · rw [intent]
      exact handAll_handed roles (List.mem_cons_of_mem _ (List.mem_map_of_mem (by cases x <;> decide))) addr
    · rw [intent]
      exact handAll_handed roles (List.mem_cons_self ..) addr
  · exact ⟨run_frame s evaluation returning, run_intent_frame s evaluation returning, run_ref_frame s evaluation returning,
      run_ev_frame s evaluation returning, run_ip_port .., run_ip_inflight .., run_ip_copy .., run_ip_fetch ..,
      run_flag_deficit s evaluation returning, fun c => run_rep_keeps (kept_flag c) evaluation returning⟩

end Sys2Proof.Machine
end

section
/-! PROOF of `Obligations.GoActiveReturnsFromFallback`. -/

namespace Sys2Proof.Machine

variable {s : State}

/-- The held tractions after a claim on both motor bogies at an event. -/
theorem claimBoth_held (s : State) (m : Motor) :
    (claimBoth false s).intent.held.get m = min (s.intent.held.get m) (s.target m) := by
  simp only [claimBoth, claim_held, State.claimed, claim_target]
  cases m <;> simp

/-- What a change between ACTIVE and FALLBACK leaves of the intent table. -/
theorem rewords_intent_frame (returning : Bool) (s : State) :
    (rewords returning s).intent
      = { s.intent with held := (rewords returning s).intent.held, handed := (rewords returning s).intent.handed } :=
  IntentTable.ext (by simp) (by simp) (by simp) (by simp) rfl rfl (by simp)

theorem rewords_frame (returning : Bool) (s : State) :
    rewords returning s
      = { s with
          ip := (rewords returning s).ip, intent := (rewords returning s).intent, ref := (rewords returning s).ref
          ev := (rewords returning s).ev, blend := (rewords returning s).blend, sand := (rewords returning s).sand
          rep := (rewords returning s).rep } :=
  State.ext (by simp) (by simp) (by simp) (by simp) (by simp) rfl rfl (by simp) rfl rfl (by simp) rfl rfl (by simp) rfl
    (by simp) (by simp) (by simp) (by simp)

/-- The record that a run reads it from the state before the claims. -/
theorem rewords_blend (returning : Bool) (s : State) :
    (rewords returning s).blend = (handMode (claimBoth false s)).runRecord false returning := run_blend ..

theorem takeGoActive_of_fallback (part : s.ctl.part = .fallback) (may : s.mayReturn = true) :
    takeGoActive s
      = rewords true (withCtl (fun c => { c with part := .active, causes := {} }) (result 1 .accepted s)) := by
  simp only [takeGoActive, part, goActiveFallback, may, if_true]

/-- A hill start OFF through the run of a return to ACTIVE (R133, R138). -/
theorem nextHill_of_returning (part : s.ctl.part = .active) (off : s.blend.hill = .off) :
    s.nextHill true
      = if s.intent.accepted.regime = .coast ∨ s.intent.accepted.regime = .emergency ∨ s.holdRequirement = 0
            ∨ ¬ s.blend.seenMagnitude < 50 then .off
        else if s.intent.accepted.regime = .traction then .releasing else .holding := by
  simp only [State.nextHill, part, if_true, Allocator.nextHill, off, Allocator.standstill, decide_eq_true_eq]
  by_cases still : s.blend.seenMagnitude < 50
  · cases s.intent.accepted.regime <;> simp [still]
  · simp [still]

/-- Outside an evaluation run D_eff rises at once and does not fall (R124). -/
theorem effectiveDemand_of_event (old d step : Nat) : effectiveDemand old d step false = max old d := by
  simp only [effectiveDemand, Bool.false_eq_true, if_false]
  split <;> omega

/-- Settles O21: what the run computes, in the state that the claims and the MODE word leave. -/
theorem goActiveReturnsFromFallback : Obligations.GoActiveReturnsFromFallback := by
  intro w s stands value part fresh source memory rollaway returned accepted standstill brake h pull
  have may : (s.completed true 0).mayReturn = true := by
    simp [State.mayReturn, State.completed, fresh, source, memory, rollaway]
  have taken : exec .goActive s = .next (finish (rewords true returned)) := by
    rw [exec_goActive stands value, takeGoActive_of_fallback (s := s.completed true 0) part may]
    rfl
  let mid : State := handMode (claimBoth false returned)
  have accepts : mid.intent.accepted = accepted := by
    simp only [mid, handMode_intent_accepted, claimBoth_intent_accepted]; rfl
  have blend : mid.blend = s.blend := by simp only [mid, handMode_blend, claimBoth_blend]; rfl
  have active : mid.ctl.part = .active := by simp only [mid, handMode_ctl, claimBoth_ctl, returned]
  have cfg : mid.cfg = s.cfg := by simp only [mid, handMode_cfg, claimBoth_cfg]; rfl
  have channels : mid.intent.channels = s.intent.channels := by
    simp only [mid, handMode_intent_channels, claimBoth_intent_channels]; rfl
  have held (m : Motor) : (rewords true returned).intent.held.get m = min (s.intent.held.get m) (returned.target m) := by
    rw [rewords_held]
    exact claimBoth_held returned m
  have hold : mid.holdRequirement = h := by
    rw [holdRequirement_of_live mid (.inl (by simp [active])), accepts, cfg]
  refine ⟨rewords true returned, taken, rfl, ?_, rewords_ctl .., held, fun m => ?_, rewords_intent_frame .., ?_, ?_, ?_, ?_,
    fun off => ?_, fun off => ?_, rewords_ip_reply .., rewords_ip_fetchTimer .., ?_⟩
  · have tag : returned.modeTag
        = if s.intent.mode.fresh = .absent then .default
          else if s.intent.adjusted = true then .corrected else .effective := by
      rw [modeTag_eq]
      change (if s.intent.mode.fresh = .absent ∨ s.intent.mode.fresh = .stale then Tag.default else _) = _
      simp only [fresh, or_false]
      rfl
    rw [← tag]
    exact (((Follows.refl s .mode).of_eq (u := returned) rfl rfl rfl).rewords_mode true).handed _ rfl
  · rw [held]
    exact min_le_left ..
  · exact (run_h mid false true).trans hold
  · refine (run_d mid false true).trans ?_
    have serving : decide (mid.ctl.part = .fallback) = false := by simp [active]
    have intent : mid.brakeIntent = brake := by rw [brakeIntent_eq, channels]
    rw [demand_eq, serving, intent, hold, accepts, blend]
    simp only [Bool.false_eq_true, if_false, Allocator.standstill, decide_eq_true_eq]
    rfl
  · refine (run_dEff mid false true).trans ?_
    rw [effectiveDemand_of_event, blend]
    rfl
  · refine (run_lines_iff mid false true).trans ?_
    rw [blend, accepts]
  · have next : (rewords true returned).blend.hill = mid.nextHill true := run_hill ..
    have fhs : (rewords true returned).blend.fhs = mid.blend.friction mid.holdRequirement (mid.nextHill true) := run_fhs ..
    refine ⟨?_, ?_⟩
    · rw [next, nextHill_of_returning active (by rw [blend]; exact off), hold, accepts, blend]
    · rw [fhs, next, hold, blend]
      cases mid.nextHill true <;> rfl
  · refine (run_sand false true mid).trans ?_
    rw [if_neg (by simp [blend, off])]
    simp only [mid, handMode_sand, claimBoth_sand]
    rfl
  · refine (rewords_frame true returned).trans ?_
    rw [rewords_ctl]
    rfl

end Sys2Proof.Machine
end

section
/-! PROOF support. A window table that passes validation: the twelve role codes stand in it, and their windows lie apart
(R176). -/

namespace Sys2Proof.Machine

/-! ### The entries of a valid table -/

/-- Two window entries share no address. -/
def WindowEntry.clearOf (e x : WindowEntry) : Prop := meets e.base.toNat e.last x.base.toNat x.last = false

theorem WindowEntry.clearOf_symm {e x : WindowEntry} (h : e.clearOf x) : x.clearOf e := by
  simp only [WindowEntry.clearOf, meets] at *
  rw [Bool.and_comm]
  exact h

theorem WindowEntry.fault_none {e : WindowEntry} {pageBase : Nat} {earlier : List WindowEntry}
    (h : e.fault pageBase earlier = none) : e.lengthFits = true ∧ ∀ x ∈ earlier, e.clearOf x := by
  simp only [WindowEntry.fault] at h
  split at h; · cases h
  split at h; · cases h
  rename_i fits
  split at h; · cases h
  split at h; · cases h
  split at h; · cases h
  rename_i apart
  exact ⟨by simpa using fits, by simpa [WindowEntry.clearOf] using apart⟩

/-- The entries in use of a table that passes: each has the length of its code, and no two share an address. -/
theorem validateWindows_none {pageBase i : Nat} {earlier ws : List WindowEntry}
    (h : validateWindows pageBase i earlier ws = none) :
    let used := ws.filter fun e => e.code ≠ 0
    used.Pairwise WindowEntry.clearOf ∧ ∀ e ∈ used, e.lengthFits = true ∧ ∀ x ∈ earlier, e.clearOf x := by
  induction ws generalizing i earlier with
  | nil => exact ⟨List.Pairwise.nil, nofun⟩
  | cons e rest ih =>
    simp only [validateWindows] at h
    by_cases unused : e.code = 0
    · rw [if_pos unused] at h
      simpa [unused] using ih h
    · rw [if_neg unused] at h
      cases fault : e.fault pageBase earlier with
      | some f => rw [fault] at h; cases h
      | none =>
        rw [fault] at h
        obtain ⟨fits, clear⟩ := WindowEntry.fault_none fault
        obtain ⟨apart, others⟩ := ih h
        have split : (e :: rest).filter (fun x => x.code ≠ 0) = e :: rest.filter fun x => x.code ≠ 0 :=
          List.filter_cons_of_pos (decide_eq_true unused)
        simp only [split]
        refine ⟨List.pairwise_cons.2 ⟨fun x hx => ?_, apart⟩, fun x hx => ?_⟩
        · exact WindowEntry.clearOf_symm ((others x hx).2 e (by simp))
        · rcases List.mem_cons.1 hx with rfl | later
          · exact ⟨fits, clear⟩
          · obtain ⟨fits, clear⟩ := others x later
            exact ⟨fits, fun y hy => clear y (List.mem_append_left _ hy)⟩

theorem validateRoles_none {ws : List WindowEntry} (h : validateRoles ws = none) {c : Nat} (low : 1 ≤ c)
    (high : c ≤ 12) :
    ∃ e ∈ ws, e.code.toNat = c := by
  simp only [validateRoles] at h
  split at h
  · cases h
  · rename_i found
    have here := List.find?_eq_none.1 found c (List.mem_map.2 ⟨c - 1, List.mem_range.2 (by omega), by omega⟩)
    simpa using here

/-! ### The windows of the part's nine roles -/

theorem Role.windowCode_bounds (r : Role) : 1 ≤ r.windowCode.toNat ∧ r.windowCode.toNat ≤ 9 := by
  rcases r with (_ | _ | _) | _ | x
  case output => cases x <;> decide
  all_goals decide

/-- The role of a window code. -/
def Role.ofWindowCode (c : BitVec 4) : Option Role :=
  [Role.intent .tractionA, .intent .tractionB, .intent .brake, .mode, .output .edA, .output .edB, .output .frA,
    .output .frT, .output .frB].find? fun r => r.windowCode = c

theorem Role.ofWindowCode_windowCode (r : Role) : Role.ofWindowCode r.windowCode = some r := by
  rcases r with (_ | _ | _) | _ | x
  case output => cases x <;> rfl
  all_goals rfl

theorem Role.windowCode_injective {r q : Role} (h : r.windowCode = q.windowCode) : r = q :=
  Option.some.inj (by rw [← r.ofWindowCode_windowCode, h, q.ofWindowCode_windowCode])

/-- The window of a role in a table that passes. -/
theorem windowBase_of_valid {c : StructureConfig} {pageBase : Addr} (h : validate c pageBase = none) (r : Role) :
    ∃ e ∈ c.windows.toList.filter (fun e => e.code ≠ 0),
      e.code = r.windowCode ∧ windowBase c.windows.toList r.windowCode = some e.base := by
  obtain ⟨-, rest⟩ := Option.or_eq_none_iff.1 h
  obtain ⟨roles, -⟩ := Option.or_eq_none_iff.1 rest
  obtain ⟨low, high⟩ := r.windowCode_bounds
  obtain ⟨e, here, code⟩ := validateRoles_none roles low (by omega)
  have code : e.code = r.windowCode := BitVec.eq_of_toNat_eq code
  cases found : c.windows.toList.find? (fun e => e.code = r.windowCode) with
  | none => exact absurd code (by simpa using List.find?_eq_none.1 found e here)
  | some x =>
    have own : x.code = r.windowCode := by simpa using List.find?_some found
    refine ⟨x, List.mem_filter.2 ⟨List.mem_of_find?_eq_some found, ?_⟩, own, by rw [windowBase, found]; rfl⟩
    rw [own]
    simpa [← BitVec.toNat_inj] using (show r.windowCode.toNat ≠ 0 by omega)

/-- No two roles share a window base in a table that passes. -/
theorem windowBase_injective {c : StructureConfig} {pageBase : Addr} (h : validate c pageBase = none) {r q : Role}
    {a : Addr} (hr : windowBase c.windows.toList r.windowCode = some a)
    (hq : windowBase c.windows.toList q.windowCode = some a) : r = q := by
  obtain ⟨windows, -⟩ := Option.or_eq_none_iff.1 h
  obtain ⟨apart, fits⟩ := validateWindows_none windows
  obtain ⟨e, he, codeE, baseE⟩ := windowBase_of_valid h r
  obtain ⟨x, hx, codeX, baseX⟩ := windowBase_of_valid h q
  have length {y : WindowEntry} {r : Role} (hy : y ∈ c.windows.toList.filter fun e => e.code ≠ 0)
      (code : y.code = r.windowCode) : y.last = y.base.toNat := by
    have bound := r.windowCode_bounds.2
    have fit := (fits y hy).1
    rw [WindowEntry.lengthFits, if_pos (by rw [code]; omega)] at fit
    simp [WindowEntry.last, of_decide_eq_true fit]
  have lastE := length he codeE
  have lastX := length hx codeX
  have same : e.base = x.base := by
    rw [hr] at baseE; rw [hq] at baseX
    exact (Option.some.inj baseE).symm.trans (Option.some.inj baseX)
  refine Role.windowCode_injective (codeE.symm.trans (Eq.trans ?_ codeX))
  by_contra differ
  have symm : Std.Symm WindowEntry.clearOf := ⟨fun _ _ => WindowEntry.clearOf_symm⟩
  have clear : e.clearOf x := apart.forall he hx fun same => differ (congrArg WindowEntry.code same)
  simp [WindowEntry.clearOf, meets, lastE, lastX, same] at clear

end Sys2Proof.Machine
end

section
/-! PROOF support. Entry to ACTIVE from SETUP: the state that the sweep finds, the nine swept words, and the first run
(R19, R175). -/

namespace Sys2Proof.Machine

/-- Entry to ACTIVE up to the start of the refresh timers (R175). -/
def activePrepared (s : State) : State :=
  let s1 := withCtl (fun c => { c with part := .active, causes := {}, validation := none }) s
  let s2 := referenceModeTaken .neutral (prepareRecords (copyWindows s1))
  restartHold (sandEnterActive (fetchStart (chainEnterActive (allocatorEnterActive s2))))

/-- The state in which the initial sweep hands its words (R175). -/
def activeEntered (s : State) : State := startRefresh (activePrepared s)

/-- The state in which the first run begins. -/
def activeSwept (s : State) : State := initialSweep (activeEntered s)

theorem enterActive_eq (s : State) : enterActive s = reportLost (run false false (activeSwept s)) := rfl

/-- The nine swept words in the order of R19. -/
def sweepWords (s : State) : List (Role × Word) :=
  [(.intent .tractionA, sweptWord s.cfg.str.driveIsolated.a), (.intent .tractionB, sweptWord s.cfg.str.driveIsolated.b),
    (.intent .brake, setpointWord 0 .default), (.mode, modeWord ModeRecord.default .default),
    (.output .edA, sweptWord s.cfg.str.driveIsolated.a), (.output .edB, sweptWord s.cfg.str.driveIsolated.b),
    (.output .frA, sweptWord s.cfg.str.frictionIsolated.a), (.output .frT, sweptWord s.cfg.str.frictionIsolated.t),
    (.output .frB, sweptWord s.cfg.str.frictionIsolated.b)]

theorem initialSweep_eq (s : State) : initialSweep s = handAll (sweepWords s) s := by
  simp only [initialSweep, sweepOutput, handAll, sweepWords, List.foldl_cons, List.foldl_nil, State.isolated, hand_cfg]

theorem sweepWords_roles (s : State) :
    (sweepWords s).map (·.1)
      = [.intent .tractionA, .intent .tractionB, .intent .brake, .mode, .output .edA, .output .edB, .output .frA,
          .output .frT, .output .frB] := rfl

theorem activeEntered_addrs (s : State) (r : Role) :
    (activeEntered s).intent.addrs.get r = windowBase s.cfg.str.windows.toList r.windowCode := by
  rcases r with (_ | _ | _) | _ | x
  case output => cases x <;> rfl
  all_goals rfl

theorem activeEntered_handed (s : State) (r : Role) : (activeEntered s).intent.handed.get r = none := by
  rcases r with (_ | _ | _) | _ | x
  case output => cases x <;> rfl
  all_goals rfl

/-! ### Words handed for distinct free addresses -/

/-- Words that were each handed last are not handed again (R18). -/
theorem handAll_of_handed {words : List (Role × Word)} {s : State}
    (h : ∀ rw ∈ words, s.intent.handed.get rw.1 = some rw.2) : handAll words s = s := by
  induction words with
  | nil => rfl
  | cons rw rest ih =>
    have first : hand rw.1 rw.2 s = s := hand_of_handed (h rw (List.mem_cons_self ..))
    rw [handAll, List.foldl_cons, first]
    exact ih fun q hq => h q (List.mem_cons_of_mem _ hq)

/-- The entry of a queue as the sweep fixes it. -/
def QueueEntry.content (e : QueueEntry) : Role × Addr × Word × Nat := (e.origin, e.addr, e.word, e.attempts)

/-- Words of roles not yet handed, for distinct addresses that are not queued, join at the tail in their order (R34). -/
theorem handAll_queue {base : Role → Addr} {words : List (Role × Word)} {s : State}
    (addr : ∀ rw ∈ words, s.intent.addrs.get rw.1 = some (base rw.1))
    (fresh : ∀ rw ∈ words, s.intent.handed.get rw.1 = none)
    (distinct : (words.map fun rw => base rw.1).Nodup)
    (free : ∀ rw ∈ words, ∀ e ∈ s.ip.queue, e.addr ≠ base rw.1) :
    (handAll words s).ip.queue.map QueueEntry.content
      = s.ip.queue.map QueueEntry.content ++ words.map fun rw => (rw.1, base rw.1, rw.2, 0) := by
  induction words generalizing s with
  | nil => simp [handAll]
  | cons rw rest ih =>
    obtain ⟨new, restDistinct⟩ := List.nodup_cons.1 distinct
    have here := List.mem_cons_self (a := rw) (l := rest)
    have own := addr rw here
    have joined : (hand rw.1 rw.2 s).ip.queue = s.ip.queue ++
        [{ id := s.ip.nextId, addr := base rw.1, word := rw.2, origin := rw.1, attempts := 0 }] := by
      rw [hand_of_differs (by simp [fresh rw here]) own]
      simp only [enqueue_of_new (free rw here)]
    have apart : ∀ q ∈ rest, base q.1 ≠ base rw.1 := fun q hq same => new (List.mem_map.2 ⟨q, hq, same⟩)
    have step := ih (s := hand rw.1 rw.2 s)
      (fun q hq => by rw [hand_addrs]; exact addr q (List.mem_cons_of_mem _ hq))
      (fun q hq => by
        rw [hand_handed_ne fun same => apart q hq (congrArg base same)]
        exact fresh q (List.mem_cons_of_mem _ hq))
      restDistinct
      (fun q hq e he => by
        rw [joined] at he
        rcases List.mem_append.1 he with old | last
        · exact free q (List.mem_cons_of_mem _ hq) e old
        · rw [List.mem_singleton.1 last]
          exact (apart q hq).symm)
    rw [handAll, List.foldl_cons]
    refine step.trans ?_
    rw [joined]
    simp [QueueEntry.content]

/-! ### The first run (R123, R175) -/

/-- A walk in which nothing remains takes nothing. -/
theorem walk_of_zero {caps : PerSource Nat} {order : List Source} {w : Walk} (none : w.remaining = 0)
    (alloc : ∀ x, w.alloc.get x = 0) :
    (order.foldl (Walk.take caps) w).remaining = 0 ∧ ∀ x, (order.foldl (Walk.take caps) w).alloc.get x = 0 := by
  induction order generalizing w with
  | nil => exact ⟨none, alloc⟩
  | cons z rest ih =>
    refine ih (w := w.take caps z) (by simp [Walk.take, none]) fun x => ?_
    simp only [Walk.take, none, Nat.zero_min, PerSource.get_set, alloc]
    split <;> rfl

variable (s : State)

/-- The refresh timers start with their full budgets (R7). -/
theorem startRefresh_channel (r : EffortRole) :
    (startRefresh s).intent.channels.get r
      = { s.intent.channels.get r with
          timer :=
            if (s.cfg.tun.intent.refresh.get r).continuous then none
            else some (s.now + (s.cfg.tun.intent.refresh.get r).budget * 10 * 1000) } := PerEffort.get_build ..

theorem startRefresh_mode :
    (startRefresh s).intent.mode
      = { s.intent.mode with timer := some (s.now + s.cfg.tun.intent.modeBudget * 10 * 1000) } := rfl

theorem activeSwept_ctl :
    (activeSwept s).ctl = { s.ctl with part := .active, causes := {}, validation := none } := initialSweep_ctl _

theorem activeSwept_accepted : (activeSwept s).intent.accepted = ModeRecord.default := initialSweep_intent_accepted _

theorem activePrepared_now : (activePrepared s).now = s.now := by simp [activePrepared]

theorem activePrepared_cfg : (activePrepared s).cfg = s.cfg := by simp [activePrepared]

theorem activeSwept_mode :
    (activeSwept s).intent.mode
      = { intent := none, fresh := .absent, timer := some (s.now + s.cfg.tun.intent.modeBudget * 10 * 1000) } := by
  rw [activeSwept, initialSweep_intent_mode, activeEntered, startRefresh_mode, activePrepared_now, activePrepared_cfg]
  rfl

theorem activeSwept_held : (activeSwept s).intent.held = ⟨0, 0⟩ := initialSweep_intent_held _

theorem activeSwept_channel (r : EffortRole) :
    (activeSwept s).intent.channels.get r
      = { intent := none, fresh := .absent
          timer :=
            if (s.cfg.tun.intent.refresh.get r).continuous then none
            else some (s.now + (s.cfg.tun.intent.refresh.get r).budget * 10 * 1000) } := by
  rw [activeSwept, initialSweep_intent_channels, activeEntered, startRefresh_channel, activePrepared_now,
    activePrepared_cfg]
  cases r <;> rfl

theorem activeSwept_blend :
    (activeSwept s).blend
      = { Allocator.reset with
          seenMagnitude := s.ref.magnitude, seenSense := s.ref.sense
          seenRollback := (activePrepared s).blend.seenRollback } := by
  rw [activeSwept, initialSweep_blend, activeEntered, startRefresh_blend]
  rfl

theorem activeSwept_ref :
    (activeSwept s).ref
      = { s.ref with
          rollback := (activePrepared s).ref.rollback
          hold := if s.ref.source = .held then some (s.now + 200000) else s.ref.hold } := by
  rw [activeSwept, initialSweep_ref, activeEntered, startRefresh_ref]
  simp [activePrepared, restartHold, referenceModeTaken, State.timer, Config.holdLength]
  rfl

theorem activeSwept_hold : (activeSwept s).holdRequirement = 0 := by
  rw [holdRequirement_of_live _ (.inl (by simp [activeSwept_ctl])), activeSwept_accepted]
  simp [ModeRecord.default]

theorem activeSwept_hill (returning : Bool) : (activeSwept s).nextHill returning = .off := by
  simp [State.nextHill, activeSwept_hold, Allocator.nextHill]

theorem activeSwept_brake : (activeSwept s).brakeIntent = 0 := by
  rw [brakeIntent_eq, if_neg]
  have brake : (activeSwept s).intent.channels.brake = _ := activeSwept_channel s .brake
  rw [brake]
  exact nofun

/-- The first run finds no demand (R123, R175). -/
theorem firstRun_dEff : (run false false (activeSwept s)).blend.dEff = 0 := by
  rw [run_dEff, run_d, activeSwept_ctl, activeSwept_accepted, activeSwept_hold, activeSwept_brake, activeSwept_blend]
  simp [ModeRecord.default, demand, effectiveDemand, Allocator.reset]

theorem firstRun_mtb : (run false false (activeSwept s)).blend.mtb = 0 :=
  Nat.le_zero.1 ((mtb_le_dEff ..).trans (firstRun_dEff s).le)

theorem firstRun_walk :
    let b := (run false false (activeSwept s)).blend
    let w := (activeSwept s).walk ((activeSwept s).demanded false false)
    b.deficit = 0 ∧ ∀ x, w.alloc.get x = 0 := by
  obtain ⟨-, deficit, walked⟩ := run_walk (activeSwept s) false false
  rw [firstRun_dEff, firstRun_mtb] at deficit walked
  have none := walk_of_zero (caps := (run false false (activeSwept s)).blend.caps)
    (order := (activeSwept s).allocationOrder)
    (w := ⟨⟨0, 0, 0, 0, 0⟩, ⟨0, 0, 0, 0, 0⟩, 0 - 0⟩) rfl fun x => by cases x <;> rfl
  exact ⟨deficit.trans none.1, by rw [walked]; exact none.2⟩

theorem activeSwept_isolated (x : Source) : (activeSwept s).isolated x = s.isolated x := by
  have cfg : (activeSwept s).cfg = s.cfg := by simp [activeSwept, activeEntered, activePrepared_cfg]
  cases x <;> simp only [State.isolated, cfg]

/-- The first run forms the swept words again (R19). -/
theorem firstRun_words :
    let t := activeSwept s
    ∀ rw ∈ runWords t (t.walk (t.demanded false false)) { t with blend := t.runRecord false false },
      rw ∈ sweepWords (activeEntered s) := by
  intro t
  obtain ⟨deficit, alloc⟩ := firstRun_walk s
  have record : t.runRecord false false = (run false false t).blend := (run_blend ..).symm
  have fresh : t.intent.channels.brake.fresh = .absent := by
    rw [show t.intent.channels.brake = _ from activeSwept_channel s .brake]
  have part : t.ctl.part = .active := by rw [activeSwept_ctl]
  have output (x : Source) : t.outputWord (t.walk (t.demanded false false)) x = sweptWord (s.isolated x) := by
    rw [outputWord_eq, activeSwept_isolated, alloc]
    simp [sweptWord, part, fresh]
  have brake : setpointWord ((t.runRecord false false).dEff - (t.runRecord false false).deficit)
      (State.brakeTag { t with blend := t.runRecord false false }
        ((t.runRecord false false).dEff - (t.runRecord false false).deficit)) = setpointWord 0 .default := by
    rw [record, firstRun_dEff, deficit]
    simp [State.brakeTag, part, fresh]
  simp only [runWords, brake, output, List.map_cons, List.map_nil]
  have cfg : (activeEntered s).cfg = s.cfg := by simp [activeEntered, activePrepared_cfg]
  simp [sweepWords, cfg, State.isolated]

end Sys2Proof.Machine
end

section
/-! PROOF of `Obligations.SweepQueuesNineWords`. -/

namespace Sys2Proof.Machine

variable {s : State}

/-- The window base of a role, 0 where the table has none. -/
def State.baseOf (s : State) (r : Role) : Addr := (windowBase s.cfg.str.windows.toList r.windowCode).getD 0

theorem baseOf_of_valid (valid : validate s.cfg.str s.ctl.pageBase = none) (r : Role) :
    windowBase s.cfg.str.windows.toList r.windowCode = some (s.baseOf r) := by
  obtain ⟨e, -, -, base⟩ := windowBase_of_valid valid r
  simp [State.baseOf, base]

theorem baseOf_injective (valid : validate s.cfg.str s.ctl.pageBase = none) : Function.Injective s.baseOf :=
  fun r q same => windowBase_injective valid (baseOf_of_valid valid r) (by rw [same]; exact baseOf_of_valid valid q)

theorem sweepWords_nodup (s : State) : ((sweepWords s).map (·.1)).Nodup := by
  rw [sweepWords_roles]
  decide

theorem activeSwept_handed (valid : validate s.cfg.str s.ctl.pageBase = none) {rw : Role × Word}
    (h : rw ∈ sweepWords (activeEntered s)) : (activeSwept s).intent.handed.get rw.1 = some rw.2 := by
  rw [activeSwept, initialSweep_eq]
  exact handAll_handed (sweepWords_nodup _) h (by rw [activeEntered_addrs, baseOf_of_valid valid]; exact nofun)

/-- The first run finds its words handed and hands none. -/
theorem firstRun_handed (valid : validate s.cfg.str s.ctl.pageBase = none) :
    (run false false (activeSwept s)).intent = (activeSwept s).intent
      ∧ (run false false (activeSwept s)).ip = (activeSwept s).ip := by
  obtain ⟨intent, ip⟩ := run_hands false false (activeSwept s)
  rw [intent, ip, handAll_of_handed]
  · exact ⟨rfl, rfl⟩
  · exact fun rw h => activeSwept_handed valid (firstRun_words s rw h)

/-- After the sweep the queue holds its nine words, each for its window's base. -/
theorem activeSwept_queue (valid : validate s.cfg.str s.ctl.pageBase = none) (drained : s.ip.queue = []) :
    (activeSwept s).ip.queue.map QueueEntry.content
      = (sweepWords (activeEntered s)).map fun rw => (rw.1, s.baseOf rw.1, rw.2, 0) := by
  have queue : (activeEntered s).ip.queue = [] := drained
  rw [activeSwept, initialSweep_eq]
  refine (handAll_queue (base := s.baseOf) (fun rw _ => ?_) (fun rw _ => activeEntered_handed s _) ?_ ?_).trans ?_
  · rw [activeEntered_addrs, baseOf_of_valid valid]
  · rw [show (sweepWords _).map (fun rw => s.baseOf rw.1) = ((sweepWords (activeEntered s)).map (·.1)).map s.baseOf by simp]
    exact (sweepWords_nodup _).map (baseOf_injective valid)
  · simp [queue]
  · simp [queue]

theorem takeGoActive_of_setup (part : s.ctl.part = .setup) (drained : s.ip.queue = []) (landed : s.ip.inflight = none)
    (valid : validate s.cfg.str s.ctl.pageBase = none) : takeGoActive s = enterActive (result 1 .accepted s) := by
  simp [takeGoActive, part, goActiveSetup, drained, landed, valid]

theorem reportLost_of_held (h : s.ref.source ≠ .lost) : reportLost s = s := if_neg h

/-- Settles O19: the sweep over distinct windows; the first run hands nothing more. -/
theorem sweepQueuesNineWords : Obligations.SweepQueuesNineWords := by
  intro w s stands value part drained landed valid source
  let began : State := result 1 .accepted (s.completed true 0)
  have taken : exec .goActive s = .next (finish (run false false (activeSwept began))) := by
    rw [exec_goActive stands value, takeGoActive_of_setup (s := s.completed true 0) part drained landed valid,
      enterActive_eq, reportLost_of_held]
    rw [run_ref_source, activeSwept_ref]
    exact source
  obtain ⟨-, ip⟩ := firstRun_handed (s := began) valid
  have content := activeSwept_queue (s := began) valid drained
  rw [← ip] at content
  have parts {α : Type} (f : Role × Addr × Word × Nat → α) := congrArg (List.map f) content
  simp only [List.map_map] at parts
  refine ⟨_, taken, parts (·.1), ?_, fun e he => ?_⟩
  · have cfg : (activeEntered began).cfg = s.cfg := by simp [activeEntered, activePrepared_cfg]; rfl
    refine (parts fun c => c.2.2.1).trans ?_
    simp [sweepWords, cfg]
  · have queued := List.mem_map_of_mem (f := QueueEntry.content) he
    rw [content] at queued
    obtain ⟨rw, -, same⟩ := List.mem_map.1 queued
    simp only [QueueEntry.content, Prod.mk.injEq] at same
    obtain ⟨origin, addr, -, attempts⟩ := same
    rw [← origin, ← addr]
    exact ⟨baseOf_of_valid (s := began) valid _, attempts.symm⟩

end Sys2Proof.Machine
end

section
/-! PROOF of `Obligations.GoActiveEntersActive`. -/

namespace Sys2Proof.Machine

variable (s : State)

theorem activeSwept_cfg : (activeSwept s).cfg = s.cfg := by simp [activeSwept, activeEntered, activePrepared_cfg]

theorem activeSwept_copy : (activeSwept s).ip.copy = s.cfg.str.windows := by
  simp [activeSwept, activeEntered, activePrepared, copyWindows, prepareRecords, referenceModeTaken, fetchStart, withCtl]

theorem activeSwept_reply : (activeSwept s).ip.reply = s.ip.reply := by
  simp [activeSwept, activeEntered, activePrepared, copyWindows, prepareRecords, referenceModeTaken, fetchStart, withCtl]

theorem activeSwept_fetchTimer :
    (activeSwept s).ip.fetchTimer = some (s.now + s.cfg.tun.slip.controlPeriod * 1000) := by
  simp [activeSwept, activeEntered, activePrepared, fetchStart, State.timer, State.controlPeriod, ms]

theorem silenceStart_eq :
    s.silenceStart
      = if 1 ≤ s.cfg.str.position ∧ s.cfg.str.position ≤ 3 then
          some (s.now + 3 * s.cfg.tun.link.expectedInterval * (s.cfg.tun.slip.controlPeriod * 1000))
        else none := by
  have follower : s.follower = true ↔ 1 ≤ s.cfg.str.position ∧ s.cfg.str.position ≤ 3 := by simp [State.follower]
  simp only [State.silenceStart, follower]
  rfl

/-- The silence timer starts by the configuration and the time. -/
theorem silenceStart_congr {t : State} (now : t.now = s.now) (cfg : t.cfg = s.cfg) : t.silenceStart = s.silenceStart := by
  rw [silenceStart_eq, silenceStart_eq, now, cfg]

theorem activeSwept_chain :
    (activeSwept s).chain
      = { s.chain with
          buffer := none, link := .searching, silence := s.silenceStart
          transmit := some (s.now + s.cfg.tun.link.chainInterval * (s.cfg.tun.slip.controlPeriod * 1000)) } := by
  rw [activeSwept, initialSweep_chain, activeEntered, startRefresh_chain]
  simp only [activePrepared, restartHold_chain, sandEnterActive_chain, fetchStart_chain, chainEnterActive]
  rw [silenceStart_congr s (by simp) (by simp)]
  simp [State.timer, State.transmitLength, State.controlPeriod, ms]

theorem activeSwept_sander {i : SanderId} (enabled : (s.cfg.tun.sanders.get i).enabled = true) :
    ((activeSwept s).sand.sanders.get i).remaining = (s.cfg.tun.sanders.get i).budget
      ∧ ((activeSwept s).sand.sanders.get i).windowStart = s.ref.odometer := by
  simp [activeSwept, activeEntered, activePrepared, sandEnterActive, enabled, referenceModeTaken]

theorem activeSwept_frame :
    activeSwept s
      = { s with
          ctl := (activeSwept s).ctl, ip := (activeSwept s).ip, intent := (activeSwept s).intent, ref := (activeSwept s).ref
          blend := (activeSwept s).blend, sand := (activeSwept s).sand, chain := (activeSwept s).chain } := by
  refine State.ext ?_ ?_ ?_ rfl ?_ rfl rfl ?_ rfl ?_ ?_ rfl rfl rfl ?_ ?_ ?_ ?_ ?_ <;>
    simp [activeSwept, activeEntered, activePrepared]

theorem run_host_none {s : State} (h : s.ip.host = none) (evaluation returning : Bool) :
    (run evaluation returning s).ip.host = none := by
  have key := run_ip_key evaluation returning s
  rw [h] at key
  exact Option.map_eq_none_iff.1 key

theorem activeSwept_host (h : s.ip.host = none) : (activeSwept s).ip.host = none := by
  have key := initialSweep_ip_key (activeEntered s)
  have none : (activeEntered s).ip.host = none := by
    simpa [activeEntered, activePrepared, copyWindows, prepareRecords, referenceModeTaken, fetchStart, withCtl] using h
  rw [none] at key
  exact Option.map_eq_none_iff.1 key

theorem firstRun_hill : (run false false (activeSwept s)).blend.hill = .off := by rw [run_hill, activeSwept_hill]

theorem firstRun_lines : (run false false (activeSwept s)).blend.lines = false := by
  rw [run_lines_set, activeSwept_accepted, activeSwept_blend]
  rfl

theorem firstRun_sand : (run false false (activeSwept s)).sand = (activeSwept s).sand := by
  rw [run_sand, if_neg]
  rw [activeSwept_hill]
  exact nofun

theorem firstRun_frame :
    run false false (activeSwept s)
      = { s with
          ctl := (run false false (activeSwept s)).ctl, ip := (run false false (activeSwept s)).ip
          intent := (run false false (activeSwept s)).intent, ref := (run false false (activeSwept s)).ref
          ev := (run false false (activeSwept s)).ev, blend := (run false false (activeSwept s)).blend
          sand := (run false false (activeSwept s)).sand, chain := (run false false (activeSwept s)).chain
          rep := (run false false (activeSwept s)).rep } := by
  refine State.ext ?_ ?_ ?_ rfl ?_ rfl rfl ?_ rfl rfl ?_ rfl rfl rfl rfl ?_ ?_ ?_ ?_ <;>
    simp [activeSwept, activeEntered, activePrepared]

theorem enterFallback_ref_frame :
    (enterFallback s).ref = { s.ref with rollback := (enterFallback s).ref.rollback } := by
  have mid : (handMode (claimBoth false (fallbackEntered s))).ref = s.ref := by
    simp [fallbackEntered, withCtl, allocatorFallback]
  have ran := run_ref_frame (handMode (claimBoth false (fallbackEntered s))) false false
  rw [mid] at ran
  exact ran

/-- The demand at an entry to FALLBACK with no brake intent and no demand before it, with MODE not LIVE: H of the tuned
maxima against the fallback brake (R122 to R124). -/
theorem enterFallback_demand (brake : s.intent.channels.brake.fresh ≠ .live) (mode : s.intent.mode.fresh ≠ .live)
    (idle : s.blend.dEff = 0) :
    let tun := s.cfg.tun.blend
    let b := (enterFallback s).blend
    b.h = tun.maxMass * 250 * 981 * tun.maxGradient / 1000000 * (1000 + tun.holdMargin) / 1000
      ∧ b.d = min 65534 (max b.h tun.fallbackBrake) ∧ b.dEff = b.d := by
  let mid : State := handMode (claimBoth false (fallbackEntered s))
  have cfg : mid.cfg = s.cfg := by simp [mid, fallbackEntered, withCtl, allocatorFallback]
  have part : mid.ctl.part = .fallback := by simp [mid, fallbackEntered, withCtl, allocatorFallback]
  have intent : mid.brakeIntent = 0 := by
    rw [brakeIntent_eq, if_neg]
    simpa [mid, fallbackEntered, withCtl, allocatorFallback] using brake
  have fresh : mid.intent.mode.fresh ≠ .live := by simpa [mid, fallbackEntered, withCtl, allocatorFallback] using mode
  have dEff : mid.blend.dEff = 0 := by
    simpa [mid, fallbackEntered, withCtl, allocatorFallback, Allocator.withoutShortfall] using idle
  have h := holdRequirement_of_maxima mid part fresh
  rw [cfg] at h
  refine ⟨(run_h mid false false).trans h, ?_, ?_⟩
  · rw [show (enterFallback s).blend.h = _ from run_h mid false false]
    refine (run_d mid false false).trans ?_
    simp [demand, part, intent, cfg]
  · refine (run_dEff mid false false).trans ?_
    rw [effectiveDemand_of_event, dEff, Nat.zero_max]
    rfl

/-- What entry to FALLBACK leaves alone, at the end of an entry to ACTIVE that left it alone. -/
theorem enterFallback_frame_of {s t : State} {f : Controller → Controller} {c : Cause}
    (h : t = { s with
      ctl := t.ctl, ip := t.ip, intent := t.intent, ref := t.ref, ev := t.ev, blend := t.blend, sand := t.sand
      chain := t.chain, rep := t.rep }) :
    let u := enterFallback (withCtl f (raise c t))
    u = { s with
      ctl := u.ctl, ip := u.ip, intent := u.intent, ref := u.ref, blend := u.blend, sand := u.sand, chain := u.chain
      ev := u.ev, rep := u.rep } :=
  State.ext ((enterFallback_now _).trans (by rw [h]; rfl)) ((enterFallback_pins _).trans (by rw [h]; rfl))
    ((enterFallback_lines _).trans (by rw [h]; rfl)) rfl ((enterFallback_cfg _).trans (by rw [h]; rfl)) rfl rfl
    ((enterFallback_axle _).trans (by rw [h]; rfl)) rfl rfl ((enterFallback_ceil _).trans (by rw [h]; rfl)) rfl rfl rfl
    rfl ((enterFallback_rw _).trans (by rw [h]; rfl)) ((enterFallback_memory _).trans (by rw [h]; rfl))
    ((enterFallback_draws _).trans (by rw [h]; rfl)) ((enterFallback_pending _).trans (by rw [h]; rfl))

/-- Settles O18: the part as the sweep finds it, and a first run without demand; with the reference LOST, entry to FALLBACK
on that. -/
theorem goActiveEntersActive : Obligations.GoActiveEntersActive := by
  refine ⟨?_, ?_⟩
  · intro w s stands value part drained landed valid source period follower
    let began : State := result 1 .accepted (s.completed true 0)
    have taken : exec .goActive s = .next (finish (run false false (activeSwept began))) := by
      rw [exec_goActive stands value, takeGoActive_of_setup (s := s.completed true 0) part drained landed valid,
        enterActive_eq, reportLost_of_held]
      rw [run_ref_source, activeSwept_ref]
      exact source
    have chain := activeSwept_chain began
    refine ⟨_, taken, ?_, ?_, ?_, ?_, fun r => ?_, ?_, ?_, fun m => ?_, ?_, ?_, firstRun_dEff began, firstRun_hill began,
      firstRun_lines began, (firstRun_walk began).1, ?_, ?_, ?_, ?_, fun i enabled => ?_, ?_⟩
    · rw [run_ctl, activeSwept_ctl]
      rfl
    · rw [run_ip_copy, activeSwept_copy]
      rfl
    · rw [run_ip_reply, activeSwept_reply]
      rfl
    · exact run_host_none (activeSwept_host began rfl) false false
    · rw [run_intent_channels, activeSwept_channel]
      rfl
    · rw [run_intent_mode, activeSwept_mode]
      rfl
    · rw [run_intent_accepted, activeSwept_accepted]
    · rw [run_intent_held, activeSwept_held]
      cases m <;> rfl
    · rw [run_ip_fetchTimer, activeSwept_fetchTimer]
      rfl
    · rw [run_ref_frame, activeSwept_ref]
      rfl
    · rw [run_chain, chain]
    · rw [run_chain, chain]
    · rw [run_chain, chain]
      rfl
    · rw [run_chain, chain]
      exact silenceStart_eq began
    · rw [firstRun_sand]
      exact activeSwept_sander began enabled
    · exact firstRun_frame began
  · intro w s stands value part drained landed valid source period tun
    let began : State := result 1 .accepted (s.completed true 0)
    let ran : State := run false false (activeSwept began)
    let reported : State := raise .referenceLost ran
    let joined : State := withCtl (fun c => { c with causes := c.causes.join .referenceLost }) reported
    have lost : ran.ref.source = .lost := by
      simp only [ran, run_ref_source, activeSwept_ref]
      exact source
    have ctl : ran.ctl = { s.ctl with
        part := .active, causes := {}, validation := none, commandValue := 1, outcome := .accepted } := by
      simp only [ran, run_ctl, activeSwept_ctl]
      rfl
    have delivered : reportLost ran = enterFallback joined := by
      rw [reportLost, if_pos lost]
      exact deliverCause_of_active (s := reported) (by simp [reported, raise, ctl]) .referenceLost
    have taken : exec .goActive s = .next (finish (enterFallback joined)) := by
      rw [exec_goActive stands value, takeGoActive_of_setup (s := s.completed true 0) part drained landed valid,
        enterActive_eq, ← delivered]
    have intent : joined.intent = (run false false (activeSwept began)).intent := rfl
    have mode : joined.intent.mode.fresh = .absent := by rw [intent, run_intent_mode, activeSwept_mode]
    have channel (r : EffortRole) : (joined.intent.channels.get r).fresh = .absent := by
      rw [intent, run_intent_channels, activeSwept_channel]
    have accepted : joined.intent.accepted = ModeRecord.default := by
      rw [intent, run_intent_accepted, activeSwept_accepted]
    have cfg : joined.cfg = s.cfg := by
      change (run false false (activeSwept began)).cfg = s.cfg
      rw [run_cfg, activeSwept_cfg]
      rfl
    have demand := enterFallback_demand joined
      (by rw [show joined.intent.channels.brake.fresh = _ from channel .brake]; exact nofun)
      (by rw [mode]; exact nofun) (firstRun_dEff began)
    rw [cfg] at demand
    obtain ⟨h, d, dEff⟩ := demand
    have addr : joined.intent.addrs.get .mode = some (began.baseOf .mode) := by
      rw [intent, run_intent_addrs, activeSwept, initialSweep_intent_addrs, activeEntered_addrs]
      exact baseOf_of_valid (s := began) valid .mode
    refine ⟨_, taken, ?_, ?_, enterFallback_flag joined, ?_, ?_, ?_, fun r => ?_, ?_, ?_, enterFallback_held joined, ?_, ?_,
      ?_, h, d, dEff, enterFallback_hill joined, ?_, ?_⟩
    · rw [enterFallback_ctl]
      change { ran.ctl with causes := ran.ctl.causes.join .referenceLost, part := PartState.fallback } = _
      rw [ctl]
      rfl
    · exact enterFallback_rep_keeps (kept_flag .referenceLost) (by simp [joined, reported, raise, withCtl])
    · rw [enterFallback_ip_copy]
      change (run false false (activeSwept began)).ip.copy = _
      rw [run_ip_copy, activeSwept_copy]
      rfl
    · rw [enterFallback_ip_reply]
      change (run false false (activeSwept began)).ip.reply = _
      rw [run_ip_reply, activeSwept_reply]
      rfl
    · have key := enterFallback_ip_key joined
      rw [show joined.ip.host = none from run_host_none (activeSwept_host began rfl) false false] at key
      exact Option.map_eq_none_iff.1 key
    · rw [enterFallback_intent_channels, channel]
    · rw [enterFallback_intent_mode, mode]
    · rw [enterFallback_intent_accepted, accepted]
    · have handed := (Follows.refl joined .mode).enterFallback_mode.handed _ rfl _ addr
      rw [accepted] at handed
      exact handed.1
    · rw [enterFallback_ip_fetchTimer]
      change (run false false (activeSwept began)).ip.fetchTimer = _
      rw [run_ip_fetchTimer, activeSwept_fetchTimer]
      rfl
    · rw [enterFallback_chain]
      change (run false false (activeSwept began)).chain.transmit = _
      rw [run_chain, activeSwept_chain]
      rfl
    · have ref : joined.ref = { s.ref with rollback := joined.ref.rollback } := by
        change (run false false (activeSwept began)).ref
          = { s.ref with rollback := (run false false (activeSwept began)).ref.rollback }
        refine (run_ref_frame ..).trans ?_
        rw [activeSwept_ref, if_neg]
        · rfl
        · rw [show began.ref.source = .lost from source]
          exact nofun
      refine (enterFallback_ref_frame joined).trans ?_
      rw [ref]
    · exact enterFallback_frame_of (f := fun c => { c with causes := c.causes.join .referenceLost }) (firstRun_frame began)

end Sys2Proof.Machine
end

section
/-! PROOF support. What a run reads, a host transaction that is held or no longer held, and the end of WAKING by its stages
(R25, R121, R182). -/

namespace Sys2Proof.Machine

variable {s : State}

/-! ### What a run's record is formed from (R121) -/

/-- Two states whose runs leave the same record. -/
structure RunAlike (s t : State) : Prop where
  now : s.now = t.now
  part : s.ctl.part = t.ctl.part
  cfg : s.cfg = t.cfg
  brake : s.brakeIntent = t.brakeIntent
  mode : s.intent.mode.fresh = t.intent.mode.fresh
  accepted : s.intent.accepted = t.intent.accepted
  bogies : s.ev.bogies = t.ev.bogies
  records : s.ceil.records = t.ceil.records
  blend : s.blend = t.blend
  supply : s.sand.supplyGood = t.sand.supplyGood

theorem RunAlike.runRecord {t : State} (h : RunAlike s t) (evaluation returning : Bool) :
    s.runRecord evaluation returning = t.runRecord evaluation returning := by
  have hold : s.holdRequirement = t.holdRequirement := by
    simp only [State.holdRequirement, State.massAndGradient, h.part, h.cfg, h.mode, h.accepted]
  have hill : s.nextHill returning = t.nextHill returning := by
    simp only [State.nextHill, hold, h.part, h.cfg, h.accepted, h.blend]
  have demanded : s.demanded evaluation returning = t.demanded evaluation returning := by
    simp only [State.demanded, hold, hill, h.brake, h.part, h.cfg, h.accepted, h.blend]
  have ed (m : Motor) : s.edCap m = t.edCap m := by
    simp only [State.edCap, h.part, h.cfg, h.accepted, h.blend, h.bogies, h.records]
  have fr (y : Bogie) : s.frCap y = t.frCap y := by simp only [State.frCap, h.cfg, h.blend, h.bogies]
  have caps : s.caps = t.caps := by simp only [State.caps, ed, fr]
  have walk (b : Allocator) : s.walk b = t.walk b := by
    simp only [State.walk, State.mtbShare, State.allocationOrder, caps, h.cfg, h.supply]
  have short (m : Motor) (n : Nat) : s.shortfallCondition m n = t.shortfallCondition m n := by
    simp only [State.shortfallCondition, h.part, h.accepted, h.blend]
  simp only [State.runRecord, demanded, State.allocated, walk, caps, short, State.timer, State.mtbShare, h.now, h.cfg,
    h.accepted, h.supply]

/-! ### A transaction held until the part is served (R25, R182) -/

/-- The transaction at the processor port, and whether it is held until the part is served. -/
def HostSlot.parked (h : HostSlot) : HostTxn × Bool := (h.txn, h.wait == .untilServed)

theorem HostSlot.joinPending_parked (h : HostSlot) (f : Option InFlight) (a : Addr) (i : Nat) :
    (h.joinPending f a i).parked = h.parked := by
  simp only [HostSlot.joinPending]
  split
  · rename_i wait
    split
    · simp [HostSlot.parked, wait]
    · rfl
  · rfl

theorem hand_parked (r : Role) (w : Word) (s : State) :
    (hand r w s).ip.host.map HostSlot.parked = s.ip.host.map HostSlot.parked := by
  simp only [hand]
  split
  · simp only [Interposer.enqueue]
    split
    · rfl
    · cases s.ip.host <;> simp [HostSlot.joinPending_parked]
  · rfl

theorem handAll_parked (words : List (Role × Word)) (s : State) :
    (handAll words s).ip.host.map HostSlot.parked = s.ip.host.map HostSlot.parked := by
  induction words generalizing s with
  | nil => rfl
  | cons rw rest ih => exact (ih _).trans (hand_parked ..)

theorem run_parked (evaluation returning : Bool) (s : State) :
    (run evaluation returning s).ip.host.map HostSlot.parked = s.ip.host.map HostSlot.parked := by
  obtain ⟨-, ip⟩ := run_hands evaluation returning s
  rw [ip, handAll_parked]

theorem claim_parked (evaluation : Bool) (m : Motor) (s : State) :
    (claim evaluation m s).ip.host.map HostSlot.parked = s.ip.host.map HostSlot.parked := hand_parked ..

theorem rewords_parked (returning : Bool) (s : State) :
    (rewords returning s).ip.host.map HostSlot.parked = s.ip.host.map HostSlot.parked := by
  rw [rewords, run_parked, handMode, hand_parked, claimBoth, claim_parked, claim_parked]

/-- No transaction waits for the part to be served. -/
def State.noneHeld (s : State) : Prop := ∀ h, s.ip.host = some h → h.wait ≠ .untilServed

theorem noneHeld_of_free (h : s.ip.host = none) : s.noneHeld := fun x hx => by rw [h] at hx; cases hx

theorem noneHeld_of_parked {t : State} (h : t.ip.host.map HostSlot.parked = s.ip.host.map HostSlot.parked)
    (none : s.noneHeld) : t.noneHeld := by
  intro x hx wait
  rw [hx] at h
  obtain ⟨y, hy, same⟩ := Option.map_eq_some_iff.1 h.symm
  simp only [HostSlot.parked, wait, Prod.mk.injEq, beq_self_eq_true, beq_iff_eq] at same
  exact none y hy same.2

theorem held_of_parked {t : State} (h : t.ip.host.map HostSlot.parked = s.ip.host.map HostSlot.parked) {x : HostSlot}
    (held : s.ip.host = some x) (wait : x.wait = .untilServed) :
    ∃ y, t.ip.host = some y ∧ y.txn = x.txn ∧ y.wait = .untilServed := by
  rw [held] at h
  obtain ⟨y, hy, same⟩ := Option.map_eq_some_iff.1 h
  simp only [HostSlot.parked, wait, Prod.mk.injEq, beq_self_eq_true, beq_iff_eq] at same
  exact ⟨y, hy, same⟩

theorem occupy_noneHeld {w : HostWait} (h : w ≠ .untilServed) (t : HostTxn) (page : Option (BitVec 8)) (s : State) :
    (occupy t w page s).noneHeld := fun x hx => by cases hx; exact h

theorem occupy_claiming_noneHeld (t : HostTxn) (page : Option (BitVec 8)) (s : State) :
    (occupy t .claiming page s).noneHeld := occupy_noneHeld (w := .claiming) nofun t page s

theorem reply_noneHeld (ok : Bool) (data : Word) (s : State) : (reply ok data s).noneHeld := noneHeld_of_free rfl

theorem refuse_noneHeld (c : Cause) (s : State) : (refuse c s).noneHeld := reply_noneHeld _ _ _

theorem readWait_ne (ip : Interposer) (a : Addr) : ip.readWait a ≠ .untilServed := by
  simp only [Interposer.readWait]
  split <;> exact nofun

theorem windowReadWait_ne (s : State) (e : WindowEntry) (a : Addr) : s.windowReadWait e a ≠ .untilServed := by
  simp only [State.windowReadWait]
  (repeat' split)
  · exact readWait_ne _ _
  all_goals exact nofun

theorem modeWrite_noneHeld (w : Word) (order : Fin 120) (s : State) : (modeWrite w order s).noneHeld := by
  simp only [modeWrite]
  split
  · exact refuse_noneHeld _ _
  · exact reply_noneHeld _ _ _

theorem windowWrite_noneHeld (e : WindowEntry) (t : HostTxn) (s : State) : (windowWrite e t s).noneHeld := by
  simp only [windowWrite, intentWrite]
  (repeat' split)
  · exact reply_noneHeld _ _ _
  · exact modeWrite_noneHeld _ _ _
  · exact refuse_noneHeld _ _
  · exact occupy_claiming_noneHeld _ _ _
  · exact refuse_noneHeld _ _

/-- A decoded transaction is not held. -/
theorem decodeTxn_noneHeld (t : HostTxn) (s : State) : (decodeTxn t s).noneHeld := by
  simp only [decodeTxn, pageWrite]
  (repeat' split)
  · exact refuse_noneHeld _ _
  · exact occupy_claiming_noneHeld _ _ _
  · exact occupy_claiming_noneHeld _ _ _
  · exact windowWrite_noneHeld _ _ _
  · exact occupy_noneHeld (windowReadWait_ne _ _ _) _ _ _
  · exact occupy_noneHeld (readWait_ne _ _) _ _ _
  · exact occupy_claiming_noneHeld _ _ _

theorem releaseHolds_noneHeld (h : s.noneHeld) : (releaseHolds s).noneHeld := by
  intro x hx
  obtain ⟨y, hy, rfl⟩ := Option.map_eq_some_iff.1 (show s.ip.host.map _ = some x from hx)
  have wait := h y hy
  change y.wait.released _ _ ≠ _
  simp only [HostWait.released]
  split
  · split <;> exact nofun
  · split <;> exact nofun
  · exact absurd ‹_› wait
  all_goals exact nofun

theorem arbitrate_noneHeld (h : s.noneHeld) : (arbitrate s).noneHeld := by
  simp only [arbitrate]
  split
  · rename_i c _ _
    cases c <;> simp only [grant, grantPublish, grantHost, grantQueue, grantFetch, grantReport]
    case publish => exact h
    case passThrough =>
      split
      · exact h
      · exact fun x hx => by cases hx; exact nofun
    all_goals
      split
      · exact h
      · exact h
  · exact h

theorem finish_noneHeld (h : s.noneHeld) : (finish s).noneHeld := arbitrate_noneHeld (releaseHolds_noneHeld h)

theorem modeTaken_ctl (order : Fin 120) (before : Direction) (s : State) : (modeTaken order before s).ctl = s.ctl := by
  refine deliver_induct (fun x => x.ctl = s.ctl) _ (fun f hf x hx => ?_) s rfl
  have block := (permuted_perm order.val (modeDeliveries before)).mem_iff.1 hf
  simp only [modeDeliveries, List.mem_cons, List.not_mem_nil, or_false] at block
  rcases block with rfl | rfl | rfl | rfl | rfl <;> simp [hx]

theorem modeWrite_ctl (w : Word) (order : Fin 120) (s : State) : (modeWrite w order s).ctl = s.ctl := by
  simp only [modeWrite]
  split
  · rfl
  · exact (modeTaken_ctl ..).trans (by simp)

theorem effortWrite_ctl (r : EffortRole) (w : Word) (s : State) : (effortWrite r w s).ctl = s.ctl := by
  cases r <;> simp [effortWrite, reply]

theorem decodeTxn_ctl (t : HostTxn) (s : State) : (decodeTxn t s).ctl = s.ctl := by
  simp only [decodeTxn, pageWrite, windowWrite, intentWrite]
  (repeat' split) <;> simp [effortWrite_ctl, modeWrite_ctl, refuse, reply, occupy, raise]

end Sys2Proof.Machine
end

section
/-! PROOF of `Obligations.WakingEndsInItsState`: the end of WAKING by its stages: the blocks that act at every wake, and those
of a wake that serves or leads to SETUP (R182). -/

namespace Sys2Proof.Machine

variable (s : State)

/-- What acts at every end of WAKING, whatever state it leads to. -/
def wakeBegun : State := restartHold (slipWake (axleWake (withCtl Controller.woken s)))

/-- What acts by the state that WAKING ends in. -/
def wakeActs : State := if s.inForce = true then wakeServing s else wakeSetup s

theorem endWaking_eq : endWaking s = reportStart (wakeActs (wakeBegun s)) := rfl

/-- The timers of a served state have been started. -/
def wakeStarted : State := chainWake true (fetchStart (startRefresh s))

theorem wakeServing_eq :
    wakeServing s
      = if s.ctl.part = .fallback then rewords false (allocatorFallback (raise .fallback (wakeStarted s)))
        else run false false (wakeStarted s) := rfl

/-! ### The blocks of a served state -/

theorem wakeServing_chain : (wakeServing s).chain = (chainWake true s).chain := by
  rw [wakeServing_eq]
  split <;> simp [wakeStarted, chainWake, allocatorFallback, fetchStart, silenceStart_eq, State.timer, State.transmitLength,
    State.controlPeriod]

theorem wakeServing_fetchTimer :
    (wakeServing s).ip.fetchTimer = some (s.now + s.cfg.tun.slip.controlPeriod * 1000) := by
  rw [wakeServing_eq]
  split <;> simp [wakeStarted, allocatorFallback, fetchStart, State.timer, State.controlPeriod, ms]

theorem wakeServing_mode : (wakeServing s).intent.mode = (startRefresh s).intent.mode := by
  rw [wakeServing_eq]
  split <;> simp [wakeStarted, allocatorFallback, fetchStart]

theorem wakeServing_channels : (wakeServing s).intent.channels = (startRefresh s).intent.channels := by
  rw [wakeServing_eq]
  split <;> simp [wakeStarted, allocatorFallback, fetchStart]

theorem wakeServing_held_of_fallback (part : s.ctl.part = .fallback) (m : Motor) :
    (wakeServing s).intent.held.get m = 0 := by
  rw [wakeServing_eq, if_pos part, rewords_held, claimBoth_held, target_eq_zero, Nat.min_zero]
  exact .inr (.inr (.inl (by simpa [wakeStarted, allocatorFallback] using part)))

theorem wakeServing_flag_of_fallback (part : s.ctl.part = .fallback) : (wakeServing s).rep.flag .fallback = true := by
  rw [wakeServing_eq, if_pos part]
  exact rewords_rep_keeps (kept_flag .fallback) _ (by simp [raise, allocatorFallback])

theorem wakeServing_mode_follows (part : s.ctl.part = .fallback) :
    Follows s (wakeServing s) .mode (some (modeWord s.intent.accepted .fallback)) := by
  let fallen : State := allocatorFallback (raise .fallback (wakeStarted s))
  have tag : fallen.modeTag = .fallback := if_pos part
  have follows := ((Follows.refl s .mode).of_eq (u := fallen) rfl rfl rfl).rewords_mode false
  rw [tag] at follows
  rw [wakeServing_eq, if_pos part]
  exact follows

/-- Starting the refresh timers leaves a channel's intent and freshness. -/
theorem startRefresh_brake :
    (startRefresh s).intent.channels.brake.fresh = s.intent.channels.brake.fresh
      ∧ (startRefresh s).intent.channels.brake.intent = s.intent.channels.brake.intent := by
  have brake : (startRefresh s).intent.channels.brake = _ := startRefresh_channel s .brake
  rw [brake]
  exact ⟨rfl, rfl⟩

/-- The record after the run of a wake that serves. -/
theorem wakeServing_blend :
    let start : State :=
      { s with
        blend :=
          if s.ctl.part = .fallback then
            { s.blend with shortfall := ⟨false, false⟩, lag := ⟨none, none⟩, probe := ⟨none, none⟩, hill := .off }
          else s.blend }
    (wakeServing s).blend = start.runRecord false false := by
  intro start
  rw [wakeServing_eq]
  by_cases part : s.ctl.part = .fallback
  · rw [if_pos part, rewords_blend]
    refine RunAlike.runRecord ⟨?_, ?_, ?_, ?_, ?_, ?_, ?_, ?_, ?_, ?_⟩ false false
    case refine_9 => simp [start, part, allocatorFallback, Allocator.withoutShortfall, wakeStarted]
    case refine_4 => simp [start, wakeStarted, allocatorFallback, brakeIntent_eq, startRefresh_brake]
    all_goals simp [start, wakeStarted, allocatorFallback, fetchStart, startRefresh]
  · rw [if_neg part, run_blend]
    refine RunAlike.runRecord ⟨?_, ?_, ?_, ?_, ?_, ?_, ?_, ?_, ?_, ?_⟩ false false
    case refine_9 => simp [start, part, wakeStarted]
    case refine_4 => simp [start, wakeStarted, brakeIntent_eq, startRefresh_brake]
    all_goals simp [start, wakeStarted, fetchStart, startRefresh]

theorem wakeActs_ref_frame : (wakeActs s).ref = { s.ref with rollback := (wakeActs s).ref.rollback } := by
  simp only [wakeActs, wakeServing_eq, rewords]
  split
  · split
    · refine (run_ref_frame ..).trans ?_
      simp [wakeStarted, allocatorFallback]
    · refine (run_ref_frame ..).trans ?_
      simp [wakeStarted]
  · simp [wakeSetup]

theorem wakeActs_ev_frame : (wakeActs s).ev = { s.ev with running := (wakeActs s).ev.running } := by
  simp only [wakeActs, wakeServing_eq, rewords]
  split
  · split
    · refine (run_ev_frame ..).trans ?_
      simp [wakeStarted, allocatorFallback]
    · refine (run_ev_frame ..).trans ?_
      simp [wakeStarted]
  · simp [wakeSetup]

theorem wakeActs_parked : (wakeActs s).ip.host.map HostSlot.parked = s.ip.host.map HostSlot.parked := by
  simp only [wakeActs, wakeServing_eq]
  split
  · split
    · exact (rewords_parked ..).trans rfl
    · exact (run_parked ..).trans rfl
  · simp [wakeSetup]

/-- What the blocks of the state entered leave alone. -/
theorem wakeActs_frame :
    wakeActs s
      = { s with
          ip := (wakeActs s).ip, intent := (wakeActs s).intent, ref := (wakeActs s).ref, ev := (wakeActs s).ev
          ceil := (wakeActs s).ceil, blend := (wakeActs s).blend, sand := (wakeActs s).sand, chain := (wakeActs s).chain
          rep := (wakeActs s).rep } := by
  simp only [wakeActs, wakeServing_eq]
  split
  · split <;> refine State.ext ?_ ?_ ?_ ?_ ?_ rfl rfl ?_ rfl rfl rfl rfl rfl rfl rfl ?_ ?_ ?_ ?_ <;>
      simp [wakeStarted, allocatorFallback]
  · refine State.ext ?_ ?_ ?_ ?_ ?_ rfl rfl ?_ rfl rfl rfl rfl rfl rfl rfl ?_ ?_ ?_ ?_ <;> simp [wakeSetup]

theorem wakeActs_port :
    (wakeActs s).ip.port = s.ip.port ∧ (wakeActs s).ip.inflight = s.ip.inflight
      ∧ (wakeActs s).ip.fetch = s.ip.fetch := by
  simp only [wakeActs, wakeServing_eq]
  split
  · split <;> simp [wakeStarted, allocatorFallback, fetchStart]
  · simp [wakeSetup]

theorem wakeActs_ctl : (wakeActs s).ctl = s.ctl := by rw [wakeActs_frame]

theorem wakeActs_link : (wakeActs s).chain.link = .searching := by
  simp only [wakeActs]
  split
  · rw [wakeServing_chain]; rfl
  · rfl

theorem wakeActs_of_serving (h : s.inForce = true) : wakeActs s = wakeServing s := if_pos h

theorem wakeActs_of_setup (h : s.inForce = false) :
    wakeActs s = chainWake false (sandGoSetup (emptyNotices s)) := by
  rw [wakeActs, if_neg (by simp [h])]
  rfl

/-! ### Every end of WAKING -/

theorem wakeBegun_eq :
    wakeBegun s
      = { s with
          ctl := s.ctl.woken
          axle := (axleWake s).axle
          ref := { s.ref with hold := if s.ref.source = .held then some (s.now + 200000) else s.ref.hold }
          ev :=
            { s.ev with
              period := some (s.now + s.cfg.tun.slip.controlPeriod * 1000)
              length := s.cfg.tun.slip.controlPeriod * 1000
              timers := PerAxle.build fun i =>
                if (s.ev.slips.get i).state = .excursion then some (s.now + s.cfg.tun.slip.excursionTime * 1000)
                else none } } := rfl

/-- A channel in use at the end of WAKING (R63). -/
theorem axleWake_get {i : Axle} (used : (s.axle.channels.get i).state ≠ .disabled) :
    (axleWake s).axle.channels.get i = (s.axle.channels.get i).woken s.standstillTimer :=
  (PerAxle.get_build ..).trans (if_neg used)

theorem woken_part (c : Controller) :
    c.woken.part
      = if c.previous = some .active then
          (if c.movementMark = true ∨ c.fallbackPending = true then .fallback else .active)
        else .setup := by
  simp only [Controller.woken, Controller.wakeTo]
  cases c.previous with
  | none => rfl
  | some p => cases p <;> simp

theorem woken_eq (c : Controller) :
    c.woken
      = { c with
          part :=
            if c.previous = some .active then
              (if c.movementMark = true ∨ c.fallbackPending = true then .fallback else .active)
            else .setup
          settle := none, movementMark := false, fallbackPending := false
          causes :=
            { c.causes with
              memoryFault := c.causes.memoryFault || (decide (c.previous = some .active) && c.fallbackPending)
              rollaway := c.causes.rollaway || (decide (c.previous = some .active) && c.movementMark) } } := by
  rw [← woken_part]
  rfl

theorem wakeBegun_inForce : (wakeBegun s).inForce = decide (s.ctl.previous = some .active) := by
  have part : (wakeBegun s).ctl.part = _ := woken_part s.ctl
  simp only [State.inForce, part]
  (repeat' split) <;> simp_all

theorem reportStart_eq :
    reportStart s = { s with rw := (reportStart s).rw } := by
  simp only [reportStart, reportEnd, updateDue]

/-- The report timer starts, and an update is due (R190). -/
theorem reportStart_rw :
    (reportStart s).rw.timer = some (s.now + s.cfg.tun.link.reportInterval * (s.cfg.tun.slip.controlPeriod * 1000))
      ∧ (reportStart s).rw.update ≠ none := by
  simp only [reportStart, reportEnd, updateDue]
  split <;> simp_all [State.timer, State.reportLength, State.controlPeriod, ms]

/-- What an end of WAKING leaves alone. -/
theorem endWaking_frame :
    endWaking s
      = { s with
          ctl := (endWaking s).ctl, ip := (endWaking s).ip, intent := (endWaking s).intent, axle := (endWaking s).axle
          ref := (endWaking s).ref, ev := (endWaking s).ev, ceil := (endWaking s).ceil, blend := (endWaking s).blend
          sand := (endWaking s).sand, chain := (endWaking s).chain, rep := (endWaking s).rep, rw := (endWaking s).rw } := by
  rw [endWaking_eq, reportStart_eq, wakeActs_frame, wakeBegun_eq]

theorem endWaking_ctl : (endWaking s).ctl = s.ctl.woken := by rw [endWaking_eq, reportStart_ctl, wakeActs_ctl]; rfl

theorem endWaking_parked : (endWaking s).ip.host.map HostSlot.parked = s.ip.host.map HostSlot.parked := by
  rw [endWaking_eq, reportStart_ip, wakeActs_parked]
  rfl

theorem endWaking_served_part :
    (endWaking s).ctl.part = .setup ∨ (endWaking s).ctl.part = .active ∨ (endWaking s).ctl.part = .fallback := by
  rw [endWaking_ctl, woken_part]
  (repeat' split) <;> simp

/-- The record after the run of a wake that serves, read from the state in which WAKING ends (R138, R139). -/
theorem endWaking_blend (serving : s.ctl.previous = some .active) :
    let start : State :=
      { s with
        ctl := s.ctl.woken
        blend :=
          if s.ctl.woken.part = .fallback then
            { s.blend with shortfall := ⟨false, false⟩, lag := ⟨none, none⟩, probe := ⟨none, none⟩, hill := .off }
          else s.blend }
    (endWaking s).blend = start.runRecord false false := by
  intro start
  rw [endWaking_eq, reportStart_blend, wakeActs_of_serving _ (by simp [wakeBegun_inForce, serving]), wakeServing_blend,
    wakeBegun_eq]
  exact RunAlike.runRecord ⟨rfl, rfl, rfl, rfl, rfl, rfl, rfl, rfl, rfl, rfl⟩ false false

/-- The transaction held through WAKING is decoded in the state entered. -/
theorem settleEnd_of_held {h : HostSlot} (held : s.ip.host = some h) (wait : h.wait = .untilServed) :
    settleEnd s = decodeTxn h.txn { endWaking s with ip := { (endWaking s).ip with host := none } } := by
  obtain ⟨y, host, txn, wait⟩ := held_of_parked (endWaking_parked s) held wait
  rw [settleEnd, serveHeld_of_held host wait, txn]

theorem exec_settleTimerExpiry {s : State} {d : Nat} (h : s.ctl.settle = some d) :
    exec .settleTimerExpiry s = .next (finish (settleEnd { s with now := max s.now d })) := by
  change Host.Outcome.next (finish (onExpiry s.ctl.settle settleEnd s)) = _
  rw [h, onExpiry_some]

/-- Settles O54: the stages of the end of WAKING, and the held transaction decoded after them. -/
theorem wakingEndsInItsState : Obligations.WakingEndsInItsState := by
  refine ⟨fun d s settle part => ?_, fun d h s settle part host wait => ?_⟩
  · intro mark wasActive at' period
    let late : State := { s with now := at' }
    let begun : State := wakeBegun late
    have taken : exec .settleTimerExpiry s = .next (finish (settleEnd late)) := exec_settleTimerExpiry settle
    have ended : endWaking late = reportStart (wakeActs begun) := rfl
    have ctl : (endWaking late).ctl = s.ctl.woken := endWaking_ctl late
    have force : begun.inForce = decide wasActive := wakeBegun_inForce late
    have ref : (endWaking late).ref = (wakeActs begun).ref := by rw [ended, reportStart_ref]
    have ev : (endWaking late).ev = { begun.ev with running := (wakeActs begun).ev.running } := by
      rw [ended, reportStart_ev]
      exact wakeActs_ev_frame begun
    obtain ⟨port, inflight, fetch⟩ := wakeActs_port begun
    refine ⟨endWaking late, fun none => ?_, fun h held wait => ?_, ?_, ?_, ?_, ?_, ?_, ?_, ?_, ?_, ?_, fun i used => ?_, ?_,
      fun i => ?_, fun setup => ?_, fun serving => ?_, fun setup => ?_, fun fallback => ?_, ?_⟩
    · rw [taken, settleEnd, serveHeld_of_not_held (noneHeld_of_parked (endWaking_parked late) none)]
    · rw [taken, settleEnd_of_held late held wait]
    · rw [ended, reportStart_ip, port]; rfl
    · rw [ended, reportStart_ip, inflight]; rfl
    · rw [ended, reportStart_ip, fetch]; rfl
    · rw [endWaking_frame]
    · rw [ctl, woken_eq]
    · rw [ev]; rfl
    · rw [ended, reportStart_chain, wakeActs_link]
    · rw [ended, (reportStart_rw _).1, wakeActs_frame]
      rfl
    · rw [ended]
      exact (reportStart_rw _).2
    · have axle : (endWaking late).axle = (axleWake late).axle := by
        rw [ended, reportStart_axle, wakeActs_frame]
        rfl
      rw [axle, axleWake_get late used]
      exact ⟨rfl, rfl, rfl, rfl, rfl, rfl, rfl⟩
    · rw [ref, wakeActs_ref_frame]
      rfl
    · rw [ev]
      exact PerAxle.get_build ..
    · have acts := wakeActs_of_setup begun (by rw [force]; simpa using setup)
      rw [ref, ended, reportStart_chain, acts]
      exact ⟨rfl, rfl, rfl⟩
    · have acts := wakeActs_of_serving begun (by rw [force]; simpa using serving)
      have intent : (endWaking late).intent = (wakeServing begun).intent := by rw [ended, reportStart_intent, acts]
      have chain : (endWaking late).chain = (chainWake true begun).chain := by
        rw [ended, reportStart_chain, acts, wakeServing_chain]
      refine ⟨?_, ?_, ?_, fun fallback => ?_, ?_, ?_, fun r => ?_⟩
      · rw [chain]; rfl
      · rw [chain]; exact silenceStart_eq begun
      · intro start
        refine (endWaking_blend late serving).trans ?_
        simp only [start, ctl]
        rfl
      · have follows := wakeServing_mode_follows begun (by rw [ctl] at fallback; exact fallback)
        exact (follows.of_eq (u := endWaking late) (by rw [intent]) (by rw [intent])
          (by rw [ended, reportStart_ip, acts])).handed _ rfl
      · rw [ended, reportStart_ip, acts, wakeServing_fetchTimer]; rfl
      · rw [intent, wakeServing_mode, startRefresh_mode]; rfl
      · rw [intent, wakeServing_channels, startRefresh_channel]; rfl
    · have acts := wakeActs_of_setup begun (by rw [force]; simpa using setup)
      rw [ended, reportStart_ceil, reportStart_sand, reportStart_intent, reportStart_blend, acts]
      exact ⟨rfl, rfl, rfl, rfl⟩
    · have fell : begun.ctl.part = .fallback := by
        rw [ctl] at fallback
        exact fallback
      have acts := wakeActs_of_serving begun (by simp [State.inForce, fell])
      rw [ended, reportStart_intent, reportStart_rep, acts]
      exact ⟨wakeServing_held_of_fallback begun fell, wakeServing_flag_of_fallback begun fell⟩
    · rw [endWaking_frame]
  · rw [exec_settleTimerExpiry settle, settleEnd_of_held (s := { s with now := max s.now d }) host wait]
    refine ⟨_, rfl, finish_noneHeld (decodeTxn_noneHeld _ _), ?_⟩
    rw [finish_ctl, decodeTxn_ctl]
    exact endWaking_served_part _

end Sys2Proof.Machine
end

section
/-! PROOF support. The ceiling unit's pass read apart from its reports, the target of a claim under a K, and the sanding
controller at a completion (R10, R105, R146). -/

namespace Sys2Proof.Machine

variable {s : State}

/-! ### The pass apart from its reports (R105) -/

/-- What a pass leaves in the ceiling unit. -/
def Pass.unit (p : Pass) : CeilingUnit := { records := p.records, queue := p.queue, outgoing := p.outgoing }

/-- Two passes that differ in their reports alone. -/
def Pass.Alike (p q : Pass) : Prop := p.unit = q.unit

theorem Pass.alike_iff {p q : Pass} :
    p.Alike q ↔ p.records = q.records ∧ p.queue = q.queue ∧ p.outgoing = q.outgoing := by
  simp [Pass.Alike, Pass.unit]

theorem Pass.Alike.place {p q : Pass} (h : p.Alike q) (d : Nat) (o : Odo) (n : Notice) :
    (p.place d o n).Alike (q.place d o n) := by
  obtain ⟨records, queue, outgoing⟩ := Pass.alike_iff.1 h
  exact Pass.alike_iff.2 ⟨records, by simp only [Pass.place, queue], outgoing⟩

theorem Pass.Alike.chainNotice {p q : Pass} (h : p.Alike q) (t : CeilingTuning) (o : Odo) (n : Notice) :
    (p.chainNotice t o n).Alike (q.chainNotice t o n) := by
  obtain ⟨records, queue, outgoing⟩ := Pass.alike_iff.1 h
  simp only [Pass.chainNotice]
  split
  · exact Pass.alike_iff.2 ⟨by simp only [records], queue, outgoing⟩
  · exact h.place ..

theorem Pass.Alike.placeAll {p q : Pass} (h : p.Alike q) (d : Nat) (o : Odo) (make : Bogie → Notice) (l : List Bogie) :
    (l.foldl (fun p y => p.place d o (make y)) p).Alike (l.foldl (fun p y => p.place d o (make y)) q) := by
  induction l generalizing p q with
  | nil => exact h
  | cons y rest ih => exact ih (h.place ..)

theorem Pass.Alike.chainNotices {p q : Pass} (h : p.Alike q) (t : CeilingTuning) (o : Odo) (make : Bogie → Notice)
    (l : List Bogie) :
    (l.foldl (fun p y => p.chainNotice t o (make y)) p).Alike (l.foldl (fun p y => p.chainNotice t o (make y)) q) := by
  induction l generalizing p q with
  | nil => exact h
  | cons y rest ih => exact ih (h.chainNotice ..)

theorem Pass.Alike.step4 {p q : Pass} (h : p.Alike q) (s : State) (e : Evaluation) (k : PerBogie CeilingRecord) :
    (s.step4 e k p).Alike (s.step4 e k q) := by
  unfold State.step4
  cases leadingMotor s.intent.accepted.direction with
  | none => exact h
  | some m =>
    change Pass.Alike (match (e.bogies.get m.bogie).onset with | none => p | some kind => _)
      (match (e.bogies.get m.bogie).onset with | none => q | some kind => _)
    cases (e.bogies.get m.bogie).onset with
    | none => exact h
    | some kind =>
      exact h.placeAll _ _ (fun y => s.newNotice m e.ref.odometer 0 (k.get m.bogie).k y) _

theorem Pass.Alike.step5 {p q : Pass} (h : p.Alike q) (s : State) (e : Evaluation) :
    (s.step5 e p).Alike (s.step5 e q) := by
  unfold State.step5
  cases e.frame.bind Frame.notice with
  | none => exact h
  | some notice =>
    cases leadingMotor s.intent.accepted.direction with
    | none => exact h
    | some m =>
      by_cases ahead : s.chainAhead s.intent.accepted.direction = true
      · simp only [ahead, if_true]
        exact h.chainNotices _ _
          (fun y => s.newNotice m e.ref.odometer s.cfg.str.chainOffset (min 1000 (notice.2 * 4)) y) _
      · simp only [ahead]
        exact h

theorem Pass.Alike.offerOutgoing {p q : Pass} (h : p.Alike q) (m : Motor) (onset : Option Kind) :
    (p.offerOutgoing m onset).Alike (q.offerOutgoing m onset) := by
  obtain ⟨records, queue, outgoing⟩ := Pass.alike_iff.1 h
  simp only [Pass.offerOutgoing, records, outgoing]
  (repeat' split)
  · exact h
  · exact Pass.alike_iff.2 ⟨rfl, queue, rfl⟩
  · exact Pass.alike_iff.2 ⟨rfl, queue, rfl⟩
  · exact h

/-- A pass reads the ceiling unit, the configuration, the part state, the accepted direction and the sand trail. -/
theorem passResult_alike {t : State} (e : Evaluation) (ceil : s.ceil = t.ceil) (cfg : s.cfg = t.cfg)
    (part : s.ctl.part = t.ctl.part) (accepted : s.intent.accepted = t.intent.accepted)
    (trail : s.sand.trail = t.sand.trail) : (s.passResult e).unit = (t.passResult e).unit := by
  have ratio (regime : Regime) (y : Bogie) : s.ratio regime y = t.ratio regime y := by
    cases y <;> simp only [State.ratio, State.nominal, State.brakeNominal, ceil, cfg, part]
  have first : s.ceilStep1 e = t.ceilStep1 e := by simp only [State.ceilStep1, ratio, ceil, cfg]
  have raise : s.raiseStep = t.raiseStep := by simp only [State.raiseStep, cfg, trail]
  have notice : s.newNotice = t.newNotice := by
    funext leading odometer offset severity y
    cases leading <;> cases y <;> simp only [State.newNotice, State.spacing, cfg]
  have ahead : s.chainAhead = t.chainAhead := by
    funext d
    simp only [State.chainAhead, cfg]
  have fourth (k : PerBogie CeilingRecord) (p : Pass) : s.step4 e k p = t.step4 e k p := by
    unfold State.step4
    rw [notice, cfg, accepted]
  have fifth (p : Pass) : s.step5 e p = t.step5 e p := by
    unfold State.step5
    rw [notice, ahead, cfg, accepted]
  simp only [State.passResult, first, raise, fourth, fifth, ceil, cfg]
  refine Pass.Alike.offerOutgoing (Pass.Alike.offerOutgoing (Pass.Alike.step5 (Pass.Alike.step4 ?_ ..) ..) ..) ..
  exact Pass.alike_iff.2 ⟨rfl, rfl, rfl⟩

theorem passed_ceil (e : Evaluation) (s : State) : (passed e s).ceil = (s.passResult e).unit := rfl

/-! ### The target under a K (R10) -/

/-- The target of a motor bogie as if its K were `k`. -/
def State.targetUnder (s : State) (m : Motor) (k : Nat) : Nat :=
  if s.intent.accepted.regime = .traction ∧ s.intent.accepted.direction ≠ .neutral ∧ s.ctl.part ≠ .fallback
      ∧ s.cfg.str.driveIsolated.get m = false then
    min (s.intent.value m.role) (k * s.cfg.str.nominal.get m / 1000) * (s.ev.bogies.get m.bogie).c / 1000
  else 0

theorem target_eq_under (s : State) (m : Motor) : s.target m = s.targetUnder m (s.ceil.records.get m.bogie).k := rfl

theorem targetUnder_mono (s : State) (m : Motor) {k l : Nat} (h : k ≤ l) : s.targetUnder m k ≤ s.targetUnder m l := by
  simp only [State.targetUnder]
  split
  · exact Nat.div_le_div_right (Nat.mul_le_mul_right _
      (min_le_min_left _ (Nat.div_le_div_right (Nat.mul_le_mul_right _ h))))
  · exact le_rfl

theorem targetUnder_congr {t : State} {m : Motor} (part : t.ctl.part = s.ctl.part) (cfg : t.cfg = s.cfg)
    (channels : t.intent.channels = s.intent.channels) (accepted : t.intent.accepted = s.intent.accepted)
    (bogies : t.ev.bogies = s.ev.bogies) (k : Nat) : t.targetUnder m k = s.targetUnder m k := by
  simp only [State.targetUnder, IntentTable.value, part, cfg, channels, accepted, bogies]

/-! ### What claims and a pass do to the held traction (R11, R12, R105) -/

/-- The held tractions after an evaluation claim on both motor bogies. -/
theorem evaluationClaims_held (s : State) (m : Motor) :
    (claimBoth true s).intent.held.get m = min (s.target m) (s.intent.held.get m + s.cfg.tun.intent.riseStep) := by
  simp only [claimBoth, claim_held, State.claimed, claim_target]
  cases m <;> simp

theorem claimIf_held (lower : Bool) (m m' : Motor) (s : State) :
    (claimIf lower m s).intent.held.get m'
      = if lower = true ∧ m' = m then min (s.intent.held.get m') (s.target m') else s.intent.held.get m' := by
  cases lower with
  | false => simp [claimIf]
  | true =>
    by_cases same : m' = m
    · subst same
      simp [claimIf, State.claimed]
    · simp [claimIf, same]

theorem claimIf_target (lower : Bool) (m m' : Motor) (s : State) : (claimIf lower m s).target m' = s.target m' := by
  cases lower
  · rfl
  · exact claim_target ..

/-- A pass claims on a motor bogie where its K is now lower. -/
theorem ceilingPass_held (e : Evaluation) (s : State) (m : Motor) :
    (ceilingPass e s).intent.held.get m
      = if lowersK e s m = true then min (s.intent.held.get m) ((passed e s).target m) else s.intent.held.get m := by
  have held : (passed e s).intent = s.intent := rfl
  rw [ceilingPass_eq, claimIf_held, claimIf_held, claimIf_target, held]
  cases m <;> simp

theorem ceilingPass_ceil (e : Evaluation) (s : State) : (ceilingPass e s).ceil = (s.passResult e).unit := by
  have claimed (lower : Bool) (m : Motor) (t : State) : (claimIf lower m t).ceil = t.ceil := by
    cases lower <;> simp [claimIf]
  rw [ceilingPass_eq, claimed, claimed, passed_ceil]

/-! ### The sanding controller at a completion (R145, R146) -/

theorem SandAlike.sanderState {t : State} (h : SandAlike s t) (i : SanderId) : s.sanderState i = t.sanderState i := by
  simp only [State.sanderState, h.cfg, h.sand]

theorem SandAlike.leads {t : State} (h : SandAlike s t) (i : SanderId) : s.leads i = t.leads i := by
  simp only [State.leads, h.cfg, h.mode]

theorem SandAlike.poorRail {t : State} (h : SandAlike s t) (held : s.intent.held = t.intent.held) :
    s.poorRail = t.poorRail := by
  have share : s.tractionShare = t.tractionShare := by
    funext m
    simp only [State.tractionShare, held, h.cfg]
  unfold State.poorRail
  rw [share, h.mode]

theorem SandAlike.standing {t : State} (h : SandAlike s t) (held : s.intent.held = t.intent.held)
    (force : s.inForce = t.inForce) : s.standing = t.standing := by
  simp only [State.standing, h.poorRail held, force, h.mode, h.sand]

theorem SandAlike.windowEnds {t : State} (h : SandAlike s t) (odometer : Odo) :
    s.windowEnds odometer = t.windowEnds odometer := by
  funext i
  simp only [State.windowEnds, h.cfg, h.sand]

theorem SandAlike.sandSeen {t : State} (h : SandAlike s t) (held : s.intent.held = t.intent.held) (e : Evaluation) :
    SandAlike (sandSeen e s) (sandSeen e t) where
  now := h.now
  cfg := h.cfg
  mode := h.mode
  sand := by simp only [Machine.sandSeen, h.poorRail held, h.windowEnds, h.cfg, h.sand]

theorem SandAlike.completionParts {t : State} (h : SandAlike s t) (held : s.intent.held = t.intent.held)
    (force : s.inForce = t.inForce) (e : Evaluation) (crossing onset : Bool) (reload : SanderId → Bool) :
    s.completionParts e crossing onset reload = t.completionParts e crossing onset reload := by
  funext i
  simp only [State.completionParts, h.sanderState, h.standing held force, h.cfg]

theorem SandAlike.trailTest {t : State} (h : SandAlike s t) (odometer : Odo) :
    (trailTest odometer s).sand = (trailTest odometer t).sand := by
  have pulsing : s.leadingPulsing = t.leadingPulsing := by simp only [State.leadingPulsing, h.leads, h.sanderState]
  simp only [Machine.trailTest, pulsing, h.sand]

/-- The sanding controller handles a completion by its own records, the configuration, the accepted MODE, the held
tractions and whether the part serves. -/
theorem sandCompletion_alike {t : State} (h : SandAlike s t) (held : s.intent.held = t.intent.held)
    (force : s.inForce = t.inForce) (e : Evaluation) : (sandCompletion e s).sand = (sandCompletion e t).sand := by
  have seen := h.sandSeen held e
  simp only [sandCompletion]
  rw [h.poorRail held, h.windowEnds, h.sand, seen.completionParts held force]
  exact (offerEach_alike seen _).1.trailTest _

theorem sandCompletion_seen (e : Evaluation) (s : State) :
    (sandCompletion e s).sand.seenMagnitude = e.ref.magnitude
      ∧ (sandCompletion e s).sand.seenOdometer = e.ref.odometer
      ∧ (sandCompletion e s).sand.supplyGood = s.sand.supplyGood := ⟨rfl, rfl, rfl⟩

theorem sandRelease_seen (s : State) :
    (sandRelease s).sand.seenMagnitude = s.sand.seenMagnitude
      ∧ (sandRelease s).sand.seenOdometer = s.sand.seenOdometer
      ∧ (sandRelease s).sand.supplyGood = s.sand.supplyGood := ⟨rfl, rfl, rfl⟩

end Sys2Proof.Machine
end

section
/-! PROOF of `Obligations.CompletionsPublishAndDeliver`: the deliveries of a completion by their blocks, each made once,
in any order (R99). -/

namespace Sys2Proof.Machine

/-! ### The four deliveries by name -/

/-- The blocks to which a completion is delivered (R99). -/
inductive CompletionBlock where
  | claims | ceiling | run | sand

/-- What a block does at a completion. -/
def CompletionBlock.act (e : Evaluation) : CompletionBlock → State → State
  | .claims => claimBoth true
  | .ceiling => ceilingPass e
  | .run => evaluationRun e
  | .sand => sandCompletion e

/-- The blocks in the order of the text. -/
def completionBlocks : List CompletionBlock := [.claims, .ceiling, .run, .sand]

/-- Blocks that act one after the other. -/
def acts (e : Evaluation) (l : List CompletionBlock) (s : State) : State := l.foldl (fun x b => b.act e x) s

theorem permuted_map {α β : Type} (f : α → β) (n : Nat) (l : List α) :
    permuted n (l.map f) = (permuted n l).map f := by
  induction l generalizing n with
  | nil => rfl
  | cons x xs ih => simp only [List.map_cons, permuted, List.length_map, ih, List.map_insertIdx]

theorem deliver_eq_acts (e : Evaluation) (l : List CompletionBlock) (s : State) :
    deliver (l.map (CompletionBlock.act e)) s = acts e l s := by
  simp only [deliver, acts, List.foldl_map]

theorem completionDeliveries_eq (order : Nat) (e : Evaluation) (s : State) :
    deliver (permuted order (completionDeliveries e)) s = acts e (permuted order completionBlocks) s := by
  rw [← deliver_eq_acts, ← permuted_map]
  rfl

theorem completionBlocks_nodup : completionBlocks.Nodup := by simp [completionBlocks]

theorem mem_completionBlocks (b : CompletionBlock) : b ∈ completionBlocks := by cases b <;> simp [completionBlocks]

/-- A block's place in an order of the four. -/
theorem completion_split {l : List CompletionBlock} (h : l.Perm completionBlocks) (b : CompletionBlock) :
    ∃ as bs, l = as ++ b :: bs ∧ (as ++ bs).Nodup ∧ b ∉ as ∧ b ∉ bs ∧ ∀ c, c ≠ b → c ∈ as ∨ c ∈ bs := by
  obtain ⟨as, bs, rfl⟩ := List.append_of_mem (h.mem_iff.2 (mem_completionBlocks b))
  have distinct := List.nodup_middle.1 (h.nodup_iff.2 completionBlocks_nodup)
  obtain ⟨new, rest⟩ := List.nodup_cons.1 distinct
  obtain ⟨before, after⟩ := not_or.1 (List.mem_append.not.1 new)
  refine ⟨as, bs, rfl, rest, before, after, fun c other => ?_⟩
  have here := h.mem_iff.2 (mem_completionBlocks c)
  simpa [other] using here

theorem acts_append (e : Evaluation) (as bs : List CompletionBlock) (s : State) :
    acts e (as ++ bs) s = acts e bs (acts e as s) := List.foldl_append ..

theorem acts_cons (e : Evaluation) (b : CompletionBlock) (bs : List CompletionBlock) (s : State) :
    acts e (b :: bs) s = acts e bs (b.act e s) := rfl

/-- What each of some blocks keeps, all of them keep. -/
theorem acts_keep {α : Type} {f : State → α} {e : Evaluation} {l : List CompletionBlock}
    (keeps : ∀ b ∈ l, ∀ x, f (b.act e x) = f x) (s : State) : f (acts e l s) = f s := by
  induction l generalizing s with
  | nil => rfl
  | cons b rest ih =>
    exact (ih (fun c hc => keeps c (List.mem_cons_of_mem _ hc)) _).trans (keeps b (List.mem_cons_self ..) s)

/-! ### What each block leaves alone -/

variable {s : State} {e : Evaluation}

theorem act_ceil {b : CompletionBlock} (other : b ≠ .ceiling) (x : State) : (b.act e x).ceil = x.ceil := by
  cases b with
  | ceiling => exact absurd rfl other
  | claims | run | sand => simp [CompletionBlock.act, evaluationRun]

theorem act_blend {b : CompletionBlock} (other : b ≠ .run) (x : State) : (b.act e x).blend = x.blend := by
  cases b with
  | run => exact absurd rfl other
  | claims | ceiling | sand => simp [CompletionBlock.act]

theorem act_held {b : CompletionBlock} (claims : b ≠ .claims) (ceiling : b ≠ .ceiling) (x : State) :
    (b.act e x).intent.held = x.intent.held := by
  cases b with
  | claims => exact absurd rfl claims
  | ceiling => exact absurd rfl ceiling
  | run | sand => simp [CompletionBlock.act, evaluationRun]

theorem evaluationRun_sand {x : State} (hill : x.blend.hill ≠ .holding) : (evaluationRun e x).sand = x.sand :=
  (run_sand ..).trans (if_neg fun both => hill both.1)

theorem evaluationRun_blend (x : State) :
    (evaluationRun e x).blend
      = State.runRecord
          { x with
            blend :=
              { x.blend with
                seenMagnitude := e.ref.magnitude, seenSense := e.ref.sense, seenRollback := e.ref.rollback } }
          true false := run_blend ..

theorem act_sand {b : CompletionBlock} (other : b ≠ .sand) {x : State} (hill : b = .run → x.blend.hill ≠ .holding) :
    (b.act e x).sand = x.sand := by
  cases b with
  | sand => exact absurd rfl other
  | claims | ceiling => simp [CompletionBlock.act]
  | run => exact evaluationRun_sand (hill rfl)

/-- Where the hill start is not HOLDING, the sanding controller's records stand up to its own delivery. -/
theorem acts_sand {l : List CompletionBlock} (distinct : l.Nodup) (other : CompletionBlock.sand ∉ l) {x : State}
    (hill : CompletionBlock.run ∈ l → x.blend.hill ≠ .holding) : (acts e l x).sand = x.sand := by
  induction l generalizing x with
  | nil => rfl
  | cons b rest ih =>
    obtain ⟨new, restDistinct⟩ := List.nodup_cons.1 distinct
    obtain ⟨own, later⟩ := not_or.1 (List.mem_cons.not.1 other)
    rw [acts_cons, ih restDistinct later, act_sand (Ne.symm own)]
    · rintro rfl
      exact hill (List.mem_cons_self ..)
    · intro run
      rw [act_blend (by rintro rfl; exact new run)]
      exact hill (List.mem_cons_of_mem _ run)

/-- The sanding controller's seen values after its own delivery stand. -/
theorem act_seen {b : CompletionBlock} (other : b ≠ .sand) (x : State) :
    ((b.act e x).sand.seenMagnitude, (b.act e x).sand.seenOdometer) = (x.sand.seenMagnitude, x.sand.seenOdometer) := by
  cases b with
  | sand => exact absurd rfl other
  | claims | ceiling => simp [CompletionBlock.act]
  | run =>
    simp only [CompletionBlock.act, evaluationRun, run_sand]
    split
    · obtain ⟨magnitude, odometer, -⟩ := sandRelease_seen (evaluationRun e x)
      rfl
    · rfl

/-! ### What stands through the deliveries -/

/-- A state between the publication of `e` and the end of its deliveries. -/
structure Delivering (s : State) (e : Evaluation) (x : State) : Prop where
  ev : x.ev = { s.ev with slips := e.slips, bogies := e.bogies, running := none }
  intent : x.intent = { s.intent with held := x.intent.held, handed := x.intent.handed }
  supply : x.sand.supplyGood = s.sand.supplyGood
  port : x.ip.port = s.ip.port
  inflight : x.ip.inflight = s.ip.inflight
  frame : x = { s with
    ev := x.ev, intent := x.intent, ip := x.ip, ref := x.ref, ceil := x.ceil, blend := x.blend, sand := x.sand
    rep := x.rep }

theorem Delivering.publish : Delivering s e (publishRecords e s) := ⟨rfl, rfl, rfl, rfl, rfl, rfl⟩

theorem Delivering.cfg {x : State} (h : Delivering s e x) : x.cfg = s.cfg := by rw [h.frame]

theorem Delivering.ctl {x : State} (h : Delivering s e x) : x.ctl = s.ctl := by rw [h.frame]

theorem Delivering.now {x : State} (h : Delivering s e x) : x.now = s.now := by rw [h.frame]

theorem Delivering.accepted {x : State} (h : Delivering s e x) : x.intent.accepted = s.intent.accepted := by rw [h.intent]

theorem Delivering.channels {x : State} (h : Delivering s e x) : x.intent.channels = s.intent.channels := by rw [h.intent]

theorem run_ev_of_idle {x : State} (idle : x.ev.running = none) (evaluation returning : Bool) :
    (run evaluation returning x).ev = x.ev := by
  have running := run_ev_running evaluation returning x
  rw [idle] at running
  rw [run_ev_frame, Option.map_eq_none_iff.1 running, ← idle]

theorem evaluationRun_ev {x : State} (idle : x.ev.running = none) : (evaluationRun e x).ev = x.ev :=
  run_ev_of_idle
    (x :=
      { x with
        blend :=
          { x.blend with
            seenMagnitude := e.ref.magnitude, seenSense := e.ref.sense, seenRollback := e.ref.rollback } }) idle true false

/-- The deliveries change no more of a state than its frame names. -/
theorem Delivering.act {x : State} (h : Delivering s e x) (b : CompletionBlock) : Delivering s e (b.act e x) := by
  have idle : x.ev.running = none := by rw [h.ev]
  have ev : (b.act e x).ev = x.ev := by
    cases b with
    | run => exact evaluationRun_ev idle
    | claims | ceiling | sand => simp [CompletionBlock.act]
  have intent : (b.act e x).intent
      = { x.intent with held := (b.act e x).intent.held, handed := (b.act e x).intent.handed } := by
    cases b <;> refine IntentTable.ext ?_ ?_ ?_ ?_ rfl rfl ?_ <;> simp [CompletionBlock.act, evaluationRun]
  have supply : (b.act e x).sand.supplyGood = x.sand.supplyGood := by
    cases b with
    | claims | ceiling => simp [CompletionBlock.act]
    | sand => rfl
    | run =>
      simp only [CompletionBlock.act, evaluationRun, run_sand]
      split <;> rfl
  have frame : b.act e x = { x with
      ev := (b.act e x).ev, intent := (b.act e x).intent, ip := (b.act e x).ip, ref := (b.act e x).ref
      ceil := (b.act e x).ceil, blend := (b.act e x).blend, sand := (b.act e x).sand, rep := (b.act e x).rep } := by
    cases b <;> refine State.ext ?_ ?_ ?_ ?_ ?_ rfl rfl ?_ rfl rfl rfl rfl rfl ?_ rfl ?_ ?_ ?_ ?_ <;>
      simp [CompletionBlock.act, evaluationRun]
  refine ⟨ev.trans h.ev, ?_, supply.trans h.supply, ?_, ?_, ?_⟩
  · rw [intent, h.intent]
  · rw [← h.port]
    cases b <;> simp [CompletionBlock.act, evaluationRun]
  · rw [← h.inflight]
    cases b <;> simp [CompletionBlock.act, evaluationRun]
  · rw [frame, h.frame]

theorem Delivering.acts {x : State} (h : Delivering s e x) (l : List CompletionBlock) : Delivering s e (acts e l x) := by
  induction l generalizing x with
  | nil => exact h
  | cons b rest ih => exact ih (h.act b)

/-- A target under a K, read at any time of the deliveries. -/
theorem Delivering.targetUnder {x : State} (h : Delivering s e x) (m : Motor) (k : Nat) :
    x.targetUnder m k = (publishRecords e s).targetUnder m k :=
  targetUnder_congr (by rw [h.ctl]; rfl) (by rw [h.cfg]; rfl) (by rw [h.channels]; rfl) (by rw [h.accepted]; rfl)
    (by rw [h.ev]; rfl) k

/-! ### The ceiling unit, the allocator and the sanding controller -/

variable {l : List CompletionBlock}

/-- The unit's pass reads the sand trail as it stands then. -/
theorem acts_ceil (h : l.Perm completionBlocks) :
    ∃ trail, (acts e l (publishRecords e s)).ceil
      = (State.passResult { publishRecords e s with sand := { s.sand with trail := trail } } e).unit := by
  obtain ⟨as, bs, rfl, -, before, after, -⟩ := completion_split h .ceiling
  let y : State := acts e as (publishRecords e s)
  have during : Delivering s e y := Delivering.publish.acts as
  have ceil : y.ceil = s.ceil :=
    acts_keep (f := State.ceil) (fun b hb => act_ceil fun same => before (same ▸ hb)) _
  refine ⟨y.sand.trail, ?_⟩
  rw [acts_append, acts_cons, acts_keep (f := State.ceil) fun b hb => act_ceil fun same => after (same ▸ hb)]
  refine (ceilingPass_ceil e y).trans (passResult_alike e ceil ?_ ?_ ?_ rfl)
  · exact during.cfg
  · rw [during.ctl]; rfl
  · exact during.accepted

/-- The evaluation run reads the ceilings as they stand before the pass or after it. -/
theorem acts_blend (h : l.Perm completionBlocks) :
    let seen : Allocator :=
      { s.blend with seenMagnitude := e.ref.magnitude, seenSense := e.ref.sense, seenRollback := e.ref.rollback }
    let record (c : CeilingUnit) := State.runRecord { publishRecords e s with ceil := c, blend := seen } true false
    let u := acts e l (publishRecords e s)
    u.blend = record s.ceil ∨ u.blend = record u.ceil := by
  intro seen record
  obtain ⟨as, bs, rfl, distinct, before, after, others⟩ := completion_split h .run
  let y : State := acts e as (publishRecords e s)
  have during : Delivering s e y := Delivering.publish.acts as
  have blend : y.blend = s.blend :=
    acts_keep (f := State.blend) (fun b hb => act_blend fun same => before (same ▸ hb)) _
  have ran : (acts e (as ++ .run :: bs) (publishRecords e s)).blend = record y.ceil := by
    rw [acts_append, acts_cons, acts_keep (f := State.blend) fun b hb => act_blend fun same => after (same ▸ hb)]
    refine (evaluationRun_blend y).trans (RunAlike.runRecord ?_ true false)
    exact
      { now := during.now
        part := congrArg Controller.part during.ctl
        cfg := during.cfg
        brake := by simp only [brakeIntent_eq, during.channels]; rfl
        mode := congrArg (·.mode.fresh) during.intent
        accepted := during.accepted
        bogies := congrArg Evaluator.bogies during.ev
        records := rfl
        blend := by simp only [blend, seen]
        supply := during.supply }
  by_cases late : CompletionBlock.ceiling ∈ bs
  · have early : CompletionBlock.ceiling ∉ as := fun here => (List.nodup_append.1 distinct).2.2 _ here _ late rfl
    left
    rw [ran, show y.ceil = s.ceil from acts_keep (f := State.ceil) (fun b hb => act_ceil fun same => early (same ▸ hb)) _]
  · right
    rw [ran, acts_append, acts_cons, acts_keep (f := State.ceil) fun b hb => act_ceil fun same => late (same ▸ hb),
      act_ceil (by exact nofun)]

/-- With the hill start not HOLDING, the sanding controller's records are those of its own delivery. -/
theorem acts_sanding (h : l.Perm completionBlocks) (hill : s.blend.hill ≠ .holding) :
    ∃ held, (acts e l (publishRecords e s)).sand
      = (sandCompletion e { publishRecords e s with intent := { s.intent with held := held } }).sand := by
  obtain ⟨as, bs, rfl, distinct, before, after, others⟩ := completion_split h .sand
  let y : State := acts e as (publishRecords e s)
  have during : Delivering s e y := Delivering.publish.acts as
  obtain ⟨distinctAs, distinctBs, apart⟩ := List.nodup_append.1 distinct
  have sand : y.sand = s.sand := acts_sand distinctAs before fun _ => hill
  refine ⟨y.intent.held, ?_⟩
  rw [acts_append, acts_cons, acts_sand distinctBs after]
  · refine sandCompletion_alike (s := y)
      (t := { publishRecords e s with intent := { s.intent with held := y.intent.held } }) ?_ rfl ?_ e
    · exact ⟨during.now, during.cfg, during.accepted, sand⟩
    · simp only [State.inForce, during.ctl]
      rfl
  · intro late
    have early : CompletionBlock.run ∉ as := fun here => apart _ here _ late rfl
    have blend : y.blend = s.blend :=
      acts_keep (f := State.blend) (fun b hb => act_blend fun same => early (same ▸ hb)) _
    rw [act_blend (by exact nofun)]
    rw [show (acts e as (publishRecords e s)).blend = s.blend from blend]
    exact hill

theorem acts_seen (h : l.Perm completionBlocks) :
    (acts e l (publishRecords e s)).sand.seenMagnitude = e.ref.magnitude
      ∧ (acts e l (publishRecords e s)).sand.seenOdometer = e.ref.odometer := by
  obtain ⟨as, bs, rfl, -, -, after, -⟩ := completion_split h .sand
  rw [acts_append, acts_cons]
  have kept := acts_keep (f := fun x => (x.sand.seenMagnitude, x.sand.seenOdometer)) (e := e) (l := bs)
    (fun b hb => act_seen fun same => after (same ▸ hb)) (CompletionBlock.act e .sand (acts e as (publishRecords e s)))
  exact Prod.mk.injEq .. ▸ kept

/-! ### The held tractions (R11, R12) -/

/-- What the pass makes of a held traction, by the K before and after it. -/
def heldByPass (s : State) (e : Evaluation) (m : Motor) (before after held : Nat) : Nat :=
  if after < before then min held ((publishRecords e s).targetUnder m after) else held

/-- Deliveries without the claims: the pass alone moves the held traction. -/
theorem acts_held_of_pass (distinct : l.Nodup) (claims : CompletionBlock.claims ∉ l) {x : State} (h : Delivering s e x)
    (m : Motor) :
    (acts e l x).intent.held.get m
      = heldByPass s e m (x.ceil.records.get m.bogie).k ((acts e l x).ceil.records.get m.bogie).k
          (x.intent.held.get m) := by
  have keepHeld {l : List CompletionBlock} (claims : CompletionBlock.claims ∉ l) (pass : CompletionBlock.ceiling ∉ l)
      (y : State) : (acts e l y).intent.held = y.intent.held :=
    acts_keep (f := fun y => y.intent.held)
      (fun b hb => act_held (fun same => claims (same ▸ hb)) fun same => pass (same ▸ hb)) y
  have keepCeil {l : List CompletionBlock} (pass : CompletionBlock.ceiling ∉ l) (y : State) :
      (acts e l y).ceil = y.ceil := acts_keep (f := State.ceil) (fun b hb => act_ceil fun same => pass (same ▸ hb)) y
  by_cases pass : CompletionBlock.ceiling ∈ l
  · obtain ⟨as, bs, rfl⟩ := List.append_of_mem pass
    obtain ⟨new, -⟩ := List.nodup_cons.1 (List.nodup_middle.1 distinct)
    obtain ⟨before, after⟩ := not_or.1 (List.mem_append.not.1 new)
    obtain ⟨claimsAs, claimsBs⟩ : CompletionBlock.claims ∉ as ∧ CompletionBlock.claims ∉ bs := by
      simpa using claims
    let y : State := acts e as x
    have during : Delivering s e y := h.acts as
    have lowered : (passed e y).target m
        = (publishRecords e s).targetUnder m ((y.passResult e).records.get m.bogie).k := during.targetUnder m _
    rw [acts_append, acts_cons, keepHeld claimsBs after, keepCeil after]
    refine (ceilingPass_held e y m).trans ?_
    rw [show (CompletionBlock.act e .ceiling (acts e as x)).ceil = _ from ceilingPass_ceil e y, lowered,
      show y.intent.held = x.intent.held from keepHeld claimsAs before x, ← keepCeil before x]
    simp only [heldByPass, lowersK, decide_eq_true_eq]
    rfl
  · rw [keepHeld claims pass, keepCeil pass, heldByPass, if_neg (lt_irrefl _)]

/-- Each held traction ends as an evaluation claim makes it, under the K before the pass or after it, and under the lowered
one where the pass lowers it. -/
theorem acts_held (h : l.Perm completionBlocks) (m : Motor) :
    let u := acts e l (publishRecords e s)
    ∃ k, (k = (s.ceil.records.get m.bogie).k ∨ k = (u.ceil.records.get m.bogie).k)
      ∧ ((u.ceil.records.get m.bogie).k < (s.ceil.records.get m.bogie).k → k = (u.ceil.records.get m.bogie).k)
      ∧ u.intent.held.get m
          = min ((publishRecords e s).targetUnder m k) (s.intent.held.get m + s.cfg.tun.intent.riseStep) := by
  intro u
  obtain ⟨as, bs, rfl, distinct, before, after, others⟩ := completion_split h .claims
  obtain ⟨distinctAs, distinctBs, apart⟩ := List.nodup_append.1 distinct
  let y : State := acts e as (publishRecords e s)
  let z : State := claimBoth true y
  have during : Delivering s e y := Delivering.publish.acts as
  have ended : u = acts e bs z := acts_append ..
  have early : y.intent.held.get m
      = heldByPass s e m (s.ceil.records.get m.bogie).k (y.ceil.records.get m.bogie).k (s.intent.held.get m) :=
    acts_held_of_pass distinctAs before Delivering.publish m
  have claimed : z.intent.held.get m
      = min ((publishRecords e s).targetUnder m (y.ceil.records.get m.bogie).k)
          (y.intent.held.get m + s.cfg.tun.intent.riseStep) := by
    rw [evaluationClaims_held, target_eq_under, during.targetUnder, during.cfg]
  have late : u.intent.held.get m
      = heldByPass s e m (y.ceil.records.get m.bogie).k (u.ceil.records.get m.bogie).k (z.intent.held.get m) := by
    have same : z.ceil = y.ceil := by simp [z]
    rw [ended, ← same]
    exact acts_held_of_pass distinctBs after (during.act .claims) m
  by_cases pass : CompletionBlock.ceiling ∈ bs
  · have stands : y.ceil = s.ceil := by
      refine acts_keep (f := State.ceil) (fun b hb => act_ceil fun same => ?_) _
      exact apart _ (same ▸ hb) _ pass rfl
    rw [stands, heldByPass, if_neg (lt_irrefl _)] at early
    rw [stands] at claimed late
    rw [late, claimed, early, heldByPass]
    by_cases lower : (u.ceil.records.get m.bogie).k < (s.ceil.records.get m.bogie).k
    · refine ⟨_, .inr rfl, fun _ => rfl, ?_⟩
      have mono := targetUnder_mono (publishRecords e s) m lower.le
      rw [if_pos lower]
      omega
    · exact ⟨_, .inl rfl, fun lower' => absurd lower' lower, if_neg lower⟩
  · have stands : u.ceil = y.ceil := by
      rw [ended, acts_keep (f := State.ceil) fun b hb => act_ceil fun same => pass (same ▸ hb)]
      simp [z]
    rw [← stands] at early claimed late
    rw [heldByPass, if_neg (lt_irrefl _)] at late
    refine ⟨_, .inr rfl, fun _ => rfl, ?_⟩
    rw [late, claimed, early, heldByPass]
    split <;> omega

theorem completeEvaluation_of_serving (running : s.ev.running = some e) (force : s.inForce = true) (order : Fin 24) :
    completeEvaluation order s = acts e (permuted order.val completionBlocks) (publishRecords e s) := by
  simp only [completeEvaluation, running, force, if_true]
  exact completionDeliveries_eq ..

theorem completeEvaluation_of_idle (running : s.ev.running = some e) (idle : s.inForce = false) (order : Fin 24) :
    completeEvaluation order s = publishRecords e s := by
  simp [completeEvaluation, running, idle]

/-- Settles O45: the deliveries by their blocks, each made once in the order named. -/
theorem completionsPublishAndDeliver : Obligations.CompletionsPublishAndDeliver := by
  refine ⟨fun order e s running idle => ?_, fun order e s running force => ?_⟩
  · have completed := completeEvaluation_of_idle running idle order
    change Host.Outcome.next (finish (completeEvaluation order s)) = _
    rw [completed]
    rfl
  · intro published blocks under seen record
    have perm := permuted_perm order.val completionBlocks
    let u : State := acts e (permuted order.val completionBlocks) published
    have during : Delivering s e u := Delivering.publish.acts _
    have held (m : Motor) := acts_held (s := s) (e := e) perm m
    obtain ⟨trail, ceil⟩ := acts_ceil (s := s) (e := e) perm
    obtain ⟨magnitude, odometer⟩ := acts_seen (s := s) (e := e) perm
    have blend : u.blend = record s.ceil ∨ u.blend = record u.ceil := acts_blend perm
    refine ⟨u, ?_, permuted_perm .., (completionDeliveries_eq ..).symm, during.ev, ⟨trail, ceil⟩, fun m => ?_, fun m => ?_,
      fun part m => ?_, blend, ?_, ?_, fun hill => acts_sanding perm hill, magnitude, odometer, during.intent, during.port,
      during.inflight, during.frame⟩
    · change Host.Outcome.next (finish (completeEvaluation order s)) = _
      rw [completeEvaluation_of_serving running force]
      rfl
    · obtain ⟨k, whose, lower, value⟩ := held m
      have target : (under k m).target m = (publishRecords e s).targetUnder m k := by
        rw [target_eq_under]
        simp only [under, PerBogie.get_set_self]
        rfl
      exact ⟨k, whose, lower, by rw [target]; exact value⟩
    · obtain ⟨k, -, -, value⟩ := held m
      rw [show u.intent.held.get m = _ from value]
      exact min_le_right ..
    · obtain ⟨k, -, -, value⟩ := held m
      have zero : (publishRecords e s).targetUnder m k = 0 := if_neg fun ⟨_, _, other, _⟩ => other part
      rw [show u.intent.held.get m = _ from value, zero, Nat.zero_min]
    · rcases blend with h | h <;> rw [h] <;> rfl
    · rcases blend with h | h <;> rw [h] <;> rfl

end Sys2Proof.Machine
end

section
/-! PROOF of `Obligations.ModeWriteIsTaken`: what a MODE write parses to, and its five deliveries in any order (R5, R6). -/

namespace Sys2Proof.Machine

/-! ### The record of a MODE write (R5) -/

theorem Regime.ofCode_code (r : Regime) : Regime.ofCode r.code = some r := by cases r <;> rfl

theorem Direction.ofCode_code (d : Direction) : Direction.ofCode d.code = some d := by cases d <;> rfl

theorem Rail.ofCode_eq (c : BitVec 2) :
    Rail.ofCode c = if c.toNat = 0 then .dry else if c.toNat = 1 then .wet else .poor := by
  revert c
  decide

/-- A gradient is clipped where it lies outside its range. -/
theorem clipGradient_ne (g : Int) : (clipGradient g != g) = decide (g < -120 ∨ 120 < g) := by
  rw [Bool.eq_iff_iff, bne_iff_ne, decide_eq_true_iff, clipGradient]
  omega

/-- What a MODE word with valid codes is taken as. -/
theorem parseMode_of_valid {w : Word} {regime : Regime} {direction : Direction} (hr : w.extractLsb' 25 3 = regime.code)
    (hd : w.extractLsb' 23 2 = direction.code) :
    let gradient := (w.extractLsb' 8 8).toInt
    parseMode w
      = some
          ({ regime := regime, direction := direction, gradient := max (-120) (min 120 gradient), mass := bits w 0 8
             rail := if bits w 21 2 = 0 then .dry else if bits w 21 2 = 1 then .wet else .poor, sand := w.getLsbD 20 },
            decide (gradient < -120 ∨ 120 < gradient),
            decide (gradient < -120) || decide (120 < gradient) || bits w 21 2 == 3) := by
  intro gradient
  have rail : (w.extractLsb' 21 2 == 3) = (bits w 21 2 == 3) := by
    rw [Bool.eq_iff_iff, beq_iff_eq, beq_iff_eq, ← BitVec.toNat_inj]
    rfl
  simp only [parseMode, hr, hd, Regime.ofCode_code, Direction.ofCode_code, Rail.ofCode_eq, clipGradient_ne, rail,
    Bool.decide_or]
  rfl

/-- What a taken MODE write leaves before its deliveries. -/
theorem takeMode_eq (m : ModeRecord) (clipped adjusted : Bool) (s : State) :
    takeMode m clipped adjusted s
      = { s with
          intent :=
            { s.intent with
              mode :=
                { intent := some m, fresh := .live
                  timer := some (s.now + s.cfg.tun.intent.modeBudget * 10 * 1000) }
              accepted := m, adjusted := adjusted }
          rep := if clipped = true then s.rep.bump Counter.rangeClipped.number else s.rep } := by
  cases clipped <;> rfl

/-! ### The deliveries of a MODE taken event (R6) -/

/-- A state between a taken MODE write and the end of its deliveries. -/
structure ModeDelivering (s x : State) : Prop where
  intent : x.intent = { s.intent with held := x.intent.held, handed := x.intent.handed }
  ref : x.ref = { s.ref with rollback := x.ref.rollback }
  bogies : x.ev.bogies = s.ev.bogies
  ceil : x.ceil = { s.ceil with queue := x.ceil.queue }
  host : x.ip.port = s.ip.port ∧ x.ip.inflight = s.ip.inflight
  clipped : x.rep.counter Counter.rangeClipped.number = s.rep.counter Counter.rangeClipped.number
  frame : x = { s with
    intent := x.intent, ref := x.ref, ceil := x.ceil, ev := x.ev, blend := x.blend, sand := x.sand, ip := x.ip
    rep := x.rep }

variable {s : State}

theorem ModeDelivering.refl (s : State) : ModeDelivering s s := ⟨rfl, rfl, rfl, rfl, ⟨rfl, rfl⟩, rfl, rfl⟩

theorem sandModeTaken_rep_keeps {P : Reporter → Prop} (kept : Reporter.Kept P) (h : P s.rep) :
    P (sandModeTaken s).rep :=
  offer_rep_keeps kept _ _ (offer_rep_keeps kept _ _ (offer_rep_keeps kept _ _ (offer_rep_keeps kept _ _ h)))

/-- Each block changes no more of a state than its frame names. -/
theorem modeDeliveries_mem {before : Direction} {f : State → State} (h : f ∈ modeDeliveries before) :
    f = (fun x => handMode (claimBoth false x)) ∨ f = run false false ∨ f = sandModeTaken
      ∨ f = referenceModeTaken before ∨ f = ceilingModeTaken before := by
  simpa [modeDeliveries] using h

theorem ModeDelivering.trans {t x : State} (h : ModeDelivering s t) (k : ModeDelivering t x) : ModeDelivering s x where
  intent := by rw [k.intent, h.intent]
  ref := by rw [k.ref, h.ref]
  bogies := k.bogies.trans h.bogies
  ceil := by rw [k.ceil, h.ceil]
  host := ⟨k.host.1.trans h.host.1, k.host.2.trans h.host.2⟩
  clipped := k.clipped.trans h.clipped
  frame := by rw [k.frame, h.frame]

theorem modeDelivering_claims (x : State) : ModeDelivering x (handMode (claimBoth false x)) where
  intent := IntentTable.ext (by simp) (by simp) (by simp) (by simp) rfl rfl (by simp)
  ref := by simp
  bogies := by simp
  ceil := by simp
  host := ⟨by simp, by simp⟩
  clipped := by simp
  frame := State.ext (by simp) (by simp) (by simp) (by simp) (by simp) rfl rfl (by simp) rfl rfl rfl rfl rfl (by simp) rfl
    (by simp) (by simp) (by simp) (by simp)

theorem modeDelivering_run (x : State) : ModeDelivering x (run false false x) where
  intent := by
    refine (run_intent_frame ..).trans ?_
    rw [run_intent_held]
  ref := run_ref_frame ..
  bogies := by simp
  ceil := by simp
  host := ⟨by simp, by simp⟩
  clipped := run_rep_keeps (kept_counter (by decide) (by decide) _) _ _ rfl
  frame := State.ext (by simp) (by simp) (by simp) (by simp) (by simp) rfl rfl (by simp) rfl rfl rfl rfl rfl (by simp) rfl
    (by simp) (by simp) (by simp) (by simp)

theorem modeDelivering_sand (x : State) : ModeDelivering x (sandModeTaken x) where
  intent := by simp
  ref := by simp
  bogies := by simp
  ceil := by simp
  host := ⟨by simp, by simp⟩
  clipped := sandModeTaken_rep_keeps (kept_counter (by decide) (by decide) _) rfl
  frame := State.ext (by simp) (by simp) (by simp) (by simp) (by simp) rfl rfl (by simp) rfl rfl rfl rfl rfl (by simp) rfl
    (by simp) (by simp) (by simp) (by simp)

/-- Each block keeps what stands through the deliveries. -/
theorem ModeDelivering.step {x : State} (h : ModeDelivering s x) {before : Direction} {f : State → State}
    (block : f ∈ modeDeliveries before) : ModeDelivering s (f x) := by
  refine h.trans ?_
  rcases modeDeliveries_mem block with rfl | rfl | rfl | rfl | rfl
  · exact modeDelivering_claims x
  · exact modeDelivering_run x
  · exact modeDelivering_sand x
  · exact ⟨rfl, rfl, rfl, rfl, ⟨rfl, rfl⟩, rfl, rfl⟩
  · exact ⟨rfl, rfl, rfl, rfl, ⟨rfl, rfl⟩, rfl, rfl⟩

theorem ModeDelivering.cfg {x : State} (h : ModeDelivering s x) : x.cfg = s.cfg := by rw [h.frame]

theorem ModeDelivering.ctl {x : State} (h : ModeDelivering s x) : x.ctl = s.ctl := by rw [h.frame]

theorem ModeDelivering.target {x : State} (h : ModeDelivering s x) (m : Motor) : x.target m = s.target m :=
  target_congr (by rw [h.ctl]) (by rw [h.cfg]) (by rw [h.intent]; rfl) (by rw [h.intent]) h.bogies (by rw [h.ceil])

theorem ModeDelivering.modeTag {x : State} (h : ModeDelivering s x) : x.modeTag = s.modeTag := by
  have mode : x.intent.mode = s.intent.mode ∧ x.intent.adjusted = s.intent.adjusted := by
    rw [h.intent]
    exact ⟨rfl, rfl⟩
  obtain ⟨mode, adjusted⟩ := mode
  simp only [State.modeTag, h.ctl, mode, adjusted]

theorem modeTaken_delivering (order : Fin 120) (before : Direction) (s : State) :
    ModeDelivering s (modeTaken order before s) :=
  deliver_induct (ModeDelivering s) _
    (fun _ hf _ hx => hx.step ((permuted_perm order.val (modeDeliveries before)).mem_iff.1 hf)) s (.refl s)

/-- A MODE word follows through a block; the intent table's own hands it (R15, R18). -/
theorem Follows.modeBlock {x : State} {v : Option Word} (h : Follows s x .mode v) {before : Direction}
    {f : State → State} (block : f ∈ modeDeliveries before) :
    Follows s (f x) .mode v ∨ f = fun x => handMode (claimBoth false x) := by
  rcases modeDeliveries_mem block with rfl | rfl | rfl | rfl | rfl
  · exact .inr rfl
  · exact .inl (h.run_ne (by decide) false false)
  · exact .inl (h.of_eq (by simp) (by simp) (by simp))
  · exact .inl (h.of_eq rfl rfl rfl)
  · exact .inl (h.of_eq rfl rfl rfl)

/-- The MODE word that the intent table's block hands. -/
theorem Follows.modeClaims {x : State} {v : Option Word} (h : Follows s x .mode v) (through : ModeDelivering s x) :
    Follows s (handMode (claimBoth false x)) .mode (some (modeWord s.intent.accepted s.modeTag)) := by
  have claimed : Follows s (claimBoth false x) .mode v :=
    (h.claim_ne (m := .a) false (by decide)).claim_ne (m := .b) false (by decide)
  have accepted : (claimBoth false x).intent.accepted = s.intent.accepted := by
    rw [claimBoth_intent_accepted, through.intent]
  have tag : (claimBoth false x).modeTag = s.modeTag := by
    rw [← through.modeTag]
    simp [State.modeTag]
  rw [← accepted, ← tag]
  exact claimed.handMode_self

theorem modeTaken_follows (order : Fin 120) (before : Direction) (s : State) :
    Follows s (modeTaken order before s) .mode (some (modeWord s.intent.accepted s.modeTag)) := by
  have mem {f : State → State} : f ∈ permuted order.val (modeDeliveries before) ↔ f ∈ modeDeliveries before :=
    (permuted_perm _ _).mem_iff
  refine (deliver_brings
    (P := fun x => ModeDelivering s x ∧ Follows s x .mode (some (modeWord s.intent.accepted s.modeTag)))
    (Q := fun x => ModeDelivering s x ∧ ∃ v, Follows s x .mode v) (g := fun x => handMode (claimBoth false x)) _
    (mem.2 (by simp [modeDeliveries])) (fun f hf x hx => ?_) (fun x hx => ?_) (fun f hf x hx => ?_)
    ⟨.refl s, _, .refl s .mode⟩).2
  · obtain ⟨through, v, follows⟩ := hx
    refine ⟨through.step (mem.1 hf), ?_⟩
    rcases follows.modeBlock (mem.1 hf) with kept | rfl
    · exact ⟨v, kept⟩
    · exact ⟨_, follows.modeClaims through⟩
  · obtain ⟨through, v, follows⟩ := hx
    exact ⟨through.trans (modeDelivering_claims x), follows.modeClaims through⟩
  · obtain ⟨through, follows⟩ := hx
    refine ⟨through.step (mem.1 hf), ?_⟩
    rcases follows.modeBlock (mem.1 hf) with kept | rfl
    · exact kept
    · exact follows.modeClaims through

/-- The other blocks leave the held tractions. -/
theorem modeBlock_held {before : Direction} {f : State → State} (block : f ∈ modeDeliveries before) (x : State) :
    (f x).intent.held = x.intent.held ∨ f = fun x => handMode (claimBoth false x) := by
  rcases modeDeliveries_mem block with rfl | rfl | rfl | rfl | rfl
  · exact .inr rfl
  · exact .inl (by simp)
  · exact .inl (by simp)
  · exact .inl rfl
  · exact .inl rfl

/-- The held tractions are claimed; a second claim on the same target would change nothing (R11). -/
theorem modeTaken_held (order : Fin 120) (before : Direction) (s : State) (m : Motor) :
    (modeTaken order before s).intent.held.get m = min (s.intent.held.get m) (s.target m) := by
  have mem {f : State → State} : f ∈ permuted order.val (modeDeliveries before) ↔ f ∈ modeDeliveries before :=
    (permuted_perm _ _).mem_iff
  have claims {x : State} (through : ModeDelivering s x) :
      (handMode (claimBoth false x)).intent.held.get m = min (x.intent.held.get m) (s.target m) := by
    rw [handMode_intent_held, claimBoth_held, through.target]
  refine (deliver_brings
    (P := fun x => ModeDelivering s x ∧ x.intent.held.get m = min (s.intent.held.get m) (s.target m))
    (Q := fun x => ModeDelivering s x ∧ (x.intent.held.get m = s.intent.held.get m
      ∨ x.intent.held.get m = min (s.intent.held.get m) (s.target m)))
    (g := fun x => handMode (claimBoth false x)) _
    (mem.2 (by simp [modeDeliveries])) (fun f hf x hx => ?_) (fun x hx => ?_) (fun f hf x hx => ?_)
    ⟨.refl s, .inl rfl⟩).2
  · obtain ⟨through, held⟩ := hx
    refine ⟨through.step (mem.1 hf), ?_⟩
    rcases modeBlock_held (mem.1 hf) x with kept | rfl
    · rwa [kept]
    · rw [claims through]
      omega
  · obtain ⟨through, held⟩ := hx
    refine ⟨through.trans (modeDelivering_claims x), ?_⟩
    rw [claims through]
    omega
  · obtain ⟨through, held⟩ := hx
    refine ⟨through.step (mem.1 hf), ?_⟩
    rcases modeBlock_held (mem.1 hf) x with kept | rfl
    · rwa [kept]
    · rw [claims through]
      omega

/-- The rail condition queue is emptied by a changed direction (R115). -/
theorem modeTaken_queue (order : Fin 120) (before : Direction) (s : State) :
    (modeTaken order before s).ceil.queue = if s.intent.accepted.direction = before then s.ceil.queue else [] := by
  have mem {f : State → State} : f ∈ permuted order.val (modeDeliveries before) ↔ f ∈ modeDeliveries before :=
    (permuted_perm _ _).mem_iff
  let emptied : List Notice := if s.intent.accepted.direction = before then s.ceil.queue else []
  have empties {x : State} (through : ModeDelivering s x) (queue : x.ceil.queue = s.ceil.queue ∨ x.ceil.queue = emptied) :
      (ceilingModeTaken before x).ceil.queue = emptied := by
    have accepted : x.intent.accepted = s.intent.accepted := by rw [through.intent]
    simp only [ceilingModeTaken, accepted, emptied] at queue ⊢
    split at queue <;> split <;> simp_all
  have other {f : State → State} (block : f ∈ modeDeliveries before) (x : State) :
      (f x).ceil = x.ceil ∨ f = ceilingModeTaken before := by
    rcases modeDeliveries_mem block with rfl | rfl | rfl | rfl | rfl
    · exact .inl (by simp)
    · exact .inl (by simp)
    · exact .inl (by simp)
    · exact .inl rfl
    · exact .inr rfl
  refine (deliver_brings (P := fun x => ModeDelivering s x ∧ x.ceil.queue = emptied)
    (Q := fun x => ModeDelivering s x ∧ (x.ceil.queue = s.ceil.queue ∨ x.ceil.queue = emptied))
    (g := ceilingModeTaken before) _
    (mem.2 (by simp [modeDeliveries])) (fun f hf x hx => ?_) (fun x hx => ?_) (fun f hf x hx => ?_)
    ⟨.refl s, .inl rfl⟩).2
  · obtain ⟨through, queue⟩ := hx
    refine ⟨through.step (mem.1 hf), ?_⟩
    rcases other (mem.1 hf) x with kept | rfl
    · rwa [kept]
    · exact .inr (empties through queue)
  · exact ⟨hx.1.step (before := before) (by simp [modeDeliveries]), empties hx.1 hx.2⟩
  · obtain ⟨through, queue⟩ := hx
    refine ⟨through.step (mem.1 hf), ?_⟩
    rcases other (mem.1 hf) x with kept | rfl
    · rwa [kept]
    · exact empties through (.inr queue)

theorem run_rollback_of_zero {x : State} (zero : x.ref.rollback = 0) (evaluation returning : Bool) :
    (run evaluation returning x).ref.rollback = 0 := by
  simp only [run]
  split <;> simp [rollbackClear, zero]

/-- A changed direction, or NEUTRAL, clears the rollback distance (R75). -/
theorem modeTaken_rollback (order : Fin 120) {before : Direction}
    (changed : s.intent.accepted.direction = .neutral ∨ s.intent.accepted.direction ≠ before) :
    (modeTaken order before s).ref.rollback = 0 := by
  have mem {f : State → State} : f ∈ permuted order.val (modeDeliveries before) ↔ f ∈ modeDeliveries before :=
    (permuted_perm _ _).mem_iff
  have clears {x : State} (through : ModeDelivering s x) : (referenceModeTaken before x).ref.rollback = 0 := by
    have accepted : x.intent.accepted = s.intent.accepted := by rw [through.intent]
    exact if_pos (by rw [accepted]; exact changed)
  refine (deliver_brings (P := fun x => ModeDelivering s x ∧ x.ref.rollback = 0) (Q := ModeDelivering s)
    (g := referenceModeTaken before) _
    (mem.2 (by simp [modeDeliveries])) (fun f hf x hx => hx.step (mem.1 hf)) (fun x hx => ?_) (fun f hf x hx => ?_)
    (.refl s)).2
  · exact ⟨hx.step (before := before) (by simp [modeDeliveries]), clears hx⟩
  · obtain ⟨through, zero⟩ := hx
    refine ⟨through.step (mem.1 hf), ?_⟩
    rcases modeDeliveries_mem (mem.1 hf) with rfl | rfl | rfl | rfl | rfl
    · simpa using zero
    · exact run_rollback_of_zero zero ..
    · simpa using zero
    · exact clears through
    · exact zero

/-- Following reads the start's addresses and last handed words alone. -/
theorem Follows.of_start {t x : State} {role : Role} {v : Option Word} (h : Follows t x role v)
    (addrs : t.intent.addrs = s.intent.addrs) (handed : t.intent.handed = s.intent.handed) : Follows s x role v where
  addrs := h.addrs.trans addrs
  stands none := by rw [← handed]; exact h.stands none
  handed w some := by
    have waits := h.handed w some
    simp only [Handed, addrs, handed] at waits
    exact waits

/-- Settles O11: the record that the word parses to, and the five deliveries in any order. -/
theorem modeWriteIsTaken : Obligations.ModeWriteIsTaken := by
  intro addr data order e regime direction s host force window code hr hd gradient record goal before taken blocks
  have parsed := parseMode_of_valid hr hd
  have takes : takeMode record (decide (gradient < -120 ∨ 120 < gradient))
      (decide (gradient < -120) || decide (120 < gradient) || bits data 21 2 == 3) s = taken := by
    rw [takeMode_eq]
    simp only [decide_eq_true_eq]
    rfl
  let v : State := modeTaken order before taken
  have written : exec (.modeWrite addr data order) s = .next (finish (v.answered true)) := by
    rw [exec_modeWrite host window code, modeWrite, parsed]
    change Host.Outcome.next (finish (reply true 0 (modeTaken order before (takeMode record _ _ s)))) = _
    rw [takes]
    rfl
  have through : ModeDelivering taken v := modeTaken_delivering ..
  have tag : taken.modeTag
      = if s.ctl.part = .fallback then .fallback
        else if gradient < -120 ∨ 120 < gradient ∨ bits data 21 2 = 3 then .corrected else .effective := by
    rw [modeTag_eq]
    simp [taken, or_assoc]
  have follows : Follows s (v.answered true) .mode (some (modeWord record taken.modeTag)) :=
    ((modeTaken_follows order before taken).of_eq (u := v.answered true) rfl rfl rfl).of_start rfl rfl
  have queue : v.ceil.queue = _ := modeTaken_queue order before taken
  obtain ⟨port, inflight⟩ := through.host
  refine ⟨_, written, permuted_perm .., rfl, congrArg (·.accepted) through.intent, congrArg (·.mode) through.intent,
    congrArg (·.adjusted) through.intent, ?_, ?_, fun m => ?_, ?_, fun changed => ?_, ?_, through.ref, rfl, rfl, port,
    inflight, ?_⟩
  · rw [← tag]
    exact follows.handed _ rfl
  · exact through.clipped
  · exact modeTaken_held order before taken m
  · refine through.ceil.trans ?_
    rw [queue]
  · exact modeTaken_rollback order changed
  · exact IntentTable.ext (congrArg (·.channels) through.intent) rfl rfl rfl rfl rfl (congrArg (·.addrs) through.intent)
  · exact congrArg (State.answered · true) through.frame

end Sys2Proof.Machine
end

section
/-! PROOF of `Obligations.PageWordsFollowTheirLayout`: the default image word by word, the ranges of the tuning words, and
the items that a word sets (12.2, R172 to R174). -/

namespace Sys2Proof.Machine

/-! ### The default image (R172) -/

/-- The first words of an image replace as many window entries. -/
theorem windowImage (c : StructureConfig) {n : Nat} (h : n ≤ 16) :
    ∃ ws : Vector WindowEntry 16,
      (List.range n).foldl (fun c off => c.setWord off (defaultWord off)) c = { c with windows := ws }
        ∧ ∀ i (hi : i < 16), i < n → ws[i] = WindowEntry.unused := by
  induction n with
  | zero => exact ⟨c.windows, rfl, fun _ _ below => absurd below (Nat.not_lt_zero _)⟩
  | succ n ih =>
    obtain ⟨ws, image, unused⟩ := ih (by omega)
    have entry : WindowEntry.ofWord (defaultWord n) = WindowEntry.unused := by
      rw [defaultWord, if_pos (show n < 0x10 by omega)]
      rfl
    refine ⟨ws.set n WindowEntry.unused, ?_, fun i hi below => ?_⟩
    · rw [List.range_succ, List.foldl_append, image, List.foldl_cons, List.foldl_nil, StructureConfig.setWord,
        dif_pos (show n < 16 by omega), entry]
    · rw [Vector.getElem_set]
      split
      · rfl
      · exact unused i hi (by omega)

theorem structureImage (c : StructureConfig) :
    (List.range 48).foldl (fun c off => c.setWord off (defaultWord off)) c = StructureConfig.default := by
  obtain ⟨ws, image, unused⟩ := windowImage c (n := 16) le_rfl
  have empty : ws = Vector.replicate 16 WindowEntry.unused :=
    Vector.ext fun i hi => (unused i hi hi).trans (Vector.getElem_replicate hi).symm
  have split : List.range 48 = List.range 16 ++ (List.range 32).map (16 + ·) := by decide
  rw [split, List.foldl_append, image, empty]
  rfl

theorem tuningImage (c : TuningConfig) :
    (List.range 96).foldl (fun c k => c.setWord (0x40 + k) (defaultWord (0x40 + k))) c = TuningConfig.default := rfl

/-! ### The ranges of the tuning words (R173) -/

/-- The tuning words of a single item, with its range. -/
def itemRanges : List (Nat × Nat × Nat) :=
  [(0x4A, 100, 2000), (0x4B, 1000, 30000), (0x4C, 100, 4000), (0x4D, 100, 4000)]
    ++ ([(0x4E, 5, 50), (0x4F, 50, 2000), (0x50, 5, 300), (0x51, 50, 2000),
          (0x52, 5, 300), (0x53, 50, 2000), (0x54, 5, 300)]
        ++ [(0x55, 500, 20000), (0x56, 200, 10000), (0x57, 5, 200), (0x58, 2, 10)]
        ++ [(0x59, 100, 900), (0x5A, 100, 900), (0x5B, 1, 200), (0x5C, 1, 200)])
    ++ [(0x5D, 200, 1000), (0x5E, 0, 500), (0x5F, 1, 100), (0x60, 0, 1000)]
    ++ ([(0x61, 0, 500), (0x62, 0, 120), (0x63, 0, 255), (0x64, 0, 30000), (0x65, 0, 30000), (0x66, 1, 1000)]
        ++ [(0x67, 0, 20000), (0x68, 0, 20000), (0x69, 0, 20000), (0x6A, 0, 20000), (0x6B, 0, 20000), (0x6C, 0, 20000)]
        ++ [(0x6D, 0, 5000), (0x6E, 100, 5000), (0x6F, 50, 2000), (0x70, 500, 10000), (0x71, 50, 1000)])
    ++ [(0x48, 1, 1000), (0x49, 2, 255), (0x77, 1, 50), (0x78, 1, 50), (0x7A, 1, 255)]

/-- A tuning word of more than one item: limits, a refresh item or a sander. -/
def compoundAt (off : Nat) : Bool :=
  off == 0x40 || off == 0x41 || off == 0x42 || off == 0x44 || off == 0x45 || off == 0x46 || off == 0x47 || off == 0x72
    || off == 0x73 || off == 0x74 || off == 0x75

theorem itemRange_of_mem : ∀ x ∈ itemRanges, itemRange x.1 = some x.2 ∧ compoundAt x.1 = false := by decide

theorem tuningInRange_of_item {off lo hi : Nat} (single : compoundAt off = false) (range : itemRange off = some (lo, hi))
    (w : Word) : tuningInRange off w = true ↔ lo ≤ item w ∧ item w ≤ hi := by
  simp only [compoundAt, Bool.or_eq_false_iff, beq_eq_false_iff_ne] at single
  rw [tuningInRange, if_neg (by omega), if_neg (by omega), if_neg (by omega), range]
  simp

theorem tuningInRange_of_none {off : Nat} (single : compoundAt off = false) (none : itemRange off = none) (w : Word) :
    tuningInRange off w = true := by
  simp only [compoundAt, Bool.or_eq_false_iff, beq_eq_false_iff_ne] at single
  rw [tuningInRange, if_neg (by omega), if_neg (by omega), if_neg (by omega), none]

theorem itemRange_none {off : Nat} (h : off = 0x43 ∨ off = 0x76 ∨ off = 0x79 ∨ 0x7B ≤ off) : itemRange off = none := by
  simp only [itemRange]
  split
  case h_46 => rfl
  all_goals omega

theorem compoundAt_false {off : Nat} (h : off = 0x43 ∨ off = 0x76 ∨ off = 0x79 ∨ 0x7B ≤ off) : compoundAt off = false := by
  simp only [compoundAt, Bool.or_eq_false_iff, beq_eq_false_iff_ne]
  omega

theorem tuningInRange_limits {off : Nat} (h : off = 0x40 ∨ off = 0x41 ∨ off = 0x42) (w : Word) :
    tuningInRange off w = true ↔ bits w 0 16 ≤ bits w 16 16 ∧ bits w 16 16 ≤ 65534 := by
  rw [tuningInRange, if_pos h]
  simp

theorem tuningInRange_refresh {off : Nat} (low : 0x44 ≤ off) (high : off ≤ 0x47) (w : Word) :
    tuningInRange off w = true ↔ 1 ≤ bits w 0 8 := by
  rw [tuningInRange, if_neg (by omega), if_pos (by omega)]
  simp

theorem tuningInRange_sander {off : Nat} (low : 0x72 ≤ off) (high : off ≤ 0x75) (w : Word) :
    tuningInRange off w = true
      ↔ 1 ≤ bits w 22 6 ∧ bits w 22 6 ≤ 50 ∧ 10 ≤ bits w 13 9 ∧ bits w 13 9 ≤ 500 ∧ 100 ≤ bits w 0 13
        ∧ bits w 0 13 ≤ 5000 := by
  rw [tuningInRange, if_neg (by omega), if_neg (by omega), if_pos (by omega)]
  simp [SanderTuning.inRange, SanderTuning.ofWord, and_assoc]

/-! ### Words with no item (R174) -/

theorem setWord_of_no_tuning (c : TuningConfig) {off : Nat} (h : off = 0x43 ∨ 0x7B ≤ off) (w : Word) :
    c.setWord off w = c := by
  simp only [TuningConfig.setWord]
  split
  case h_59 => rfl
  all_goals omega

theorem setWord_of_no_structure (c : StructureConfig) {off : Nat} (h : 0x1E ≤ off) (w : Word) : c.setWord off w = c := by
  rw [StructureConfig.setWord, dif_neg (by omega)]
  split
  case h_15 => rfl
  all_goals omega

/-- Settles O9: the default image by its two sections, the ranges by the kinds of word, the items by the model's layout. -/
theorem pageWordsFollowTheirLayout : Obligations.PageWordsFollowTheirLayout := by
  refine ⟨⟨structureImage, tuningImage, by decide, rfl, rfl, rfl⟩, fun w => ?_, fun c w => ?_, fun c w => ?_⟩
  · intro v speed slip ceiling blend others
    refine ⟨fun off lo hi listed => ?_, fun off at' => tuningInRange_limits at' w,
      fun off low high => tuningInRange_refresh low high w, fun off low high => tuningInRange_sander low high w,
      fun off at' => ?_⟩
    · obtain ⟨range, single⟩ := itemRange_of_mem (off, lo, hi) listed
      exact tuningInRange_of_item single range w
    · exact tuningInRange_of_none (compoundAt_false at') (itemRange_none at') w
  · intro set v limits refresh sander
    refine ⟨rfl, rfl, rfl, rfl, rfl, rfl, rfl, rfl, rfl, rfl, rfl, rfl, rfl, rfl, rfl, rfl, rfl, rfl, rfl, rfl, rfl, rfl, rfl,
      rfl, rfl, rfl, rfl, rfl, rfl, rfl, rfl, rfl, rfl, rfl, rfl, rfl, rfl, rfl, rfl, rfl, rfl, rfl, rfl, rfl, rfl, rfl, rfl,
      rfl, rfl, rfl, rfl, rfl, rfl, rfl, rfl, rfl, rfl, rfl, fun off at' => setWord_of_no_tuning c at' w⟩
  · intro set v entry channel
    refine ⟨fun i => ?_, rfl, rfl, rfl, rfl, rfl, rfl, rfl, rfl, rfl, rfl, rfl, rfl, rfl, rfl,
      fun off at' => setWord_of_no_structure c at' w⟩
    exact dif_pos i.isLt

end Sys2Proof.Machine
end

section
/-! PROOF support. A grant of the memory port and what follows every command, said once: what a grant needs and makes,
and what it leaves alone (R26, R35, R41 to R43). -/

namespace Sys2Proof.Machine

variable {s : State} {c : Claimant}

/-! ### A claimant that waits (R42) -/

/-- A claimant has something to put on the port. -/
def State.ready (s : State) : Claimant → Prop
  | .publish => s.ctl.part = .publish
  | .passThrough => ∃ h, s.ip.host = some h
  | .queue => ∃ e rest, s.ip.queue = e :: rest
  | .fetcher => ∃ f, s.ip.fetch = some f
  | .report => ∃ u, s.rw.update = some u

/-- The arbiter chooses a claimant that waits. -/
theorem ready_of_chosen (h : s.chosen = some c) : s.ready c := by
  simp only [State.chosen] at h
  split at h
  · cases h
  split at h
  · cases h; assumption
  have queued (q : (!s.ip.queue.isEmpty) = true) : s.ready .queue := by
    cases hq : s.ip.queue with
    | nil => simp [hq] at q
    | cons e rest => exact ⟨e, rest, hq⟩
  have fetching (f : s.fetchClaims = true) : s.ready .fetcher := by
    simp only [State.fetchClaims, Bool.and_eq_true] at f
    exact Option.isSome_iff_exists.1 f.1
  split at h
  · rename_i q; cases h; exact queued q.1
  split at h
  · rename_i f; cases h; exact fetching f.1
  split at h
  · rename_i claims
    cases h
    simp only [Interposer.passClaims, Option.any_eq_true] at claims
    exact claims.imp fun _ x => x.1
  split at h
  · rename_i q; cases h; exact queued q
  split at h
  · rename_i f; cases h; exact fetching f
  split at h
  · rename_i u; cases h; exact Option.isSome_iff_exists.1 u
  · cases h

/-! ### A grant -/

theorem grant_queue_eq {e : QueueEntry} {rest : List QueueEntry} (h : s.ip.queue = e :: rest) :
    grant .queue s
      = { s with
          ip :=
            { s.ip with
              port := some (s.portTxn .queue e.addr true fullLanes e.word)
              queue := rest, inflight := some { entry := e, discarding := false }
              queueWait := 0, fetchWait := (s.waits .queue).2 } } := by
  simp only [grant, grantQueue, h]

theorem grant_passThrough_eq {h : HostSlot} (host : s.ip.host = some h) :
    grant .passThrough s
      = { s with
          ip :=
            { s.ip with
              port := some (s.portTxn .passThrough h.txn.addr h.txn.write h.txn.lanes h.txn.data)
              host := some { h with wait := .onPort }
              queueWait := (s.waits .passThrough).1, fetchWait := (s.waits .passThrough).2 } } := by
  simp only [grant, grantHost, host]

theorem grant_fetcher_eq {f : Fetch} (h : s.ip.fetch = some f) :
    grant .fetcher s
      = { s with
          ip :=
            { s.ip with
              port := some (s.portTxn .fetcher (s.feedbackAddr f.second) false fullLanes 0)
              queueWait := (s.waits .fetcher).1, fetchWait := 0 } } := by
  simp only [grant, grantFetch, h]

theorem grant_report_eq {u : Update} (h : s.rw.update = some u) :
    grant .report s
      = { s with
          ip :=
            { s.ip with
              port := some (s.portTxn .report (u.addr s.ctl.pageBase) true fullLanes (s.taken u).current)
              queueWait := (s.waits .report).1, fetchWait := (s.waits .report).2 }
          rw := { s.rw with update := some (s.taken u) } } := by
  simp only [grant, grantReport, h]

/-- The transaction of a grant, with its timeout started (R43). -/
theorem grant_port (ready : s.ready c) :
    ∃ p, (grant c s).ip.port = some p ∧ p.claimant = c ∧ p.deadline = s.now + s.cfg.tun.link.portTimeout := by
  cases c with
  | publish => exact ⟨_, rfl, rfl, rfl⟩
  | passThrough => obtain ⟨h, host⟩ := ready; rw [grant_passThrough_eq host]; exact ⟨_, rfl, rfl, rfl⟩
  | queue => obtain ⟨e, rest, queue⟩ := ready; rw [grant_queue_eq queue]; exact ⟨_, rfl, rfl, rfl⟩
  | fetcher => obtain ⟨f, fetch⟩ := ready; rw [grant_fetcher_eq fetch]; exact ⟨_, rfl, rfl, rfl⟩
  | report => obtain ⟨u, update⟩ := ready; rw [grant_report_eq update]; exact ⟨_, rfl, rfl, rfl⟩

/-- The wait counts of a grant outside PUBLISH (R42). -/
theorem grant_waits (ready : s.ready c) (other : c ≠ .publish) :
    ((grant c s).ip.queueWait, (grant c s).ip.fetchWait) = s.waits c := by
  cases c with
  | publish => exact absurd rfl other
  | passThrough => obtain ⟨h, host⟩ := ready; rw [grant_passThrough_eq host]
  | queue => obtain ⟨e, rest, queue⟩ := ready; rw [grant_queue_eq queue]; simp [State.waits]
  | fetcher => obtain ⟨f, fetch⟩ := ready; rw [grant_fetcher_eq fetch]; simp [State.waits]
  | report => obtain ⟨u, update⟩ := ready; rw [grant_report_eq update]

/-! ### What a grant leaves alone -/

/-- The place of an update in its records, its contents apart. -/
def Update.place (u : Update) : Option Addr × Nat × Nat × Bool := (u.window, u.record, u.word, u.stopping)

/-- The transaction at the processor port, its wait apart. -/
def HostSlot.sent (h : HostSlot) : HostTxn × Option (BitVec 8) := (h.txn, h.page)

/-- What stands between a state and the same state with the port granted, or not. -/
structure Grants (s t : State) : Prop where
  frame : t = { s with ip := t.ip, rw := t.rw }
  interposer : t.ip = { s.ip with
    port := t.ip.port, queue := t.ip.queue, inflight := t.ip.inflight, host := t.ip.host
    queueWait := t.ip.queueWait, fetchWait := t.ip.fetchWait }
  host : t.ip.host.map HostSlot.sent = s.ip.host.map HostSlot.sent
  queue : (t.ip.queue = s.ip.queue ∧ t.ip.inflight = s.ip.inflight)
    ∨ ∃ e, s.ip.queue = e :: t.ip.queue ∧ t.ip.inflight = some { entry := e, discarding := false }
  writer : t.rw = { s.rw with update := t.rw.update }
  update : t.rw.update.map Update.place = s.rw.update.map Update.place
  contents : (∀ p, t.ip.port = some p → p.claimant ≠ .report) → t.rw = s.rw

theorem Grants.refl (s : State) : Grants s s := ⟨rfl, rfl, rfl, .inl ⟨rfl, rfl⟩, rfl, rfl, fun _ => rfl⟩

theorem grant_grants (ready : s.ready c) : Grants s (grant c s) := by
  cases c with
  | publish => exact ⟨rfl, rfl, rfl, .inl ⟨rfl, rfl⟩, rfl, rfl, fun _ => rfl⟩
  | passThrough =>
    obtain ⟨h, host⟩ := ready
    rw [grant_passThrough_eq host]
    exact ⟨rfl, rfl, by rw [host]; rfl, .inl ⟨rfl, rfl⟩, rfl, rfl, fun _ => rfl⟩
  | queue =>
    obtain ⟨e, rest, queue⟩ := ready
    rw [grant_queue_eq queue]
    exact ⟨rfl, rfl, rfl, .inr ⟨e, queue, rfl⟩, rfl, rfl, fun _ => rfl⟩
  | fetcher =>
    obtain ⟨f, fetch⟩ := ready
    rw [grant_fetcher_eq fetch]
    exact ⟨rfl, rfl, rfl, .inl ⟨rfl, rfl⟩, rfl, rfl, fun _ => rfl⟩
  | report =>
    obtain ⟨u, update⟩ := ready
    rw [grant_report_eq update]
    exact ⟨rfl, rfl, rfl, .inl ⟨rfl, rfl⟩, rfl, by rw [update]; rfl, fun other => absurd rfl (other _ rfl)⟩

/-! ### The arbiter (R41, R42) -/

theorem arbitrate_of_busy (h : s.ip.port ≠ none) : arbitrate s = s := by
  simp only [arbitrate]
  split
  · rename_i free _; exact absurd free h
  · rfl

theorem arbitrate_of_chosen (free : s.ip.port = none) (h : s.chosen = some c) : arbitrate s = grant c s := by
  simp only [arbitrate, free, h]

theorem arbitrate_of_none (h : s.chosen = none) : arbitrate s = s := by
  simp only [arbitrate]
  split
  · rename_i c _ chosen
    cases h.symm.trans chosen
  · rfl

theorem arbitrate_grants (s : State) : Grants s (arbitrate s) := by
  by_cases free : s.ip.port = none
  · cases chosen : s.chosen with
    | none => rw [arbitrate_of_none chosen]; exact .refl s
    | some c => rw [arbitrate_of_chosen free chosen]; exact grant_grants (ready_of_chosen chosen)
  · rw [arbitrate_of_busy free]; exact .refl s

/-- At a free port the claimant of the next transaction is the one chosen, if any is. -/
theorem arbitrate_claimant (free : s.ip.port = none) : (arbitrate s).ip.port.map (·.claimant) = s.chosen := by
  cases chosen : s.chosen with
  | none => rw [arbitrate_of_none chosen, free]; rfl
  | some c =>
    obtain ⟨p, port, claimant, _⟩ := grant_port (ready_of_chosen chosen)
    rw [arbitrate_of_chosen free chosen, port, Option.map_some, claimant]

/-! ### What follows every command -/

theorem finish_ip (s : State) : (finish s).ip = (arbitrate (releaseHolds s)).ip := rfl

theorem finish_ip_of_idle (h : arbitrate (releaseHolds s) = releaseHolds s) : (finish s).ip = (releaseHolds s).ip := by
  rw [finish_ip, h]

theorem releaseHolds_sent (s : State) :
    (releaseHolds s).ip.host.map HostSlot.sent = s.ip.host.map HostSlot.sent := by
  simp only [releaseHolds, Option.map_map]
  rfl

theorem finish_frame (s : State) :
    finish s = { s with ip := (finish s).ip, rw := (finish s).rw, lines := (finish s).lines } := by
  have frame := (arbitrate_grants (releaseHolds s)).frame
  simp only [finish]
  rw [frame]
  rfl

end Sys2Proof.Machine
end

section
/-! PROOF of `Obligations.FinishOnlyGrantsAndReleases`. -/

namespace Sys2Proof.Machine

/-- Settles O4: releasing holds touches the host's wait alone, and the rest is what a grant leaves alone. -/
theorem finishOnlyGrantsAndReleases : Obligations.FinishOnlyGrantsAndReleases := by
  intro s t
  obtain ⟨_, interposer, host, queue, writer, update, contents⟩ := arbitrate_grants (releaseHolds s)
  refine ⟨finish_frame s, rfl, (congrArg Interposer.copy interposer :),
    (congrArg Interposer.lastAbandoned interposer :), (congrArg Interposer.reply interposer :),
    (congrArg Interposer.fetchTimer interposer :), (congrArg Interposer.fetch interposer :),
    (congrArg Interposer.nextId interposer :), host.trans (releaseHolds_sent s), queue,
    (congrArg ReportWriter.timer writer :), (congrArg ReportWriter.pendingUpdate writer :), update, contents, fun busy => ?_⟩
  have idle : arbitrate (releaseHolds s) = releaseHolds s := arbitrate_of_busy busy
  have ip : t.ip = (releaseHolds s).ip := finish_ip_of_idle idle
  rw [ip]
  exact ⟨rfl, rfl, rfl, rfl, rfl, (congrArg State.rw idle :)⟩

end Sys2Proof.Machine
end

section
/-! PROOF of `Obligations.ArbiterGrantsInOrder`. -/

namespace Sys2Proof.Machine

variable {s : State}

/-- At a free port every fetch that has not ended waits. -/
theorem fetchClaims_of_free (free : s.ip.port = none) : s.fetchClaims = true ↔ s.ip.fetch ≠ none := by
  simp [State.fetchClaims, free, Option.isSome_iff_ne_none]

/-- The wait counts of a grant at a free port, where every fetch that has not ended waits. -/
theorem waits_of_free (free : s.ip.port = none) (c : Claimant) :
    s.waits c
      = ( if c = .queue ∨ s.ip.queue = [] then 0 else s.ip.queueWait + 1,
          if c = .fetcher then 0 else if s.ip.fetch ≠ none then s.ip.fetchWait + 1 else s.ip.fetchWait ) := by
  simp only [State.waits, fetchClaims_of_free free, List.isEmpty_iff]

/-- The arbiter's choice at a free port, where every fetch that has not ended waits (R42). -/
theorem chosen_of_free (free : s.ip.port = none) :
    s.chosen
      = if s.ctl.part = .reset then none
        else if s.ctl.part = .publish then some .publish
        else if !s.ip.queue.isEmpty ∧ (4 ≤ s.ip.queue.length ∨ 8 ≤ s.ip.queueWait) then some .queue
        else if s.ip.fetch ≠ none ∧ 16 ≤ s.ip.fetchWait then some .fetcher
        else if s.ip.passClaims then some .passThrough
        else if !s.ip.queue.isEmpty then some .queue
        else if s.ip.fetch ≠ none then some .fetcher
        else if s.rw.update ≠ none then some .report
        else none := by
  simp only [State.chosen, fetchClaims_of_free free, Option.isSome_iff_ne_none]

/-- The transaction that follows a command at a free port is that of a grant to the chosen claimant. -/
theorem finish_of_granted {p : PortTxn} (free : s.ip.port = none) (port : (finish s).ip.port = some p) :
    (releaseHolds s).chosen = some p.claimant ∧ (finish s).ip = (grant p.claimant (releaseHolds s)).ip := by
  have claimant := arbitrate_claimant (s := releaseHolds s) free
  rw [← finish_ip, port] at claimant
  have chosen : (releaseHolds s).chosen = some p.claimant := claimant.symm
  exact ⟨chosen, by rw [finish_ip, arbitrate_of_chosen (s := releaseHolds s) free chosen]⟩

/-- Settles O5: the choice is the arbiter's at a free port, and each grant puts its transaction and its wait counts. -/
theorem arbiterGrantsInOrder : Obligations.ArbiterGrantsInOrder := by
  refine ⟨fun s free => ?_, fun e rest s queue => ?_, fun h s host => ?_, fun s => ⟨fun p free port other => ?_, ?_⟩⟩
  · intro hostClaims waits granted
    refine ⟨(arbitrate_claimant (s := releaseHolds s) free).trans (chosen_of_free (s := releaseHolds s) free),
      fun p port => ?_⟩
    obtain ⟨chosen, ip⟩ := finish_of_granted free port
    obtain ⟨q, granted, _, deadline⟩ := grant_port (ready_of_chosen chosen)
    rw [ip, granted] at port
    cases port
    exact deadline
  · intro t
    have granted : t = _ := grant_queue_eq queue
    rw [granted]
    exact ⟨rfl, rfl, rfl, _, rfl, rfl, rfl, rfl, rfl, rfl⟩
  · intro t
    have granted : t = _ := grant_passThrough_eq host
    rw [granted]
    exact ⟨rfl, _, rfl, rfl, rfl, rfl, rfl, rfl⟩
  · obtain ⟨chosen, ip⟩ := finish_of_granted free port
    have waits := grant_waits (ready_of_chosen chosen) other
    rw [← ip, waits_of_free (s := releaseHolds s) free] at waits
    exact Prod.ext_iff.1 waits
  · intro unmoved
    have same : (releaseHolds s).ip.queueWait = s.ip.queueWait
        ∧ (releaseHolds s).ip.fetchWait = s.ip.fetchWait := ⟨rfl, rfl⟩
    by_cases free : s.ip.port = none
    · cases port : (finish s).ip.port with
      | none =>
        have none : (releaseHolds s).chosen = none := by
          rw [← arbitrate_claimant (s := releaseHolds s) free, ← finish_ip, port]; rfl
        rw [finish_ip_of_idle (arbitrate_of_none none)]
        exact same
      | some p =>
        obtain ⟨chosen, ip⟩ := finish_of_granted free port
        have publish : s.ctl.part = .publish := unmoved.resolve_left (by rw [port, free]; exact nofun)
        have claimant : p.claimant = .publish := by
          rw [State.chosen, if_neg (by simp [publish]), if_pos (by simp [publish])] at chosen
          exact (Option.some.inj chosen).symm
        rw [ip, claimant]
        exact same
    · rw [finish_ip_of_idle (arbitrate_of_busy free)]
      exact same

end Sys2Proof.Machine
end

section
/-! PROOF support. What becomes of a transaction that arrives at the processor port: a page address, a page write that
is judged, a read's wait, and the transactions that are forwarded or held (R24 to R31, R173). -/

namespace Sys2Proof.Machine

variable {s : State} {t : HostTxn}

/-- A transaction becomes the pass-through claim (R26). -/
def State.claimedBy (s : State) (t : HostTxn) (page : Option (BitVec 8)) : State :=
  { s with ip := { s.ip with host := some { txn := t, wait := .claiming, page := page } } }

theorem occupy_claiming (t : HostTxn) (page : Option (BitVec 8)) (s : State) :
    occupy t .claiming page s = s.claimedBy t page := rfl

/-- A transaction that has been answered stands at the port no more, so nothing claims (R28). -/
theorem answered_passClaims (s : State) (ok : Bool) : (s.answered ok).ip.passClaims = false := rfl

/-! ### Targets (R24) -/

/-- The page's addresses are those at its offsets from the page base. -/
theorem target_of_page (off : BitVec 8) (s : State) : s.target' (s.ctl.pageBase + off.setWidth 18) = .page off := by
  have offset : s.pageOffset (s.ctl.pageBase + off.setWidth 18) = off.toNat := by
    rw [State.pageOffset, BitVec.add_comm, BitVec.add_sub_cancel, BitVec.toNat_setWidth]
    omega
  have inPage : off.toNat < 256 := off.isLt
  simp only [State.target', offset, inPage, if_true, BitVec.ofNat_toNat, BitVec.setWidth_eq]

/-! ### Page writes (R29, R173) -/

theorem decodeTxn_of_page_read {off : BitVec 8} (page : s.target' t.addr = .page off) (read : t.write = false) :
    decodeTxn t s = s.claimedBy t none := by
  simp only [decodeTxn, page, read, Bool.false_eq_true, if_false, occupy_claiming]

theorem decodeTxn_of_page_write {off : BitVec 8} (page : s.target' t.addr = .page off) (write : t.write = true) :
    decodeTxn t s = pageWrite off t s := by
  simp only [decodeTxn, page, write, if_true]

/-- A page write is refused with the cause of its judgment, or forwarded where there is none. -/
theorem pageWrite_eq (off : BitVec 8) (t : HostTxn) (s : State) :
    pageWrite off t s
      = (s.judgePage off.toNat t).elim (s.claimedBy t (some off)) fun c => (s.raised c).answered false := by
  simp only [pageWrite, refuse_eq, occupy_claiming]
  cases s.judgePage off.toNat t <;> rfl

/-! ### Windows (R26 to R28) -/

theorem decodeTxn_of_window_read {e : WindowEntry} (window : s.target' t.addr = .window e) (read : t.write = false) :
    decodeTxn t s = occupy t (s.windowReadWait e t.addr) none s := by
  simp only [decodeTxn, window, read, Bool.false_eq_true, if_false]

theorem windowWrite_of_guarded {e : WindowEntry}
    (code : 5 ≤ e.code.toNat ∧ e.code.toNat ≤ 9 ∨ e.code.toNat = 12 ∨ e.code.toNat = 13) :
    windowWrite e t s = (s.raised .guardedWrite).answered false := by
  simp only [windowWrite, refuse_eq]
  rw [if_neg (by omega), if_neg (by omega)]

theorem windowReadWait_of_held {e : WindowEntry} (code : e.code.toNat ≤ 9) (a : Addr) :
    s.windowReadWait e a = s.ip.readWait a := if_pos code

theorem windowReadWait_of_report {e : WindowEntry} (code : e.code.toNat = 12) (a : Addr) :
    s.windowReadWait e a
      = if a.toNat - e.base.toNat < 64 ∧ s.rw.writing = some (recordOf (a.toNat - e.base.toNat)) then
          .onRecord (recordOf (a.toNat - e.base.toNat))
        else .claiming := by
  simp only [State.windowReadWait]
  rw [if_neg (by omega), if_pos code]

theorem windowReadWait_of_free {e : WindowEntry} (code : 10 ≤ e.code.toNat) (other : e.code.toNat ≠ 12) (a : Addr) :
    s.windowReadWait e a = .claiming := by
  simp only [State.windowReadWait]
  rw [if_neg (by omega), if_neg other]

theorem decodeTxn_of_feedback {e : WindowEntry} (window : s.target' t.addr = .window e)
    (code : e.code.toNat = 10 ∨ e.code.toNat = 11) : decodeTxn t s = s.claimedBy t none := by
  cases kind : t.write with
  | false =>
    rw [decodeTxn_of_window_read window kind, windowReadWait_of_free (by omega) (by omega), occupy_claiming]
  | true =>
    simp only [decodeTxn, window, kind, if_true, windowWrite, occupy_claiming]
    rw [if_neg (by omega), if_pos code]

/-! ### Outside every window (R26, R39) -/

theorem decodeTxn_of_outside (outside : s.target' t.addr = .outside)
    (forwarded : t.write = true ∨ s.ctl.part ≠ .setup) : decodeTxn t s = s.claimedBy t none := by
  simp only [decodeTxn, outside, occupy_claiming]
  rw [if_neg]
  rcases forwarded with write | part
  · simp [write]
  · simp [part]

theorem decodeTxn_of_setup_read (outside : s.target' t.addr = .outside) (read : t.write = false)
    (part : s.ctl.part = .setup) : decodeTxn t s = occupy t (s.ip.readWait t.addr) none s := by
  simp only [decodeTxn, outside]
  rw [if_pos (by simp [read, part])]

/-! ### The wait of a read (R30) -/

theorem readWait_eq (ip : Interposer) (a : Addr) :
    ip.readWait a
      = if ip.pendingIds a = [] then .claiming else .onEntries (ip.pendingIds a) (ip.watched a) := by
  simp only [Interposer.readWait]
  split
  · rename_i none; rw [if_pos none]
  · rename_i some; rw [if_neg some]

/-- The flight for an address, if there is one. -/
def Interposer.flyingTo (ip : Interposer) (a : Addr) : List QueueEntry := ip.flying.toList.filter fun e => e.addr = a

/-- The queued entries for an address. -/
def Interposer.queuedTo (ip : Interposer) (a : Addr) : List QueueEntry := ip.queue.filter fun e => e.addr = a

theorem pendingIds_eq (ip : Interposer) (a : Addr) :
    ip.pendingIds a = (ip.flyingTo a ++ ip.queuedTo a).map (·.id) := by
  simp only [Interposer.pendingIds, List.filter_append, Interposer.flyingTo, Interposer.queuedTo]

/-- A flight alone is watched for the first entry that joins during it. -/
theorem watched_eq (ip : Interposer) (a : Addr) :
    ip.watched a = if ip.queuedTo a = [] then (ip.flyingTo a).head?.map (·.id) else none := by
  have queued : ip.queuedTo a = [] ↔ ¬ (ip.queue.any fun q => q.addr = a) := by
    simp [Interposer.queuedTo, List.filter_eq_nil_iff]
  simp only [Interposer.watched, Interposer.flyingTo, queued]
  cases ip.flying with
  | none => simp
  | some e =>
    by_cases at' : e.addr = a
    · simp [at']
    · simp [at']

end Sys2Proof.Machine
end

section
/-! PROOF of `Obligations.GuardedWriteIsRefused`. -/

namespace Sys2Proof.Machine

/-- Settles O13: the decoder refuses by the window's code, or by the page's judgment, and an answered transaction
is gone. -/
theorem guardedWriteIsRefused : Obligations.GuardedWriteIsRefused := by
  refine fun addr data lanes s host => ⟨fun e _ window code => ⟨?_, answered_passClaims ..⟩,
    fun off c served page refused => ⟨?_, answered_passClaims ..⟩⟩
  · change Host.Outcome.next (finish (hostArrive (laneWrite addr data lanes) s)) = _
    rw [hostArrive_of_window host (t := laneWrite addr data lanes) window rfl, windowWrite_of_guarded code]
  · change Host.Outcome.next (finish (hostArrive (laneWrite addr data lanes) s)) = _
    have refused : s.judgePage off.toNat (laneWrite addr data lanes) = some c := refused
    rw [hostArrive_of_served host served, decodeTxn_of_page_write (t := laneWrite addr data lanes) page rfl,
      pageWrite_eq, refused]
    rfl

end Sys2Proof.Machine
end

section
/-! PROOF of `Obligations.PageWriteIsJudged`. -/

namespace Sys2Proof.Machine

/-- The judgment of a page write, row by row of R173's table. -/
theorem judgePage_eq (s : State) (off : Nat) (t : HostTxn) :
    s.judgePage off t
      = if t.lanes ≠ fullLanes then some .partialWrite
        else if off < 0x30 then (if s.ctl.part = .setup then none else some .configCollision)
        else if 0x40 ≤ off ∧ off < 0xA0 then (if tuningInRange off t.data then none else some .guardedWrite)
        else if 0xC0 ≤ off ∧ off ≤ 0xC2 then none
        else some .guardedWrite := by
  have command : (off = 0xC0 ∨ off = 0xC1 ∨ off = 0xC2) ↔ 0xC0 ≤ off ∧ off ≤ 0xC2 := by omega
  simp only [State.judgePage, command]

/-- Settles O16: the address stands at its offset in the page, and each row of the judgment is refused or forwarded. -/
theorem pageWriteIsJudged : Obligations.PageWriteIsJudged := by
  intro off data lanes s host served refused claimed o
  let t := laneWrite (s.ctl.pageBase + off.setWidth 18) data lanes
  have judged : pageWrite off t s = (s.judgePage o t).elim claimed refused := pageWrite_eq off t s
  have page : s.target' t.addr = .page off := target_of_page off s
  change Host.Outcome.next (finish (hostArrive t s)) = _
  rw [hostArrive_of_served host served, decodeTxn_of_page_write page rfl, judged, judgePage_eq]
  simp only [apply_ite fun x : Option Cause => x.elim claimed refused, Option.elim_none, Option.elim_some]
  rfl

end Sys2Proof.Machine
end

section
/-! PROOF of `Obligations.TransactionsClaimOrAreHeld`. -/

namespace Sys2Proof.Machine

theorem hostArrive_of_held {s : State} (host : s.ip.host = none) (part : s.ctl.part = .publish ∨ s.ctl.part = .waking)
    (t : HostTxn) : hostArrive t s = occupy t .untilServed none s := by
  simp only [hostArrive, host, Option.isSome_none, Bool.false_eq_true, if_false]
  rcases part with part | part <;> rw [part]

theorem hostArrive_of_standby {s : State} (host : s.ip.host = none) (part : s.ctl.part = .standby) (t : HostTxn) :
    hostArrive t s = startWaking (occupy t .untilServed none s) := by
  simp only [hostArrive, host, Option.isSome_none, Bool.false_eq_true, if_false, part]

theorem hostArrive_of_reset {s : State} (part : s.ctl.part = .reset) (t : HostTxn) : hostArrive t s = s := by
  simp only [hostArrive, part, ite_self]

/-- Every row of a host transaction is an arrival at the processor port. -/
theorem hostRow_arrives {row : Instr} {t : HostTxn} {addr : Addr} {lanes : BitVec 4} {data : Word} {order : Fin 120}
    {off : BitVec 8} (s : State)
    (h : row ∈ [Instr.hostTransactionForwarded t, .hostTransactionHeld t, .busWake t, .hostRead addr lanes,
      .tractionOrBrakeWrite addr data, .modeWrite addr data order, .partialWriteRefused addr data lanes,
      .guardedWriteRefused addr data lanes, .configPageWrite off data lanes]) :
    ∃ t, exec row s = .next (finish (hostArrive t s)) := by
  simp only [List.mem_cons, List.not_mem_nil, or_false] at h
  rcases h with rfl | rfl | rfl | rfl | rfl | rfl | rfl | rfl | rfl <;> exact ⟨_, rfl⟩

/-- Settles O14: the decoder's forwarded targets, and what an arrival meets in the states that are not served. -/
theorem transactionsClaimOrAreHeld : Obligations.TransactionsClaimOrAreHeld := by
  refine ⟨fun t s host served target => ?_, fun t s host => ⟨fun part => ?_, fun part => ?_, ?_⟩⟩
  · have forwarded : decodeTxn t s = s.claimedBy t none := by
      rcases target with ⟨outside, kind⟩ | ⟨e, window, code⟩ | ⟨e, window, code, read⟩ | ⟨off, page, read⟩
      · exact decodeTxn_of_outside outside kind
      · exact decodeTxn_of_feedback window code
      · rw [decodeTxn_of_window_read window read, windowReadWait_of_free (by omega) (by omega), occupy_claiming]
      · exact decodeTxn_of_page_read page read
    change Host.Outcome.next (finish (hostArrive t s)) = _
    rw [hostArrive_of_served host served, forwarded]
    rfl
  · change Host.Outcome.next (finish (hostArrive t s)) = _
    rw [hostArrive_of_held host part]
    rfl
  · change Host.Outcome.next (finish (hostArrive t s)) = _
    have waking : startWaking (occupy t .untilServed none s) = _ := if_pos part
    rw [hostArrive_of_standby host part, waking]
    rfl
  · intro part addr data lanes order off row listed
    obtain ⟨t, arrives⟩ := hostRow_arrives s listed
    rw [arrives, hostArrive_of_reset part]

end Sys2Proof.Machine
end

section
/-! PROOF of `Obligations.ReadsWaitForWhatIsBeingWritten`. -/

namespace Sys2Proof.Machine

/-- A hold on write-backs stands while one of them does (R30, R32). -/
theorem released_onEntries (ids entries : List Nat) (watch writing : Option Nat) :
    (HostWait.onEntries ids watch).released entries writing
      = if ∃ i ∈ ids, i ∈ entries then .onEntries ids watch else .claiming := by
  simp [HostWait.released]

theorem releaseHolds_of_host {s : State} {h : HostSlot} (host : s.ip.host = some h) :
    releaseHolds s
      = { s with ip := { s.ip with host := some { h with wait := h.wait.released s.ip.ids s.rw.writing } } } := by
  simp only [releaseHolds, host, Option.map_some]

/-- Settles O15: a read stands at the port with the wait that its target gives it, and a hold ends as it is released. -/
theorem readsWaitForWhatIsBeingWritten : Obligations.ReadsWaitForWhatIsBeingWritten := by
  refine ⟨fun addr lanes s host served target => ?_, fun addr lanes e s host served window code => ?_,
    fun h s host => ?_⟩
  · intro flying queued ids wait
    have waits : s.ip.readWait addr = wait := by
      rw [readWait_eq, pendingIds_eq, watched_eq]
      simp only [List.map_eq_nil_iff]
      rfl
    have occupied : decodeTxn (hostReadTxn addr lanes) s = occupy (hostReadTxn addr lanes) wait none s := by
      rcases target with ⟨e, window, code⟩ | ⟨outside, part⟩
      · rw [decodeTxn_of_window_read (t := hostReadTxn addr lanes) window rfl, windowReadWait_of_held code]
        exact congrArg (occupy _ · none s) waits
      · rw [decodeTxn_of_setup_read (t := hostReadTxn addr lanes) outside rfl part]
        exact congrArg (occupy _ · none s) waits
    change Host.Outcome.next (finish (hostArrive (hostReadTxn addr lanes) s)) = _
    rw [hostArrive_of_served host served, occupied]
    rfl
  · intro off wait
    change Host.Outcome.next (finish (hostArrive (hostReadTxn addr lanes) s)) = _
    rw [hostArrive_of_served host served, decodeTxn_of_window_read (t := hostReadTxn addr lanes) window rfl,
      windowReadWait_of_report code]
    rfl
  · intro wait
    rw [releaseHolds_of_host host]
    have released : h.wait.released s.ip.ids s.rw.writing = wait := by
      obtain ⟨txn, w, page⟩ := h
      cases w with
      | onEntries ids watch => exact released_onEntries ids s.ip.ids watch s.rw.writing
      | untilServed | onRecord | claiming | onPort => rfl
    rw [released]

end Sys2Proof.Machine
end

section
/-! PROOF of `Obligations.PublishWritesTheImage`: a write of the default image ends, and the next one or
SETUP follows. -/

namespace Sys2Proof.Machine

variable {s : State}

/-! ### A write of the image ends (R172) -/

/-- A write that is done, or that has failed a third time, is over. -/
theorem publishEnd_of_ended {ok : Bool} (ended : ok = true ∨ 2 ≤ s.ctl.publishAttempts) :
    publishEnd ok s
      = if s.ctl.publishOffset = 0xFF then enterSetup (raiseIf (!ok) .memoryFault (freePort s))
        else
          withCtl (fun c => { c with publishOffset := c.publishOffset + 1, publishAttempts := 0 })
            (raiseIf (!ok) .memoryFault (freePort s)) := by
  have skipped : (!ok && decide (3 ≤ s.ctl.publishAttempts + 1)) = !ok := by
    rcases ended with rfl | late
    · rfl
    · rw [decide_eq_true (by omega), Bool.and_true]
  have done : (ok || !ok) = true := by cases ok <;> rfl
  simp only [publishEnd, skipped, done, if_true]
  rfl

/-- An earlier attempt that fails is made again. -/
theorem publishEnd_of_retry (early : s.ctl.publishAttempts < 2) :
    publishEnd false s = withCtl (fun c => { c with publishAttempts := c.publishAttempts + 1 }) (freePort s) := by
  have kept : (!false && decide (3 ≤ s.ctl.publishAttempts + 1)) = false := by
    rw [decide_eq_false (by omega), Bool.and_false]
  simp only [publishEnd, kept]
  rfl

theorem exec_publishWordCompletion (h : s.awaits .publish = true) (r : MemEnd) :
    exec (.publishWordCompletion r) s = .next (finish (publishWordEnd (isDone r) s)) := by
  change Host.Outcome.next (finish (completion .publish (s.onPort .publish) (publishWordEnd (isDone r)) s)) = _
  rw [completion_of_awaits h]

theorem publishWordEnd_of_publish {ok : Bool} (part : (publishEnd ok s).ctl.part = .publish) :
    publishWordEnd ok s = publishEnd ok s := if_neg (by simp [part])

/-- In PUBLISH the publish writer is granted its next word (R42, R172). -/
theorem arbitrate_of_publish (part : s.ctl.part = .publish) (free : s.ip.port = none) :
    arbitrate s = grantPublish s := by
  have chosen : s.chosen = some .publish := by rw [State.chosen, if_neg (by simp [part]), if_pos part]
  exact arbitrate_of_chosen free chosen

/-- What a command leaves that frees the publish writer's port and stays in PUBLISH: the controller and the reporter as
the command leaves them, and the word due on the port. -/
theorem finish_publishing {f : Controller → Controller} (part : (f s.ctl).part = .publish)
    (base : (f s.ctl).pageBase = s.ctl.pageBase) (fault : Bool) :
    let t := finish (withCtl f (raiseIf fault .memoryFault (freePort s)))
    t.ctl = f s.ctl ∧ t.rep = (if fault then s.rep.raise .memoryFault else s.rep)
      ∧ (∃ p, t.ip.port = some p ∧ p.claimant = .publish ∧ p.write = true
          ∧ p.addr = s.ctl.pageBase + t.ctl.publishOffset.setWidth 18
          ∧ p.data = defaultWord t.ctl.publishOffset.toNat)
      ∧ t = { s with ctl := t.ctl, rep := t.rep, ip := t.ip, lines := t.lines } := by
  intro t
  let x := releaseHolds (withCtl f (raiseIf fault .memoryFault (freePort s)))
  have granted : arbitrate x = grantPublish x := arbitrate_of_publish part rfl
  have eq : t = { grantPublish x with lines := t.lines } := by
    rw [← granted]
    rfl
  rw [eq]
  exact ⟨rfl, rfl, ⟨_, rfl, rfl, rfl, congrArg (· + _) base, rfl⟩, rfl⟩

/-! ### Entry to SETUP from PUBLISH (R64, R79, R189) -/

/-- The report timer starts; with no update in progress one begins, and else one is pending (R189). -/
theorem reportStart_of_idle (idle : s.rw.update = none) :
    (reportStart s).rw = { s.rw with timer := s.timer s.reportLength, update := some s.newUpdate } := by
  simp only [reportStart, reportEnd, updateDue, idle]
  rfl

theorem reportStart_of_writing (writing : s.rw.update ≠ none) :
    (reportStart s).rw = { s.rw with timer := s.timer s.reportLength, pendingUpdate := true } := by
  obtain ⟨u, update⟩ := Option.ne_none_iff_exists'.1 writing
  simp only [reportStart, reportEnd, updateDue, update]

theorem enterSetup_rw_of_idle (idle : s.rw.update = none) :
    (enterSetup s).rw
      = { s.rw with
          timer := s.timer s.reportLength
          update := some { window := none, record := 0, word := 0, contents := none, stopping := false } } :=
  reportStart_of_idle idle

theorem enterSetup_rw_of_writing (writing : s.rw.update ≠ none) :
    (enterSetup s).rw = { s.rw with timer := s.timer s.reportLength, pendingUpdate := true } :=
  reportStart_of_writing writing

/-- A completion that ends the image's last word leads to SETUP, where a held transaction is decoded. -/
theorem publishWordEnd_of_last {ok : Bool} (last : s.ctl.publishOffset = 0xFF)
    (ended : ok = true ∨ 2 ≤ s.ctl.publishAttempts) :
    publishWordEnd ok s = serveHeld (enterSetup (raiseIf (!ok) .memoryFault (freePort s))) := by
  have entered := publishEnd_of_ended ended
  rw [if_pos last] at entered
  rw [publishWordEnd, entered]
  exact if_pos rfl

/-- Settles O8: what a write's end does to the controller, and then the grant of the next word, or entry to SETUP. -/
theorem publishWritesTheImage : Obligations.PublishWritesTheImage := by
  refine ⟨fun r s awaits part going => ⟨_, exec_publishWordCompletion awaits r, ?_⟩,
    fun r s awaits part last ended => ?_⟩
  · by_cases ended : isDone r = true ∨ 2 ≤ s.ctl.publishAttempts
    · have more : s.ctl.publishOffset ≠ 0xFF := going.resolve_right fun retry => by
        rcases ended with finished | late
        · simp [finished] at retry
        · omega
      have moved := publishEnd_of_ended ended
      rw [if_neg more] at moved
      obtain ⟨ctl, rep, port, frame⟩ := finish_publishing (s := s)
        (f := fun c => { c with publishOffset := c.publishOffset + 1, publishAttempts := 0 }) part rfl (!isDone r)
      rw [publishWordEnd_of_publish (by rw [moved]; exact part), moved, if_pos ended]
      have faulted : (!isDone r) = true ↔ isDone r = false ∧ 2 ≤ s.ctl.publishAttempts := by
        rw [Bool.not_eq_true']
        exact ⟨fun failed => ⟨failed, ended.resolve_left (by simp [failed])⟩, And.left⟩
      exact ⟨ctl, by simpa only [faulted] using rep, port, frame⟩
    · obtain ⟨failed, early⟩ : isDone r = false ∧ s.ctl.publishAttempts < 2 := by simpa using ended
      have moved := publishEnd_of_retry early
      obtain ⟨ctl, rep, port, frame⟩ := finish_publishing (s := s)
        (f := fun c => { c with publishAttempts := c.publishAttempts + 1 }) part rfl false
      rw [failed, publishWordEnd_of_publish (by rw [moved]; exact part), moved, if_neg (by simpa using early)]
      exact ⟨ctl, rep.trans (if_neg (by omega)).symm, port, frame⟩
  · let freed := raiseIf (!isDone r) .memoryFault (freePort s)
    refine ⟨enterSetup freed, fun free => ?_, fun h host held => ?_, rfl, fun i => PerAxle.get_build .., rfl, rfl, ?_,
      fun idle => ?_, fun writing => ?_, rfl, ?_, rfl, rfl⟩
    · have served : serveHeld (enterSetup freed) = enterSetup freed := serveHeld_of_not_held free
      rw [exec_publishWordCompletion awaits, publishWordEnd_of_last last ended, served]
    · have served : serveHeld (enterSetup freed) = _ := serveHeld_of_held host held
      rw [exec_publishWordCompletion awaits, publishWordEnd_of_last last ended, served]
    · by_cases idle : freed.rw.update = none
      · rw [enterSetup_rw_of_idle idle]
        rfl
      · rw [enterSetup_rw_of_writing idle]
        rfl
    · rw [enterSetup_rw_of_idle (s := freed) idle]
      exact ⟨rfl, rfl⟩
    · rw [enterSetup_rw_of_writing (s := freed) writing]
      exact ⟨rfl, rfl⟩
    · change (if (!isDone r) = true then _ else _) = _
      cases isDone r <;> rfl

end Sys2Proof.Machine
end

section
/-! PROOF support. A completion at the memory port: which of the host's, the write-back queue's, the fetcher's and the
report writer's transactions it ends, by the rows that name it (R26, R36, R37, R43, R45, R174, R189; log 44). -/

namespace Sys2Proof.Machine

variable {s : State}

/-! ### Completions that act, and those that are late (R43; log 44) -/

theorem exec_forwardedCompletion (h : s.awaits .passThrough = true) (r : MemEnd) :
    exec (.forwardedCompletion r) s = .next (finish (passEnd r s)) := by
  change Host.Outcome.next (finish (completion .passThrough (s.onPort .passThrough) (passEnd r) s)) = _
  rw [completion_of_awaits h]

theorem exec_writebackDone (h : s.awaits .queue = true) : exec .writebackDone s = .next (finish (landFlight s)) := by
  change Host.Outcome.next (finish (completion .queue (s.onPort .queue) writebackDone s)) = _
  rw [completion_of_awaits h]
  rfl

theorem exec_fetchReadCompletion (h : s.awaits .fetcher = true) (r : MemEnd) :
    exec (.fetchReadCompletion r) s = .next (finish (fetchRead r s)) := by
  change Host.Outcome.next (finish (completion .fetcher (s.onPort .fetcher) (fetchRead r) s)) = _
  rw [completion_of_awaits h]

theorem exec_reportWordCompletion (h : s.awaits .report = true) (r : MemEnd) :
    exec (.reportWordCompletion r) s = .next (finish (reportWordEnd (isDone r) s)) := by
  change Host.Outcome.next (finish (completion .report (s.onPort .report) (reportWordEnd (isDone r)) s)) = _
  rw [completion_of_awaits h]

/-- A completion that is owed, with no transaction for it on the port, is late. -/
theorem completion_of_late {c : Claimant} (owed : s.owed c = true) (f : State → State) :
    completion c false f s = s.lateAnswer c := by
  simp only [completion, owed, if_true, Bool.false_and, Bool.false_eq_true, if_false]

/-- With one on the port, a free value says whose completion it is. -/
theorem completion_of_owed {c : Claimant} (owed : s.owed c = true) (f : State → State) :
    completion c true f s = s.answerDrawn.lateAnswer c ∨ completion c true f s = f s.answerDrawn := by
  simp only [completion, owed, if_true, Bool.true_and]
  split
  · exact .inr rfl
  · exact .inl rfl

theorem completion_of_none {c : Claimant} (owed : s.owed c = false) (f : State → State) :
    completion c false f s = s := by
  rw [completion_of_not_owed owed, if_neg Bool.false_ne_true]

/-! ### Host transactions and page writes (R26, R174) -/

theorem passEnd_of_forwarded {h : HostSlot} (host : s.ip.host = some h) (page : h.page = none) (d : Word) :
    passEnd (.done d) s = s.completed true (readData h.txn d) := by
  simp only [passEnd, host, page]
  rfl

theorem passEnd_of_fault {h : HostSlot} (host : s.ip.host = some h) :
    passEnd .fault s = (s.completed false 0).counted .forwardFault := by
  simp only [passEnd, host]
  rfl

/-- CONFIG_WRITE_TAKEN takes any page write that stands on the port. -/
theorem exec_configWriteTaken {off : BitVec 8} {w : Word} (h : s.pageStands off w) :
    exec .configWriteTaken s = .next (finish (takePage off w (s.completed true 0))) := by
  change Host.Outcome.next (finish (takenOnPort (fun _ _ => true) s)) = _
  rw [takenOnPort_of_stands h rfl]

theorem takePage_of_structure {off : BitVec 8} (h : off.toNat < 0x30) (w : Word) (s : State) :
    takePage off w s = takeStructure off.toNat w s := by
  simp only [takePage]
  rw [if_neg (by omega), if_neg (by omega), if_neg (by omega), if_pos h]

theorem takePage_of_tuning {off : BitVec 8} (low : 0x40 ≤ off.toNat) (high : off.toNat < 0xA0) (w : Word) (s : State) :
    takePage off w s = takeTuning off.toNat w s := by
  simp only [takePage]
  rw [if_neg (by omega), if_neg (by omega), if_neg (by omega), if_neg (by omega)]

/-- A structure word of no axle channel replaces its items and no more (R174). -/
theorem takeStructure_of_no_channel {off : Nat} (h : off < 0x10 ∨ 0x16 ≤ off) (w : Word) (s : State) :
    takeStructure off w s = { s with cfg := { s.cfg with str := s.cfg.str.setWord off w } } := by
  have none : Axle.ofOffset off = none := by
    simp only [Axle.ofOffset]
    split
    case h_7 => rfl
    all_goals omega
  simp only [takeStructure, none]

theorem limitsAt_none {off : Nat} (h : off < 0x40 ∨ 0x43 ≤ off) : limitsAt off = none := by
  simp only [limitsAt]
  split
  case h_4 => rfl
  all_goals omega

theorem refreshAt_none {off : Nat} (h : off < 0x44 ∨ 0x47 ≤ off) : refreshAt off = none := by
  simp only [refreshAt]
  split
  case h_4 => rfl
  all_goals omega

theorem sanderOfOffset_none {off : Nat} (h : off < 0x72 ∨ 0x76 ≤ off) : SanderId.ofOffset off = none := by
  simp only [SanderId.ofOffset]
  split
  case h_5 => rfl
  all_goals omega

/-- A tuning word that no block acts on replaces its items and no more (R174). -/
theorem takeTuning_of_no_block {off : Nat} (h : off = 0x43 ∨ 0x47 ≤ off ∧ off < 0x72 ∨ 0x76 ≤ off)
    (correction : off ≠ 0x59) (ceiling : off ≠ 0x5D) (w : Word) (s : State) : takeTuning off w s = s.tuned off w := by
  simp only [takeTuning, tuningActs, limitsAt_none (off := off) (by omega), refreshAt_none (off := off) (by omega),
    sanderOfOffset_none (off := off) (by omega), if_neg correction, if_neg ceiling]
  rfl

end Sys2Proof.Machine
end

section
/-! PROOF of `Obligations.HostCompletionsAreGivenAndTaken`. -/

namespace Sys2Proof.Machine

/-- A row that takes page writes takes one that it names as CONFIG_WRITE_TAKEN does (R174). -/
theorem takenOnPort_eq_configWriteTaken {s : State} {off : BitVec 8} {w : Word} (h : s.pageStands off w)
    {p : Nat → Word → Bool} (row : p off.toNat w = true) :
    Host.Outcome.next (finish (takenOnPort p s)) = exec .configWriteTaken s := by
  rw [takenOnPort_of_stands h row, exec_configWriteTaken h]

/-- Settles O17: the end of a pass-through transaction, and the taking of a page word by its section. -/
theorem hostCompletionsAreGivenAndTaken : Obligations.HostCompletionsAreGivenAndTaken := by
  refine ⟨fun h s awaits host => ⟨fun d page => ?_, ?_⟩,
    fun off w s stands => ⟨fun at' => ?_, fun at' correction ceiling => ?_⟩, fun off w s stands => ?_⟩
  · rw [exec_forwardedCompletion awaits, passEnd_of_forwarded host page]
    rfl
  · rw [exec_forwardedCompletion awaits, passEnd_of_fault host]
  · rw [exec_configWriteTaken stands, takePage_of_structure (by omega), takeStructure_of_no_channel (by omega)]
    rfl
  · rw [exec_configWriteTaken stands, takePage_of_tuning (by omega) (by omega),
      takeTuning_of_no_block (by omega) correction ceiling]
    rfl
  · have taken {p : Nat → Word → Bool} (row : p off.toNat w = true) := takenOnPort_eq_configWriteTaken stands row
    refine ⟨fun at' value => ?_, fun at' value => ?_, fun at' value => ?_, fun at' value => ?_, fun at' value => ?_,
      fun at' => ?_, fun at' => ?_, fun low high => ?_, fun at' => ?_, fun at' => ?_, fun low high => ?_,
      fun low high => ?_⟩
    · exact taken (p := runWord (· = 1)) (by simp [runWord, at', value])
    · exact taken (p := runWord (· = 2)) (by simp [runWord, at', value])
    · exact taken (p := runWord (· = 3)) (by simp [runWord, at', value])
    · exact taken (p := runWord (· = 4)) (by simp [runWord, at', value])
    · exact taken (p := runWord fun v => v = 0 || 4 < v) (by simpa [runWord, at'] using value)
    · exact taken (p := fun off _ => off = 0xC1) (by simp [at'])
    · exact taken (p := fun off _ => off = 0xC2) (by simp [at'])
    · exact taken (p := fun off _ => 0x40 ≤ off && off ≤ 0x48) (by simp [low, high])
    · exact taken (p := fun off _ => off = 0x59) (by simp [at'])
    · exact taken (p := fun off _ => off = 0x5D) (by simp [at'])
    · exact taken (p := fun off _ => 0x72 ≤ off && off ≤ 0x75) (by simp [low, high])
    · exact taken (p := fun off _ => 0x10 ≤ off && off ≤ 0x15) (by simp [low, high])

end Sys2Proof.Machine
end

section
/-! PROOF of `Obligations.WriteBackDoneEmptiesTheSlot`. -/

namespace Sys2Proof.Machine

/-- Settles O32: the flight lands, and a read's hold stands while one of its entries is still queued. -/
theorem writeBackDoneEmptiesTheSlot : Obligations.WriteBackDoneEmptiesTheSlot := by
  refine fun s awaits => ⟨landFlight s, exec_writebackDone awaits, rfl, rfl, rfl, fun h ids watch host wait => ?_, rfl⟩
  have landed : (landFlight s).ip.host = some { h with wait := .onEntries ids none } := by
    change s.ip.host.map _ = _
    rw [host, Option.map_some, wait]
    rfl
  have left : (landFlight s).ip.ids = s.ip.queue.map (·.id) := rfl
  rw [releaseHolds_of_host landed, released_onEntries, left]

end Sys2Proof.Machine
end

section
/-! PROOF of `Obligations.TimeoutEndsAsFault`: timeouts by claimant, late completions, and rows that find nothing
to end. -/

namespace Sys2Proof.Machine

variable {s : State}

/-- What ends a claimant's transaction on the port when the memory completes it FAULT (R26, R37, R45, R172, R189). -/
def Claimant.faultEnd : Claimant → State → State
  | .publish => publishWordEnd false
  | .passThrough => passEnd .fault
  | .queue => writebackFailed
  | .fetcher => fetchRead .fault
  | .report => reportWordEnd false

/-- The transaction on the port times out, and its completion may still come (R43; log 44). -/
theorem portTimeout_of_port {p : PortTxn} (port : s.ip.port = some p) :
    portTimeout s
      = p.claimant.faultEnd { s with now := max s.now p.deadline, memory := s.memory.missed p.claimant } := by
  simp only [portTimeout, port]
  cases p.claimant <;> rfl

theorem onExpiry_of_stopped {t : Timer} (h : t = none) (f : State → State) (s : State) : onExpiry t f s = s := by
  rw [h]
  rfl

theorem completeEvaluation_of_none (h : s.ev.running = none) (order : Fin 24) : completeEvaluation order s = s := by
  simp only [completeEvaluation, h]

theorem portTimeout_of_free (h : s.ip.port = none) : portTimeout s = s := by
  simp only [portTimeout, h]

/-- A page write that does not stand on the port is none that a row can name (R174; log 7). -/
theorem pageOnPort_of_none (h : s.onPort .passThrough = false ∨ ∀ x, s.ip.host = some x → x.page = none)
    (p : Nat → Word → Bool) : s.pageOnPort p = false := by
  rcases h with off | other
  · simp only [State.pageOnPort, off, Bool.false_and]
  · cases host : s.ip.host with
    | none => simp [State.pageOnPort, host]
    | some x => simp [State.pageOnPort, host, other x host]

/-- The rows of page writes that are taken. -/
def pageRows : List Instr :=
  [.configWriteTaken, .goActive, .goSetup, .restart, .standby, .commandBadValue, .causeClear, .attentionMaskWrite]
    ++ [.intentTuningWrite, .correctionFloorWrite, .ceilingFloorWrite, .sanderTuningWrite, .channelStructureWrite]

/-- Each of them takes the page write that it names. -/
theorem exec_pageRow {row : Instr} (h : row ∈ pageRows) (s : State) :
    ∃ p, exec row s = .next (finish (completion .passThrough (s.pageOnPort p) (passEnd (.done 0)) s)) := by
  simp only [pageRows, List.cons_append, List.nil_append, List.mem_cons, List.not_mem_nil, or_false] at h
  rcases h with rfl | rfl | rfl | rfl | rfl | rfl | rfl | rfl | rfl | rfl | rfl | rfl | rfl <;> exact ⟨_, rfl⟩

/-- How a completion is judged where one of its claimant's is owed (R43; log 44). -/
theorem judged_of_owed {row : Instr} {c : Claimant} {f : State → State}
    (h : exec row s = .next (finish (completion c (s.onPort c) f s))) :
    (s.owed c = true → s.onPort c = false → exec row s = .next (finish (s.lateAnswer c)))
      ∧ (s.owed c = true → s.onPort c = true →
          exec row s = .next (finish (s.answerDrawn.lateAnswer c))
            ∨ exec row s = .next (finish (f s.answerDrawn))) := by
  refine ⟨fun owed off => ?_, fun owed on => ?_⟩
  · rw [h, off, completion_of_late owed]
  · rw [h, on]
    exact (completion_of_owed owed f).imp (fun e => by rw [e]) fun e => by rw [e]

/-- A completion of no transaction is ignored (log 7). -/
theorem idle_of_off_port {row : Instr} {c : Claimant} {f : State → State}
    (h : exec row s = .next (finish (completion c (s.onPort c) f s))) (off : s.onPort c = false)
    (owed : s.owed c = false) : exec row s = .next (finish s) := by
  rw [h, off, completion_of_none owed]

/-- An expiry of a timer that does not run is ignored (log 4). -/
theorem idle_of_stopped {row : Instr} {t : Timer} {f : State → State} (h : exec row s = .next (finish (onExpiry t f s)))
    (stopped : t = none) : exec row s = .next (finish s) := by
  rw [h, onExpiry_of_stopped stopped]

/-- Settles O34: a timeout by its claimant, a completion by what is owed and on the port, an expiry by its timer. -/
theorem timeoutEndsAsFault : Obligations.TimeoutEndsAsFault := by
  refine ⟨fun p s port => ?_, fun p h s port claimant host => ?_, fun r s => ?_⟩
  · intro late endsAs
    have timeout : exec .memoryPortTimeout s = .next (finish (p.claimant.faultEnd late)) :=
      congrArg (fun t => Host.Outcome.next (finish t)) (portTimeout_of_port port)
    have ends {row : Instr} (c : Claimant)
        (completes : ∀ x : State, x.awaits c = true → exec row x = .next (finish (c.faultEnd x)))
        (claimant : p.claimant = c) : endsAs row c.faultEnd := by
      subst claimant
      exact ⟨timeout, completes⟩
    exact ⟨ends .publish fun x awaits => exec_publishWordCompletion awaits .fault,
      ends .passThrough fun x awaits => exec_forwardedCompletion awaits .fault,
      ends .queue fun x awaits => exec_writebackFailed awaits,
      ends .fetcher fun x awaits => exec_fetchReadCompletion awaits .fault,
      ends .report fun x awaits => exec_reportWordCompletion awaits .fault⟩
  · intro late
    have timeout := portTimeout_of_port port
    rw [claimant] at timeout
    have ended : passEnd .fault late = (late.completed false 0).counted .forwardFault :=
      passEnd_of_fault (s := late) host
    exact congrArg (fun t => Host.Outcome.next (finish t)) (timeout.trans ended)
  · intro rows idle still
    refine ⟨⟨judged_of_owed rfl, judged_of_owed rfl, judged_of_owed rfl, judged_of_owed rfl, judged_of_owed rfl,
      judged_of_owed rfl, fun owed off row listed => ?_⟩, idle_of_off_port rfl, idle_of_off_port rfl,
      fun owed off row listed => ?_, fun off owed => ⟨idle_of_off_port rfl off owed, idle_of_off_port rfl off owed⟩,
      idle_of_off_port rfl, idle_of_off_port rfl, fun none order => ?_, fun free => ?_, idle_of_stopped rfl,
      fun x => idle_of_stopped rfl, idle_of_stopped rfl, idle_of_stopped rfl,
      fun i => ⟨idle_of_stopped rfl, idle_of_stopped rfl⟩, fun m => ⟨idle_of_stopped rfl, idle_of_stopped rfl⟩,
      idle_of_stopped rfl, fun i => ⟨idle_of_stopped rfl, idle_of_stopped rfl⟩, idle_of_stopped rfl,
      idle_of_stopped rfl, idle_of_stopped rfl, idle_of_stopped rfl, idle_of_stopped rfl⟩
    · obtain ⟨p, taken⟩ := exec_pageRow listed s
      rw [taken, pageOnPort_of_none (.inl off), completion_of_late owed]
      rfl
    · obtain ⟨p, taken⟩ := exec_pageRow listed s
      exact taken.trans (by rw [pageOnPort_of_none off, completion_of_none owed])
    · exact congrArg (fun t => Host.Outcome.next (finish t)) (completeEvaluation_of_none none order)
    · exact congrArg (fun t => Host.Outcome.next (finish t)) (portTimeout_of_free free)

end Sys2Proof.Machine
end

section
/-! PROOF of `Obligations.FetchesReadBothWords`: the fetcher's timer, the check of a word read, and the ends of a
fetch. -/

namespace Sys2Proof.Machine

variable {s : State}

/-! ### The fetcher's timer (R44) -/

theorem fetchEnd_of_idle (h : s.ip.fetch = none) :
    fetchEnd s
      = { s with
          ip :=
            { s.ip with
              fetchTimer := s.timer s.controlPeriod
              fetch := some { second := false, achA := none, withdrawn := false }, fetchWait := 0 } } := by
  simp [fetchEnd, countIf, h]

theorem fetchEnd_of_fetching (h : s.ip.fetch ≠ none) :
    fetchEnd s
      = { s with
          ip := { s.ip with fetchTimer := s.timer s.controlPeriod }
          rep := s.rep.bump Counter.fetchSkipped.number } := by
  have fetching : s.ip.fetch.isSome = true := Option.isSome_iff_ne_none.2 h
  simp only [fetchEnd, countIf, fetching, if_true]

theorem exec_fetcherTimerExpiry {d : Nat} (h : s.ip.fetchTimer = some d) :
    exec .fetcherTimerExpiry s = .next (finish (fetchEnd { s with now := max s.now d })) := by
  change Host.Outcome.next (finish (onExpiry s.ip.fetchTimer fetchEnd s)) = _
  rw [h]
  rfl

/-! ### The end of a fetch read (R45) -/

/-- A fetch read has ended: the port is free, and an invalid word is counted. -/
def State.fetched (s : State) (got : Option Int) : State :=
  { s with
    rep := if got = none then s.rep.bump Counter.feedbackRejected.number else s.rep
    ip := { s.ip with port := none } }

theorem fetchRead_of_withdrawn {f : Fetch} (h : s.ip.fetch = some f) (withdrawn : f.withdrawn = true) (r : MemEnd) :
    fetchRead r s = { s.fetched (achievedBy r) with ip := { s.ip with port := none, fetch := none } } := by
  simp only [fetchRead, h, withdrawn, if_true, countIf, State.fetched, Option.isNone_iff_eq_none]

theorem fetchRead_of_first {f : Fetch} (h : s.ip.fetch = some f) (stands : f.withdrawn = false)
    (first : f.second = false) (r : MemEnd) :
    fetchRead r s
      = { s.fetched (achievedBy r) with
          ip :=
            { s.ip with
              port := none, fetch := some { second := true, achA := achievedBy r, withdrawn := false }
              fetchWait := 0 } } := by
  simp only [fetchRead, h, stands, first, Bool.false_eq_true, if_false, countIf, State.fetched,
    Option.isNone_iff_eq_none]

theorem fetchRead_of_second {f : Fetch} (h : s.ip.fetch = some f) (stands : f.withdrawn = false)
    (second : f.second = true) (r : MemEnd) :
    fetchRead r s
      = feedbackDelivery ⟨f.achA, achievedBy r⟩
          { s.fetched (achievedBy r) with ip := { s.ip with port := none, fetch := none } } := by
  simp only [fetchRead, h, stands, second, Bool.false_eq_true, if_false, if_true, countIf, State.fetched,
    Option.isNone_iff_eq_none]

/-- A delivery stores both achieved efforts and reports an invalid word, and the allocator runs (R130). -/
theorem feedbackDelivery_eq (x : PerMotor (Option Int)) (s : State) :
    feedbackDelivery x s
      = runServing
          { s with
            rep :=
              if s.cfg.str.driveIsolated.a = false ∧ x.a = none ∨ s.cfg.str.driveIsolated.b = false ∧ x.b = none then
                s.rep.raise .feedbackInvalid
              else s.rep
            blend :=
              { s.blend with
                achieved :=
                  { a := some (if s.cfg.str.driveIsolated.a then 0 else x.a.getD 0)
                    b := some (if s.cfg.str.driveIsolated.b then 0 else x.b.getD 0) } } } := by
  have invalid : (s.feedbackInvalid x .a || s.feedbackInvalid x .b) = true
      ↔ s.cfg.str.driveIsolated.a = false ∧ x.a = none ∨ s.cfg.str.driveIsolated.b = false ∧ x.b = none := by
    simp [State.feedbackInvalid, PerMotor.get]
  simp only [feedbackDelivery, raiseIf, invalid]
  rfl

/-- Settles O35: the timer, the parse of a word, and a read's end by the stage of its fetch. -/
theorem fetchesReadBothWords : Obligations.FetchesReadBothWords := by
  refine ⟨fun d s timer => ?_, fun w => ⟨fun check tag => ?_, fun bad => ?_, rfl⟩, fun r f s awaits fetch => ?_⟩
  · intro at' next
    rw [exec_fetcherTimerExpiry timer]
    refine ⟨fun idle => ?_, fun fetching => ?_⟩
    · rw [fetchEnd_of_idle (s := { s with now := at' }) idle]
      rfl
    · rw [fetchEnd_of_fetching (s := { s with now := at' }) fetching]
      rfl
  · have tag : w.extractLsb' 16 4 = 8 := BitVec.eq_of_toNat_eq tag
    exact if_pos ⟨check, tag⟩
  · refine if_neg fun valid => ?_
    rcases bad with check | tag
    · exact check valid.1
    · exact tag (congrArg BitVec.toNat valid.2)
  · intro got rep
    rw [exec_fetchReadCompletion awaits]
    refine ⟨fun withdrawn => ?_, fun stands first => ?_, fun stands second => ?_⟩
    · rw [fetchRead_of_withdrawn fetch withdrawn]
      rfl
    · rw [fetchRead_of_first fetch stands first]
      rfl
    · intro invalid s1
      have delivered : fetchRead r s = runServing s1 := by
        rw [fetchRead_of_second fetch stands second, feedbackDelivery_eq]
        rfl
      rw [delivered]
      refine ⟨fun force => ?_, fun idle => ?_⟩
      · have runs : runServing s1 = run false false s1 := if_pos force
        rw [runs]
      · have waits : runServing s1 = s1 := if_neg (ne_true_of_eq_false idle)
        rw [waits]

end Sys2Proof.Machine
end

section
/-! PROOF support. Validation read as scans that stop at the first fault: the window entries, the role codes, the
allocation list, the axle channels and the bogie and chain section (R176). -/

namespace Sys2Proof.Machine

/-! ### A scan that stops at the first fault -/

/-- The first element of a list that is at fault beside those before it, with its place counted from `i`. -/
def firstFault {α : Type} (judge : List α → α → Option SetupFault) (i : Nat) (earlier : List α) :
    List α → Option Validation
  | [] => none
  | x :: rest =>
    match judge earlier x with
    | some f => faultAt f i
    | none => firstFault judge (i + 1) (earlier ++ [x]) rest

section Scan

variable {α : Type} {judge : List α → α → Option SetupFault}

theorem firstFault_cons_of_fault {i : Nat} {earlier : List α} {x : α} {f : SetupFault} (h : judge earlier x = some f)
    (rest : List α) : firstFault judge i earlier (x :: rest) = some { fault := f, place := i } := by
  simp only [firstFault, h]
  rfl

theorem firstFault_cons_of_pass {i : Nat} {earlier : List α} {x : α} (h : judge earlier x = none) (rest : List α) :
    firstFault judge i earlier (x :: rest) = firstFault judge (i + 1) (earlier ++ [x]) rest := by
  simp only [firstFault, h]

/-- Elements that pass are skipped. -/
theorem firstFault_append (i : Nat) (earlier before after : List α)
    (passes : ∀ b x a, before = b ++ x :: a → judge (earlier ++ b) x = none) :
    firstFault judge i earlier (before ++ after)
      = firstFault judge (i + before.length) (earlier ++ before) after := by
  induction before generalizing i earlier with
  | nil => simp
  | cons y rest ih =>
    have first : judge earlier y = none := by simpa using passes [] y rest rfl
    have others (b : List α) (x : α) (a : List α) (h : rest = b ++ x :: a) : judge (earlier ++ [y] ++ b) x = none := by
      simpa using passes (y :: b) x a (by rw [h]; rfl)
    rw [List.cons_append, firstFault_cons_of_pass first, ih _ _ others]
    have place : i + 1 + rest.length = i + (y :: rest).length := by rw [List.length_cons]; omega
    rw [place, List.append_assoc]
    rfl

/-- The answer is the first fault and its place. -/
theorem firstFault_of_first (i : Nat) (before after : List α) {x : α} {f : SetupFault} (h : judge before x = some f)
    (passes : ∀ b y a, before = b ++ y :: a → judge b y = none) :
    firstFault judge i [] (before ++ x :: after) = some { fault := f, place := i + before.length } := by
  rw [firstFault_append i [] before (x :: after) passes, List.nil_append, firstFault_cons_of_fault h]

/-- A list whose elements all pass has no fault. -/
theorem firstFault_of_passes (i : Nat) (l : List α) (passes : ∀ b y a, l = b ++ y :: a → judge b y = none) :
    firstFault judge i [] l = none := by
  have skipped := firstFault_append i [] l [] passes
  rwa [List.append_nil] at skipped

end Scan

/-! ### The window entries (R23, R176) -/

/-- The entries of a table that hold a window. -/
def usedEntries (l : List WindowEntry) : List WindowEntry := l.filter fun x => x.code ≠ 0

theorem mem_usedEntries {l : List WindowEntry} {x : WindowEntry} : x ∈ usedEntries l ↔ x ∈ l ∧ x.code ≠ 0 := by
  simp [usedEntries]

theorem usedEntries_append_unused {e : WindowEntry} (h : e.code = 0) (l : List WindowEntry) :
    usedEntries (l ++ [e]) = usedEntries l := by
  simp [usedEntries, h]

theorem usedEntries_append_used {e : WindowEntry} (h : e.code ≠ 0) (l : List WindowEntry) :
    usedEntries (l ++ [e]) = usedEntries l ++ [e] := by
  have single : [e].filter (fun x => x.code ≠ 0) = [e] := List.filter_cons_of_pos (decide_eq_true h)
  rw [usedEntries, List.filter_append, single]
  rfl

/-- A window entry's fault beside the entries before it; an entry of code 0 is skipped, and stands in no one's way. -/
def WindowEntry.judged (page : Nat) (earlier : List WindowEntry) (e : WindowEntry) : Option SetupFault :=
  if e.code = 0 then none else e.fault page (usedEntries earlier)

theorem validateWindows_eq (page i : Nat) (earlier ws : List WindowEntry) :
    validateWindows page i (usedEntries earlier) ws = firstFault (WindowEntry.judged page) i earlier ws := by
  induction ws generalizing i earlier with
  | nil => rfl
  | cons e rest ih =>
    by_cases unused : e.code = 0
    · have skipped : WindowEntry.judged page earlier e = none := if_pos unused
      rw [firstFault_cons_of_pass skipped, ← ih, usedEntries_append_unused unused]
      simp only [validateWindows, if_pos unused]
    · have judged : WindowEntry.judged page earlier e = e.fault page (usedEntries earlier) := if_neg unused
      simp only [validateWindows, if_neg unused]
      cases fault : e.fault page (usedEntries earlier) with
      | some f => rw [firstFault_cons_of_fault (judged.trans fault)]; rfl
      | none => rw [firstFault_cons_of_pass (judged.trans fault), ← ih, usedEntries_append_used unused]

theorem lengthFits_false {e : WindowEntry} :
    (!e.lengthFits) = true ↔ e.code.toNat ≤ 11 ∧ e.length ≠ 1 ∨ e.code.toNat = 12 ∧ e.length < 64 := by
  have report : e.code = 12 ↔ e.code.toNat = 12 := BitVec.toNat_inj.symm
  simp only [WindowEntry.lengthFits, report]
  split
  · simp; omega
  · split
    · simp; omega
    · simp; omega

theorem again_iff {e : WindowEntry} (known : e.code.toNat < 14) (used : e.code ≠ 0) (earlier : List WindowEntry) :
    e.again (usedEntries earlier) = true
      ↔ e.code.toNat ≤ 12 ∧ (∃ x ∈ earlier, x.code = e.code)
        ∨ e.code.toNat = 13 ∧ 4 ≤ earlier.countP (·.code = 13) := by
  have twice : (usedEntries earlier).any (fun x => x.code = e.code) = true ↔ ∃ x ∈ earlier, x.code = e.code := by
    simp only [List.any_eq_true, mem_usedEntries, decide_eq_true_eq]
    exact ⟨fun ⟨x, ⟨here, _⟩, code⟩ => ⟨x, here, code⟩, fun ⟨x, here, code⟩ => ⟨x, ⟨here, code ▸ used⟩, code⟩⟩
  have guards : ((usedEntries earlier).filter fun x => x.code = 13).length = earlier.countP (·.code = 13) := by
    rw [usedEntries, List.filter_filter, List.countP_eq_length_filter]
    congr 2
    funext x
    rw [Bool.eq_iff_iff, Bool.and_eq_true, decide_eq_true_eq, decide_eq_true_eq]
    exact and_iff_left_of_imp fun guard => by rw [guard]; decide
  simp only [WindowEntry.again, guards]
  split
  · rename_i low
    rw [twice]
    exact ⟨fun h => .inl ⟨low, h⟩, fun h => h.elim And.right fun other => by omega⟩
  · rename_i high
    rw [decide_eq_true_eq]
    exact ⟨fun h => .inr ⟨by omega, h⟩, fun h => h.elim (fun other => absurd other.1 high) And.right⟩

/-- The six tests of a window entry in their order (R176). -/
theorem judged_eq (page : Nat) (earlier : List WindowEntry) (e : WindowEntry) :
    WindowEntry.judged page earlier e
      = if e.code.toNat = 0 then none
        else if 14 ≤ e.code.toNat then some .badCode
        else if e.code.toNat ≤ 11 ∧ e.length ≠ 1 ∨ e.code.toNat = 12 ∧ e.length < 64 then some .badLength
        else if 262143 < e.last then some .range
        else if e.base.toNat ≤ page + 255 ∧ page ≤ e.last then some .configOverlap
        else if ∃ x ∈ earlier, x.code ≠ 0 ∧ e.base.toNat ≤ x.last ∧ x.base.toNat ≤ e.last then some .overlap
        else if e.code.toNat ≤ 12 ∧ (∃ x ∈ earlier, x.code = e.code)
          ∨ e.code.toNat = 13 ∧ 4 ≤ earlier.countP (·.code = 13) then some .roleTwice
        else none := by
  have unused : e.code = 0 ↔ e.code.toNat = 0 := BitVec.toNat_inj.symm
  have overlaps : (usedEntries earlier).any (fun x => meets e.base.toNat e.last x.base.toNat x.last) = true
      ↔ ∃ x ∈ earlier, x.code ≠ 0 ∧ e.base.toNat ≤ x.last ∧ x.base.toNat ≤ e.last := by
    simp only [List.any_eq_true, mem_usedEntries, meets, Bool.and_eq_true, decide_eq_true_eq, and_assoc]
  have onPage : meets e.base.toNat e.last page (page + 255) = true ↔ e.base.toNat ≤ page + 255 ∧ page ≤ e.last := by
    simp [meets]
  by_cases zero : e.code.toNat = 0
  · rw [if_pos zero]
    exact if_pos (unused.2 zero)
  by_cases known : e.code.toNat < 14
  · have again := again_iff known (mt unused.1 zero) earlier
    simp only [WindowEntry.judged, WindowEntry.fault, unused, zero, if_false, lengthFits_false, onPage, overlaps, again]
  · have fault : WindowEntry.judged page earlier e = e.fault page (usedEntries earlier) := if_neg (mt unused.1 zero)
    rw [fault, if_neg zero, if_pos (by omega)]
    exact if_pos (by omega)

/-! ### The role codes, the allocation list and the axle channels (R176) -/

/-- The lowest role code that stands in no entry. -/
theorem validateRoles_of_missing {ws : List WindowEntry} {k : Nat} (low : 1 ≤ k) (high : k ≤ 12)
    (missing : ∀ e ∈ ws, e.code.toNat ≠ k) (others : ∀ j, 1 ≤ j → j < k → ∃ e ∈ ws, e.code.toNat = j) :
    validateRoles ws = some { fault := .roleMissing, place := k } := by
  have found : ((List.range 12).map (· + 1)).find? (fun c => !(ws.any fun e => e.code.toNat = c)) = some k := by
    rw [List.find?_map, Option.map_eq_some_iff]
    refine ⟨k - 1, List.find?_range_eq_some.2 ⟨?_, List.mem_range.2 (by omega), fun j below => ?_⟩, by omega⟩
    · have place : k - 1 + 1 = k := by omega
      simpa [place] using missing
    · simpa using others (j + 1) (by omega) (by omega)
  simp only [validateRoles, found]
  rfl

theorem validateRoles_of_all {ws : List WindowEntry} (all : ∀ k, 1 ≤ k → k ≤ 12 → ∃ e ∈ ws, e.code.toNat = k) :
    validateRoles ws = none := by
  have found : ((List.range 12).map (· + 1)).find? (fun c => !(ws.any fun e => e.code.toNat = c)) = none := by
    refine List.find?_eq_none.2 fun c listed => ?_
    obtain ⟨j, below, rfl⟩ := List.mem_map.1 listed
    have below := List.mem_range.1 below
    simpa using all (j + 1) (by omega) (by omega)
  simp only [validateRoles, found]

/-- A place of the allocation list is bad where it names no source, or one that stands before it. -/
def judgedPlace (earlier : List (BitVec 3)) (x : BitVec 3) : Option SetupFault :=
  if 5 ≤ x.toNat ∨ x ∈ earlier then some .allocList else none

/-- The code of a source. -/
def Source.listCode : Source → BitVec 3
  | .edA => 0 | .edB => 1 | .frA => 2 | .frT => 3 | .frB => 4

theorem Source.ofCode_eq_some {c : BitVec 3} {x : Source} : Source.ofCode c = some x ↔ c = x.listCode := by
  revert c
  cases x <;> decide

theorem Source.ofCode_eq_none {c : BitVec 3} : Source.ofCode c = none ↔ 5 ≤ c.toNat := by
  revert c
  decide

theorem validateList_eq (place : Nat) (earlier l : List (BitVec 3)) :
    validateList place (earlier.filterMap Source.ofCode) l = firstFault judgedPlace place earlier l := by
  induction l generalizing place earlier with
  | nil => rfl
  | cons c rest ih =>
    have listed := ih (place + 1) (earlier ++ [c])
    rw [List.filterMap_append] at listed
    cases code : Source.ofCode c with
    | none =>
      have bad : judgedPlace earlier c = some .allocList := if_pos (.inl (Source.ofCode_eq_none.1 code))
      simp only [validateList, code]
      rw [firstFault_cons_of_fault bad]
      rfl
    | some x =>
      have seen : (earlier.filterMap Source.ofCode).contains x = true ↔ c ∈ earlier := by
        simp only [List.contains_iff_mem, List.mem_filterMap, Source.ofCode_eq_some, Source.ofCode_eq_some.1 code,
          exists_eq_right]
      have named : ¬ 5 ≤ c.toNat := fun high => by rw [Source.ofCode_eq_none.2 high] at code; cases code
      simp only [validateList, code, seen]
      by_cases repeated : c ∈ earlier
      · rw [if_pos repeated, firstFault_cons_of_fault (if_pos (.inr repeated))]
        rfl
      · rw [if_neg repeated, firstFault_cons_of_pass (if_neg (by simp [named, repeated])), ← listed]
        simp [code]

/-- A channel is bad that is enabled with an item out of its range. -/
theorem badChannel_iff (t : ChannelItems) :
    (t.enabled && !t.inRange) = true
      ↔ t.enabled = true
        ∧ ¬ (4500 ≤ t.diameter ∧ t.diameter ≤ 7200 ∧ 20 ≤ t.ppr ∧ t.ppr ≤ 200 ∧ t.countedEdge ≠ 3) := by
  simp only [ChannelItems.inRange, Bool.and_eq_true, Bool.not_eq_true', ← Bool.not_eq_true, bne_iff_ne,
    decide_eq_true_eq, and_assoc]

theorem validateChannels_of_first {x : PerAxle ChannelItems} {before after : List ChannelItems} {t : ChannelItems}
    (list : x.toList = before ++ t :: after) (bad : (t.enabled && !t.inRange) = true)
    (good : ∀ y ∈ before, ¬ (y.enabled && !y.inRange) = true) :
    validateChannels x = some { fault := .channelParam, place := before.length } := by
  have skipped : before.findIdx? (fun t => t.enabled && !t.inRange) = none :=
    List.findIdx?_eq_none_iff.2 fun y here => Bool.eq_false_of_not_eq_true (good y here)
  have found : x.toList.findIdx? (fun t => t.enabled && !t.inRange) = some before.length := by
    rw [list, List.findIdx?_append, skipped, List.findIdx?_cons, if_pos bad]
    simp
  simp only [validateChannels, found]
  rfl

theorem validateChannels_of_good {x : PerAxle ChannelItems}
    (good : ∀ y ∈ x.toList, ¬ (y.enabled && !y.inRange) = true) : validateChannels x = none := by
  have found : x.toList.findIdx? (fun t => t.enabled && !t.inRange) = none := by
    simpa using good
  simp only [validateChannels, found]

/-! ### The bogie and chain section (R103, R110, R158) -/

theorem within_false {lo hi v : Nat} : (!within lo hi v) = true ↔ v < lo ∨ hi < v := by
  simp only [within, Bool.not_eq_true', Bool.and_eq_false_iff, decide_eq_false_iff_not, Nat.not_le]

theorem validateSection_eq (c : StructureConfig) :
    validateSection c
      = if c.nominal.a < 1000 ∨ 30000 < c.nominal.a then some { fault := .range, place := 0x16 }
        else if c.nominal.b < 1000 ∨ 30000 < c.nominal.b then some { fault := .range, place := 0x17 }
        else if c.spacingAT < 100 ∨ 3000 < c.spacingAT then some { fault := .range, place := 0x19 }
        else if c.spacingAB < 200 ∨ 6000 < c.spacingAB ∨ c.spacingAB ≤ c.spacingAT then
          some { fault := .range, place := 0x1A }
        else if 10000 < c.chainOffset then some { fault := .range, place := 0x1B }
        else if c.chainForward = 0 ∨ c.chainForward = 3 then some { fault := .range, place := 0x1D }
        else if 3 < c.position then some { fault := .positionRange, place := 0x1D }
        else none := by
  simp only [validateSection, within_false, or_assoc, Nat.not_lt_zero, false_or, faultAt]

end Sys2Proof.Machine
end

section
/-! PROOF of `Obligations.CommandsAreDeclined`: commands that are declined, and the first fault of validation in R176's
order. -/

namespace Sys2Proof.Machine

/-! ### Commands declined (R174, R175, R178) -/

section Declined

variable {s : State}

theorem takeGoActive_of_undrained (part : s.ctl.part = .setup) (words : s.ip.queue ≠ [] ∨ s.ip.inflight ≠ none) :
    takeGoActive s = decline 1 .notReady s := by
  have undrained : (!s.ip.queue.isEmpty || s.ip.inflight.isSome) = true := by
    simpa [Option.isSome_iff_ne_none] using words
  simp only [takeGoActive, part, goActiveSetup, undrained, if_true]

theorem takeGoActive_of_invalid (part : s.ctl.part = .setup) (drained : s.ip.queue = []) (landed : s.ip.inflight = none)
    {v : Validation} (fault : validate s.cfg.str s.ctl.pageBase = some v) :
    takeGoActive s = decline 1 .setupInvalid (withCtl (fun c => { c with validation := some v }) s) := by
  simp [takeGoActive, part, goActiveSetup, drained, landed, fault]

theorem takeGoActive_of_standing (part : s.ctl.part = .fallback) (may : s.mayReturn = false) :
    takeGoActive s = decline 1 .notReady s := by
  simp only [takeGoActive, part, goActiveFallback, may, Bool.false_eq_true, if_false]

theorem takeGoActive_of_active (part : s.ctl.part = .active) : takeGoActive s = decline 1 .wrongState s := by
  simp only [takeGoActive, part]

theorem mayReturn_false (h : s.intent.mode.fresh = .stale ∨ s.ref.source = .lost ∨ s.rep.flag .memoryFault = true
    ∨ s.rep.flag .rollaway = true) : s.mayReturn = false := by
  rcases h with h | h | h | h <;> simp [State.mayReturn, h]

/-- A run word of no command (R174). -/
theorem takeCommand_of_bad {w : Word} (bad : bits w 0 8 = 0 ∨ 4 < bits w 0 8) (s : State) :
    takeCommand w s = decline (w.extractLsb' 0 8) .badValue s := by
  have value : (w.extractLsb' 0 8).toNat = 0 ∨ 4 < (w.extractLsb' 0 8).toNat := bad
  simp only [takeCommand]
  split
  case h_5 => rfl
  all_goals omega

end Declined

/-! ### The parts of validation (R176) -/

section Validation

variable {c : StructureConfig} {pageBase : Addr}

/-- The window entries pass. -/
def StructureConfig.entriesPass (c : StructureConfig) (page : Nat) : Prop :=
  ∀ before e after, c.windows.toList = before ++ e :: after → WindowEntry.judged page before e = none

/-- Every role code stands in an entry. -/
def StructureConfig.rolesPass (c : StructureConfig) : Prop :=
  ∀ k, 1 ≤ k → k ≤ 12 → ∃ e ∈ c.windows.toList, e.code.toNat = k

/-- The allocation list passes. -/
def StructureConfig.listPasses (c : StructureConfig) : Prop :=
  ∀ before x after, c.allocation.toList = before ++ x :: after → judgedPlace before x = none

theorem validate_of_entry {before after : List WindowEntry} {e : WindowEntry} {f : SetupFault}
    (list : c.windows.toList = before ++ e :: after) (fault : WindowEntry.judged pageBase.toNat before e = some f)
    (passes : ∀ b x a, before = b ++ x :: a → WindowEntry.judged pageBase.toNat b x = none) :
    validate c pageBase = some { fault := f, place := before.length } := by
  have found := firstFault_of_first 0 before after fault passes
  rw [← list, ← validateWindows_eq, Nat.zero_add] at found
  exact (congrArg (Option.or · _) found).trans Option.some_or

/-- Past the window entries. -/
theorem validate_of_entries (entries : c.entriesPass pageBase.toNat) :
    validate c pageBase
      = (validateRoles c.windows.toList).or
          ((validateList 1 [] c.allocation.toList).or ((validateChannels c.channels).or (validateSection c))) := by
  have passed := firstFault_of_passes 0 c.windows.toList entries
  rw [← validateWindows_eq] at passed
  exact (congrArg (Option.or · _) passed).trans Option.none_or

/-- Past the role codes. -/
theorem validate_of_roles (entries : c.entriesPass pageBase.toNat) (roles : c.rolesPass) :
    validate c pageBase
      = (validateList 1 [] c.allocation.toList).or ((validateChannels c.channels).or (validateSection c)) := by
  rw [validate_of_entries entries, validateRoles_of_all roles, Option.none_or]

/-- Past the allocation list. -/
theorem validate_of_list (entries : c.entriesPass pageBase.toNat) (roles : c.rolesPass) (listed : c.listPasses) :
    validate c pageBase = (validateChannels c.channels).or (validateSection c) := by
  have passed := firstFault_of_passes 1 c.allocation.toList listed
  rw [← validateList_eq] at passed
  rw [validate_of_roles entries roles]
  exact (congrArg (Option.or · _) passed).trans Option.none_or

end Validation

/-- Settles O20: each declined command by its row, and validation by the first of its parts that finds a fault. -/
theorem commandsAreDeclined : Obligations.CommandsAreDeclined := by
  refine ⟨fun w s stands value => ?_, fun c pageBase => ?_, fun w s stands bad => ?_⟩
  · intro declined
    rw [exec_goActive stands value]
    refine ⟨fun part words => ?_, fun v part drained landed fault => ?_, fun part standing => ?_, fun part => ?_⟩
    · rw [takeGoActive_of_undrained (s := s.completed true 0) part words]
      rfl
    · rw [takeGoActive_of_invalid (s := s.completed true 0) part drained landed fault]
      rfl
    · rw [takeGoActive_of_standing (s := s.completed true 0) part (mayReturn_false (s := s.completed true 0) standing)]
      rfl
    · rw [takeGoActive_of_active (s := s.completed true 0) part]
      rfl
  · intro last page entryFault entriesPass rolesPass badPlace listPasses badChannel answers
    have judged (before : List WindowEntry) (e : WindowEntry) :
        WindowEntry.judged page before e = entryFault before e := judged_eq page before e
    have entries (h : entriesPass) : c.entriesPass page := fun b e a list => (judged b e).trans (h b e a list)
    have place {before : List (BitVec 3)} {x : BitVec 3} (h : ¬ badPlace before x) : judgedPlace before x = none :=
      if_neg h
    have listed (h : listPasses) : c.listPasses := fun b x a list => place (h b x a list)
    have channel {t : ChannelItems} : (t.enabled && !t.inRange) = true ↔ badChannel t := badChannel_iff t
    refine ⟨fun before e after f list fault passes => ?_, fun k entry low high missing others => ?_,
      fun before x after entry roles list bad passes => ?_, fun before t after entry roles places list bad good => ?_,
      fun entry roles places good => ?_⟩
    · exact validate_of_entry list ((judged before e).trans fault) fun b x a h => (judged b x).trans (passes b x a h)
    · change validate c pageBase = _
      rw [validate_of_entries (entries entry), validateRoles_of_missing low high missing others, Option.some_or]
    · have found := firstFault_of_first 1 before after (if_pos bad : judgedPlace before x = some .allocList)
        fun b y a h => place (passes b y a h)
      rw [← list, ← validateList_eq, Nat.add_comm] at found
      change validate c pageBase = _
      rw [validate_of_roles (entries entry) roles]
      exact (congrArg (Option.or · _) found).trans Option.some_or
    · change validate c pageBase = _
      rw [validate_of_list (entries entry) roles (listed places),
        validateChannels_of_first list (channel.2 bad) fun y here => mt channel.1 (good y here), Option.some_or]
    · rw [validate_of_list (entries entry) roles (listed places),
        validateChannels_of_good fun y here => mt channel.1 (good y here), Option.none_or, validateSection_eq]
  · change Host.Outcome.next (finish (takenOnPort (runWord fun v => v = 0 || 4 < v) s)) = _
    rw [takenOnPort_of_command stands (by simpa using bad), takeCommand_of_bad bad]
    rfl

end Sys2Proof.Machine
end

section
/-! PROOF of `Obligations.ChannelWordSendsItToSettling`: a channel's structure word on its way to its items and to its
channel, and the channel it leaves. -/

namespace Sys2Proof.Machine

variable {s : State}

/-- The page offset of an axle channel's structure word (12.2). -/
def channelOffset : Axle → BitVec 8
  | .a1 => 0x10 | .a2 => 0x11 | .t1 => 0x12 | .t2 => 0x13 | .b1 => 0x14 | .b2 => 0x15

@[simp] theorem ofOffset_channelOffset (i : Axle) : Axle.ofOffset (channelOffset i).toNat = some i := by cases i <;> rfl

theorem setWord_channelOffset (c : StructureConfig) (i : Axle) (w : Word) :
    c.setWord (channelOffset i).toNat w = { c with channels := c.channels.set i (ChannelItems.ofWord w) } := by
  cases i <;> rfl

/-- The state with a channel's items replaced. -/
def State.withItems (s : State) (i : Axle) (items : ChannelItems) : State :=
  s.withConfig { s.cfg with str := { s.cfg.str with channels := s.cfg.str.channels.set i items } }

/-- A channel's structure word that stands on the port is taken, and acts on its channel (R60, R174). -/
theorem exec_channelStructureWrite {i : Axle} {w : Word} (h : s.pageStands (channelOffset i) w) :
    exec .channelStructureWrite s
      = .next (finish (channelWritten i ((s.completed true 0).withItems i (ChannelItems.ofWord w)))) := by
  have row : 0x10 ≤ (channelOffset i).toNat ∧ (channelOffset i).toNat ≤ 0x15 := by cases i <;> decide
  change Host.Outcome.next (finish (takenOnPort (fun off _ => 0x10 ≤ off && off ≤ 0x15) s)) = _
  rw [takenOnPort_of_stands h (by simp [row]), takePage_of_structure (by omega)]
  simp only [takeStructure, ofOffset_channelOffset, setWord_channelOffset]
  rfl

theorem channelWritten_channel (i j : Axle) (s : State) :
    (channelWritten i s).axle.channels.get j
      = if j = i then (s.axle.channels.get i).written (s.cfg.str.channels.get i) s.standstillTimer
        else s.axle.channels.get j :=
  PerAxle.get_set ..

/-- A channel can act: it is enabled with its items in range (R47). -/
theorem ChannelItems.acts_iff (t : ChannelItems) :
    (t.enabled && t.inRange) = true
      ↔ t.enabled = true ∧ 4500 ≤ t.diameter ∧ t.diameter ≤ 7200 ∧ 20 ≤ t.ppr ∧ t.ppr ≤ 200 ∧ t.countedEdge ≠ 3 := by
  simp only [ChannelItems.inRange, Bool.and_eq_true, decide_eq_true_eq, bne_iff_ne, and_assoc]

theorem Channel.written_of_idle {items : ChannelItems} (idle : ¬ (items.enabled && items.inRange) = true) (c : Channel)
    (standstill : Timer) : c.written items standstill = Channel.reset := by
  rw [Channel.written, if_pos (.inr idle), Channel.start, if_neg idle]

/-- A channel that can act enters SETTLING, from DISABLED as after power-on (R60, R64). -/
theorem Channel.written_of_acts {items : ChannelItems} (acts : (items.enabled && items.inRange) = true) (c : Channel)
    (standstill : Timer) :
    c.written items standstill = (if c.state = .disabled then Channel.reset else c.cleared).settle standstill := by
  simp only [Channel.written, Channel.start, acts, not_true_eq_false, or_false]
  split <;> rfl

/-- Settles O30: the word's channel by whether its new items let it act, and whether it was DISABLED. -/
theorem channelWordSendsItToSettling : Obligations.ChannelWordSendsItToSettling := by
  intro i w off s stands at' items inRange
  obtain rfl : off = channelOffset i := by rw [at']; cases i <;> rfl
  let u := channelWritten i ((s.completed true 0).withItems i items)
  have written : u.axle.channels.get i
      = (s.axle.channels.get i).written items (some (s.now + s.cfg.tun.speed.standstillTimeout * 1000)) := by
    rw [channelWritten_channel, if_pos rfl]
    change Channel.written _ ((s.cfg.str.channels.set i items).get i) _ = _
    rw [PerAxle.get_set_self]
    rfl
  refine ⟨u, exec_channelStructureWrite stands, rfl, rfl, fun idle => ?_, fun acts => ?_, fun j other => ?_, rfl⟩
  · rw [written, Channel.written_of_idle (mt items.acts_iff.1 idle)]
  · rw [written, Channel.written_of_acts (items.acts_iff.2 acts)]
    split <;> exact ⟨rfl, rfl, rfl, rfl, rfl, rfl, rfl, rfl, rfl, rfl⟩
  · rw [channelWritten_channel, if_neg other]
    rfl

end Sys2Proof.Machine
end

section
/-! PROOF support. A debounced edge at its channel: when the channel counts it, when it is part of an illegal
transition, and what the prescaler and the stored direction make of it (R48 to R52). -/

namespace Sys2Proof.Machine

/-! ### What an edge is (R49, R51) -/

/-- A P edge is counted by the channel's counted edge: RISING, FALLING or BOTH (R49). -/
theorem ChannelItems.counts_p (t : ChannelItems) (rising : Bool) :
    t.counts .p rising = true
      ↔ t.countedEdge = 2 ∨ rising = true ∧ t.countedEdge = 0 ∨ rising = false ∧ t.countedEdge = 1 := by
  cases rising <;> simp [ChannelItems.counts]

@[simp] theorem ChannelItems.counts_q (t : ChannelItems) (rising : Bool) : t.counts .q rising = false := rfl

theorem closeStamps_iff {length x : Nat} {other : Option Nat} :
    closeStamps length x other = true ↔ ∃ y, other = some y ∧ x < y + length ∧ y < x + length := by
  cases other <;> simp [closeStamps]

/-- The first sample leaves whether a channel is DISABLED. -/
@[simp] theorem Channel.started_state (c : Channel) (x : TachPins) : (c.started x).state = c.state := by
  simp only [Channel.started]
  split <;> rfl

@[simp] theorem Channel.started_movement (c : Channel) (x : TachPins) : (c.started x).movement = c.movement := by
  simp only [Channel.started]
  split <;> rfl

@[simp] theorem Channel.started_sync (c : Channel) (x : TachPins) : (c.started x).sync = false := by
  simp only [Channel.started]
  split
  · rfl
  · simp_all

/-! ### The prescaler and the direction (R50, R52) -/

/-- Without a reversal the prescaler advances, and the edge at count 0 captures. -/
theorem Channel.prescaled_straight (c : Channel) (t : ChannelItems) (stamp : Nat) :
    c.prescaled t false stamp
      = { c with
          period := if c.prescalerCount = 0 then (c.capture stamp).period else c.period
          lastPrescaled := if c.prescalerCount = 0 then some stamp else c.lastPrescaled
          prescalerCount := (c.prescalerCount + 1) % t.prescale } := by
  simp only [Channel.prescaled, Bool.false_eq_true, if_false]
  split
  · rename_i zero
    rw [zero]
    rfl
  · rfl

section CountedEdge

variable {c : Channel} {t : ChannelItems} {rising illegal : Bool}

/-- A counted edge in the stored direction (R49, R52). -/
theorem Channel.countedEdge_straight (h : c.edgeDirection t rising illegal = c.positive) (stamp : Nat)
    (standstill : Timer) :
    c.countedEdge t rising illegal stamp standstill
      = { c with
          standstill := standstill, still := false, state := if c.state = .still then .valid else c.state
          period := if c.prescalerCount = 0 then (c.capture stamp).period else c.period
          lastPrescaled := if c.prescalerCount = 0 then some stamp else c.lastPrescaled
          prescalerCount := (c.prescalerCount + 1) % t.prescale, kept := none } := by
  simp only [Channel.countedEdge, h, bne_self_eq_false, Channel.prescaled_straight, Bool.false_eq_true, if_false]
  rfl

/-- A reversal clears the captured period, and keeps what the stored direction would have left (R50, R52; log 28). -/
theorem Channel.countedEdge_reversal (h : c.edgeDirection t rising illegal ≠ c.positive) (stamp : Nat)
    (standstill : Timer) :
    c.countedEdge t rising illegal stamp standstill
      = { c with
          positive := c.edgeDirection t rising illegal, standstill := standstill, still := false
          state := if c.state = .still then .valid else c.state, period := none, lastPrescaled := some stamp
          prescalerCount := 1 % t.prescale
          kept := some
            { positive := c.positive
              period := if c.prescalerCount = 0 then (c.capture stamp).period else c.period
              lastPrescaled := if c.prescalerCount = 0 then some stamp else c.lastPrescaled
              prescalerCount := (c.prescalerCount + 1) % t.prescale } } := by
  have reversal : (c.edgeDirection t rising illegal != c.positive) = true := bne_iff_ne.2 h
  simp only [Channel.countedEdge, reversal, Channel.prescaled_straight, if_true]
  rfl

end CountedEdge

/-! ### The part after an edge -/

section Edge

variable {s : State} {i : Axle} {ph : Phase} {rising : Bool}

theorem phaseEdge_channel (i j : Axle) (ph : Phase) (rising : Bool) (stamp : Nat) (s : State) :
    (phaseEdge i ph rising stamp s).axle.channels.get j
      = if j = i then s.edgeChannel i ph rising stamp else s.axle.channels.get j :=
  PerAxle.get_set ..

theorem phaseEdge_held_of_no_wake (h : s.movementReached i ph rising = false) (stamp : Nat) :
    (phaseEdge i ph rising stamp s).axle.held = s.axle.held := by
  change (s.axle.held || s.movementReached i ph rising) = s.axle.held
  rw [h, Bool.or_false]

theorem edge_of_no_wake (h : s.movementReached i ph rising = false) (stamp : Nat) :
    edge i ph rising stamp s = phaseEdge i ph rising stamp s := by
  simp only [edge, h, Bool.false_eq_true, if_false]

theorem edge_of_wake (h : s.movementReached i ph rising = true) (stamp : Nat) :
    edge i ph rising stamp s = movementWake (phaseEdge i ph rising stamp s) := by
  simp only [edge, h, if_true]

theorem countsMovement_iff (s : State) : s.countsMovement = true ↔ s.ctl.part = .standby ∨ s.ctl.part = .waking := by
  simp only [State.countsMovement, Bool.or_eq_true, decide_eq_true_eq]

theorem countsMovement_of_running (notStandby : s.ctl.part ≠ .standby) (notWaking : s.ctl.part ≠ .waking) :
    s.countsMovement = false :=
  Bool.eq_false_of_not_eq_true fun counts => ((countsMovement_iff s).1 counts).elim notStandby notWaking

theorem phaseEdge_channel_of_running (acts : (s.axle.channels.get i).state ≠ .disabled)
    (running : s.countsMovement = false) (stamp : Nat) :
    (phaseEdge i ph rising stamp s).axle.channels.get i
      = ((s.axle.channels.get i).started (s.pins.tach.get i)).runningEdge (s.cfg.str.channels.get i) ph rising stamp
          (some (s.arrival i stamp + s.cfg.tun.speed.standstillTimeout * 1000)) := by
  rw [phaseEdge_channel, if_pos rfl]
  simp only [State.edgeChannel, Channel.started_state, if_neg acts, running, Bool.false_eq_true, if_false]
  rfl

theorem phaseEdge_channel_of_movement (acts : (s.axle.channels.get i).state ≠ .disabled)
    (counts : s.countsMovement = true) (stamp : Nat) :
    (phaseEdge i ph rising stamp s).axle.channels.get i
      = (((s.axle.channels.get i).started (s.pins.tach.get i)).edgeSeen ph rising stamp).movementEdge
          ((s.cfg.str.channels.get i).counts ph rising) s.axle.held := by
  rw [phaseEdge_channel, if_pos rfl]
  simp only [State.edgeChannel, Channel.started_state, if_neg acts, counts, if_true]

theorem exec_countedEdge (i : Axle) (rising : Bool) (stamp : Nat) (s : State) :
    exec (.countedEdge i rising stamp) s = .next (finish (edge i .p rising stamp s)) := rfl

theorem exec_uncountedPhaseEdge (i : Axle) (ph : Phase) (rising : Bool) (stamp : Nat) (s : State) :
    exec (.uncountedPhaseEdge i ph rising stamp) s = .next (finish (edge i ph rising stamp s)) := rfl

theorem movementReached_of_running (running : s.countsMovement = false) : s.movementReached i ph rising = false := by
  simp only [State.movementReached, running, Bool.and_false, Bool.false_and]

end Edge

end Sys2Proof.Machine
end

section
/-! PROOF of `Obligations.EdgesMoveTheirChannel`: counted edges, all other edges and the end of the standstill timer
outside STANDBY and WAKING. -/

namespace Sys2Proof.Machine

/-! ### Counted edges (R49 to R53) -/

section Counted

variable {c : Channel} {t : ChannelItems} {rising : Bool} {stamp : Nat} {standstill : Timer}

/-- The levels, the stamp and the count of illegal transitions that an edge of a running channel leaves (R48, R51). -/
def Channel.judgedEdge (c : Channel) (t : ChannelItems) (ph : Phase) (rising : Bool) (stamp : Nat) : Channel :=
  { c.edgeSeen ph rising stamp with illegal := c.illegal + (c.illegalWith t ph stamp).toNat }

theorem Channel.runningEdge_of_counted (counts : t.counts .p rising = true) :
    c.runningEdge t .p rising stamp standstill
      = (c.judgedEdge t .p rising stamp).countedEdge t rising (c.illegalWith t .p stamp) stamp standstill := by
  simp only [Channel.runningEdge, counts, if_true]
  rfl

theorem Channel.judgedEdge_illegal (c : Channel) (t : ChannelItems) (ph : Phase) (rising : Bool) (stamp : Nat) :
    (c.judgedEdge t ph rising stamp).illegal
      = if c.illegalWith t ph stamp = true then c.illegal + 1 else c.illegal := by
  simp only [Channel.judgedEdge]
  cases c.illegalWith t ph stamp <;> rfl

/-- The edge itself does not change what its direction is formed from (R50). -/
theorem Channel.judgedEdge_direction (c : Channel) (t : ChannelItems) (rising illegal : Bool) (stamp : Nat) :
    (c.judgedEdge t .p rising stamp).edgeDirection t rising illegal
      = if illegal = true then c.positive else (rising != c.q.level) != t.reversed := rfl

end Counted

/-! ### Other edges (R49, R51) -/

section Uncounted

variable {c : Channel} {t : ChannelItems} {rising : Bool} {stamp : Nat} {standstill : Timer}

theorem Channel.runningEdge_of_p (other : ¬ t.counts .p rising = true) :
    c.runningEdge t .p rising stamp standstill = c.judgedEdge t .p rising stamp := by
  simp only [Channel.runningEdge, if_neg other, reduceCtorEq, decide_false, Bool.false_and, Bool.false_eq_true, if_false]
  rfl

theorem Channel.runningEdge_of_q :
    c.runningEdge t .q rising stamp standstill
      = if c.illegalWith t .q stamp = true then (c.judgedEdge t .q rising stamp).corrected
        else c.judgedEdge t .q rising stamp := by
  simp only [Channel.runningEdge, ChannelItems.counts_q, Bool.false_eq_true, if_false, decide_true, Bool.true_and]
  rfl

theorem Channel.corrected_of_none (h : c.kept = none) : c.corrected = c := by
  simp only [Channel.corrected, h]

theorem Channel.corrected_of_some {k : KeptDirection} (h : c.kept = some k) :
    c.corrected
      = { c with
          positive := k.positive, period := k.period, lastPrescaled := k.lastPrescaled
          prescalerCount := k.prescalerCount, kept := none } := by
  simp only [Channel.corrected, h]

theorem Channel.corrected_illegal (c : Channel) : c.corrected.illegal = c.illegal := by
  simp only [Channel.corrected]
  split <;> rfl

end Uncounted

/-- Settles O40: a counted edge by whether it reverses the channel, a Q edge by whether it makes an illegal transition
of a kept one, and the standstill timer's end. -/
theorem edgesMoveTheirChannel : Obligations.EdgesMoveTheirChannel := by
  refine ⟨fun i rising stamp s => ?_, fun i ph rising stamp s => ?_, fun i d s running => ?_⟩
  · intro c0 pins c t length acts notStandby notWaking counts close at' fromQ advanced captured
    have counted : t.counts .p rising = true := t.counts_p rising |>.2 counts
    have running := countsMovement_of_running notStandby notWaking
    have noWake := movementReached_of_running (i := i) (ph := .p) (rising := rising) running
    have illegal : c.illegalWith t .p stamp = true ↔ close := closeStamps_iff
    have channel : (phaseEdge i .p rising stamp s).axle.channels.get i
        = (c.judgedEdge t .p rising stamp).countedEdge t rising (c.illegalWith t .p stamp) stamp
            (some (at' + s.cfg.tun.speed.standstillTimeout * 1000)) := by
      rw [phaseEdge_channel_of_running acts running]
      exact Channel.runningEdge_of_counted counted
    have count := c.judgedEdge_illegal t .p rising stamp
    have direction := c.judgedEdge_direction t rising (c.illegalWith t .p stamp) stamp
    simp only [illegal] at count direction
    have fromIllegal (h : close) := And.intro (count.trans (if_pos h)) (direction.trans (if_pos h))
    have fromLegal (h : ¬ close) := And.intro (count.trans (if_neg h)) (direction.trans (if_neg h))
    have sync : c.sync = false := c0.started_sync pins
    refine ⟨phaseEdge i .p rising stamp s, ?_, rfl, ?_, fun j other => ?_, phaseEdge_held_of_no_wake noWake stamp, rfl⟩
    · rw [exec_countedEdge, edge_of_no_wake noWake]
    · rw [channel]
      by_cases straight : (c.judgedEdge t .p rising stamp).edgeDirection t rising (c.illegalWith t .p stamp) = c.positive
      · rw [Channel.countedEdge_straight straight]
        rw [straight] at fromIllegal fromLegal
        exact ⟨rfl, sync, fromIllegal, fromLegal, fun reverses => absurd rfl reverses, fun _ => ⟨rfl, rfl, rfl, rfl⟩⟩
      · rw [Channel.countedEdge_reversal straight]
        exact ⟨rfl, sync, fromIllegal, fromLegal, fun _ => ⟨rfl, rfl, rfl, rfl⟩, fun stands => absurd stands straight⟩
    · rw [phaseEdge_channel, if_neg other]
  · intro c0 pins c t length acts notStandby notWaking uncounted other close
    have running := countsMovement_of_running notStandby notWaking
    have noWake := movementReached_of_running (i := i) (ph := ph) (rising := rising) running
    have illegal : c.illegalWith t ph stamp = true ↔ close := by
      have stamps : c.otherStamp ph = other := by cases ph <;> rfl
      rw [Channel.illegalWith, closeStamps_iff, stamps]
      exact exists_congr fun x => and_congr_right fun _ => and_comm
    have channel : (phaseEdge i ph rising stamp s).axle.channels.get i = c.runningEdge t ph rising stamp _ :=
      phaseEdge_channel_of_running acts running stamp
    refine ⟨phaseEdge i ph rising stamp s, ?_, ?_, fun j other => ?_, phaseEdge_held_of_no_wake noWake stamp, rfl⟩
    · rw [exec_uncountedPhaseEdge, edge_of_no_wake noWake]
    · rw [channel]
      have count := c.judgedEdge_illegal t ph rising stamp
      cases ph with
      | p =>
        have none : ¬ t.counts .p rising = true := mt (t.counts_p rising).1 (uncounted.resolve_left (by decide))
        rw [Channel.runningEdge_of_p none]
        refine ⟨fun h => ?_, fun h => ?_, fun _ => rfl, nofun, nofun⟩
        · rw [count, if_pos (illegal.2 h)]
        · rw [count, if_neg (mt illegal.1 h)]
      | q =>
        rw [Channel.runningEdge_of_q]
        by_cases h : close
        · rw [if_pos (illegal.2 h)]
          rw [if_pos (illegal.2 h)] at count
          refine ⟨fun _ => by rw [Channel.corrected_illegal, count], fun far => absurd h far, nofun, fun _ keeps => ?_,
            fun k _ _ kept => ?_⟩
          · rw [Channel.corrected_of_none (c := c.judgedEdge t .q rising stamp) (keeps.resolve_left (not_not_intro h))]
            rfl
          · rw [Channel.corrected_of_some (c := c.judgedEdge t .q rising stamp) kept]
            rfl
        · rw [if_neg (mt illegal.1 h)]
          rw [if_neg (mt illegal.1 h)] at count
          exact ⟨fun near => absurd near h, fun _ => count, nofun, fun _ _ => rfl, fun k _ near => absurd near h⟩
    · rw [phaseEdge_channel, if_neg other]
  · intro c
    change Host.Outcome.next (finish (onExpiry (s.axle.channels.get i).standstill (standstillEnd i) s)) = _
    rw [running, onExpiry_some]
    rfl

end Sys2Proof.Machine
end

section
/-! PROOF of `Obligations.EdgesInStandbyCountMovement`: edges in STANDBY and WAKING, and the movement wake. -/

namespace Sys2Proof.Machine

variable {s : State} {i : Axle} {ph : Phase} {rising : Bool}

/-- The movement wake (R62, R182). -/
theorem movementWake_eq (s : State) :
    movementWake s
      = { s with
          ctl :=
            { s.ctl with
              movementMark := true, part := if s.ctl.part = .standby then .waking else s.ctl.part
              settle := if s.ctl.part = .standby then some (s.now + 256) else s.ctl.settle }
          rep := s.rep.raise .rollaway } := by
  by_cases standby : s.ctl.part = .standby
  · simp only [if_pos standby]
    exact if_pos standby
  · simp only [if_neg standby]
    exact if_neg standby

/-- A counted edge brings the wake exactly where it brings its count to 8 (R62). -/
theorem movementReached_of_counted (acts : (s.axle.channels.get i).state ≠ .disabled) (counts : s.countsMovement = true)
    (counted : (s.cfg.str.channels.get i).counts ph rising = true) (held : s.axle.held = false) :
    s.movementReached i ph rising = decide (8 ≤ (s.axle.channels.get i).movement + 1) := by
  simp only [State.movementReached, bne_iff_ne.2 acts, counts, counted, held, Bool.not_false, Bool.and_self, Bool.true_and]

/-- An edge that is not counted, and any edge after the wake, brings none (R62). -/
theorem movementReached_of_idle
    (idle : s.axle.held = true ∨ ¬ (s.cfg.str.channels.get i).counts ph rising = true) :
    s.movementReached i ph rising = false := by
  rcases idle with held | uncounted
  · simp only [State.movementReached, held, Bool.not_true, Bool.and_false, Bool.false_and]
  · simp only [State.movementReached, Bool.eq_false_of_not_eq_true uncounted, Bool.and_false, Bool.false_and]

/-- A counted edge raises the movement count, up to 8 (R62). -/
theorem Channel.movementEdge_of_counted (c : Channel) :
    c.movementEdge true false = { c with movement := min 8 (c.movement + 1) } := rfl

theorem Channel.movementEdge_of_idle {c : Channel} {counted held : Bool} (idle : held = true ∨ ¬ counted = true) :
    c.movementEdge counted held = c := by
  have stands : (counted && !held) = false := by
    rcases idle with rfl | uncounted
    · exact Bool.and_false _
    · rw [Bool.eq_false_of_not_eq_true uncounted, Bool.false_and]
  rw [Channel.movementEdge, stands]
  rfl

/-- Settles O41: a counted edge by whether it brings the count to 8, and every other edge as one that brings no wake. -/
theorem edgesInStandbyCountMovement : Obligations.EdgesInStandbyCountMovement := by
  refine ⟨fun i rising stamp s => ?_, fun i ph rising stamp s => ?_⟩
  · intro c0 pins c t acts standing held counts
    have counting := (countsMovement_iff s).2 standing
    have counted := (t.counts_p rising).2 counts
    have enabled : c0.state ≠ .disabled := c0.started_state pins ▸ acts
    have moved : c.movement = c0.movement := c0.started_movement pins
    have reached := movementReached_of_counted enabled counting counted held
    let u := phaseEdge i .p rising stamp s
    have channel : u.axle.channels.get i
        = { c with
            p := { level := rising, run := 0, stamp := some stamp }, kept := none
            movement := min 8 (c.movement + 1) } := by
      rw [phaseEdge_channel_of_movement enabled counting, counted, held, Channel.movementEdge_of_counted]
      rfl
    have others (j : Axle) (other : j ≠ i) : u.axle.channels.get j = s.axle.channels.get j := by
      rw [phaseEdge_channel, if_neg other]
    have wakes : u.axle.held = decide (8 ≤ c.movement + 1) := by
      rw [moved, ← reached, ← Bool.false_or (s.movementReached i .p rising), ← held]
      rfl
    rw [exec_countedEdge]
    by_cases eighth : 8 ≤ c.movement + 1
    · have wake := edge_of_wake (reached.trans (decide_eq_true (moved ▸ eighth))) stamp
      rw [movementWake_eq] at wake
      have waking : (if s.ctl.part = .standby then PartState.waking else s.ctl.part) = .waking := by
        rcases standing with standby | already
        · exact if_pos standby
        · rw [already]
          decide
      refine ⟨_, congrArg (fun x => Host.Outcome.next (finish x)) wake, channel, others,
        fun early => absurd eighth (Nat.not_le.2 early), fun _ => ⟨?_, rfl, rfl, waking, fun standby => if_pos standby⟩, rfl⟩
      exact wakes.trans (decide_eq_true eighth)
    · have noWake := edge_of_no_wake (reached.trans (decide_eq_false (moved ▸ eighth))) stamp
      refine ⟨u, congrArg (fun x => Host.Outcome.next (finish x)) noWake, channel, others, fun _ => ⟨?_, rfl, rfl⟩,
        fun late => absurd late eighth, rfl⟩
      exact wakes.trans (decide_eq_false eighth)
  · intro c0 pins c t counts acts standing idle
    have counting := (countsMovement_iff s).2 standing
    have enabled : c0.state ≠ .disabled := c0.started_state pins ▸ acts
    have uncounted : s.axle.held = true ∨ ¬ t.counts ph rising = true :=
      idle.imp_right fun none counted => none <| by
        cases ph with
        | p => exact ⟨rfl, (t.counts_p rising).1 counted⟩
        | q => cases counted
    have noWake := movementReached_of_idle uncounted
    refine ⟨phaseEdge i ph rising stamp s, ?_, fun p => ?_, ?_, fun j other => ?_, phaseEdge_held_of_no_wake noWake stamp,
      rfl⟩
    · rw [exec_uncountedPhaseEdge, edge_of_no_wake noWake]
    · subst p
      rw [exec_countedEdge, edge_of_no_wake noWake]
    · rw [phaseEdge_channel_of_movement enabled counting, Channel.movementEdge_of_idle uncounted]
      cases ph <;> rfl
    · rw [phaseEdge_channel, if_neg other]

end Sys2Proof.Machine
end

section
/-! PROOF of `Obligations.SpeedIsFormedAtTheLatch`: the raw speed by the time it is formed from, a latch by the channel's
state and whether it meets a fault condition, and the sample handed on. -/

namespace Sys2Proof.Machine

/-! ### The raw speed (R54) -/

section RawSpeed

variable {c : Channel} {t : ChannelItems} {now : Nat}

theorem Channel.rawSpeed_of_no_time (h : c.speedTime now = none) : c.rawSpeed t now = 0 := by
  simp only [Channel.rawSpeed, h]

theorem Channel.rawSpeed_of_time {time : Nat} (h : c.speedTime now = some time) :
    c.rawSpeed t now = if c.positive then (t.magnitude time : Int) else -(t.magnitude time : Int) := by
  simp only [Channel.rawSpeed, h]

theorem Channel.speedTime_of_rest (h : c.still = true ∨ c.period = none) : c.speedTime now = none := by
  rcases h with still | none
  · simp only [Channel.speedTime, still, if_true]
  · simp only [Channel.speedTime, none, ite_self]

theorem Channel.speedTime_of_period {p : Nat} (moves : c.still = false) (period : c.period = some p) :
    c.speedTime now = some (max p (now - c.lastPrescaled.getD now)) := by
  simp only [Channel.speedTime, moves, period, Bool.false_eq_true, if_false]

theorem ChannelItems.magnitude_of_pos {time : Nat} (h : 0 < time) :
    t.magnitude time = min 30000 (355 * t.diameter * t.prescale * 100000 / (113 * t.edges * time)) := by
  simp only [ChannelItems.magnitude, if_neg (Nat.ne_of_gt h)]
  rfl

end RawSpeed

/-! ### A latch by the channel's state (R55 to R59) -/

section Latch

variable {c : Channel} {raw : Int} {jump : Nat}

/-- The fault conditions (R57). -/
theorem Channel.faulty_iff :
    c.faulty raw jump = true ↔ 4 ≤ c.illegal ∨ ∃ r, c.lastRaw = some r ∧ jump < (raw - r).natAbs := by
  cases last : c.lastRaw <;> simp [Channel.faulty, last]

theorem Channel.latch_disabled (h : c.state = .disabled) (period : Nat) (standstill : Timer) :
    c.latch raw jump period standstill = c := by
  simp only [Channel.latch, h]

theorem Channel.latch_fault (h : c.state = .fault) (period : Nat) (standstill : Timer) :
    c.latch raw jump period standstill = (c.sampled raw).faultLatch (c.faulty raw jump) standstill := by
  simp only [Channel.latch, h]

/-- The channel is in a state in which a latch forms a filtered speed, unless it meets a fault condition (R55). -/
def Channel.Forming (c : Channel) : Prop := c.state = .settling ∨ c.state = .valid ∨ c.state = .still

/-- A fault condition in a state that forms (R57). -/
theorem Channel.latch_faulty (h : c.Forming) (faulty : c.faulty raw jump = true) (period : Nat) (standstill : Timer) :
    c.latch raw jump period standstill = { c.sampled raw with state := .fault, cleanCount := 0 } := by
  rcases h with h | h | h <;> simp only [Channel.latch, h, faulty, if_true]

theorem Channel.latch_settling (h : c.state = .settling) (clean : c.faulty raw jump = false) (period : Nat)
    (standstill : Timer) : c.latch raw jump period standstill = (c.sampled raw).settlingLatch raw period := by
  simp only [Channel.latch, h, clean, Bool.false_eq_true, if_false]

theorem Channel.latch_running (h : c.state = .valid ∨ c.state = .still) (clean : c.faulty raw jump = false) (period : Nat)
    (standstill : Timer) : c.latch raw jump period standstill = (c.sampled raw).formed raw false period := by
  rcases h with h | h <;> simp only [Channel.latch, h, clean, Bool.false_eq_true, if_false]

theorem Channel.faultLatch_faulty (c : Channel) (standstill : Timer) :
    c.faultLatch true standstill = { c with cleanCount := 0 } := rfl

theorem Channel.faultLatch_clean (early : c.cleanCount + 1 < 50) (standstill : Timer) :
    c.faultLatch false standstill = { c with cleanCount := c.cleanCount + 1 } :=
  if_neg (Nat.not_le.2 early)

theorem Channel.faultLatch_last (last : 50 ≤ c.cleanCount + 1) (standstill : Timer) :
    c.faultLatch false standstill = ({ c with cleanCount := c.cleanCount + 1 } : Channel).settle standstill :=
  if_pos last

/-- A new raw sample joins a history (R55, R56). -/
theorem Channel.formed_append {h : History} (history : c.history = some h) (period : Nat) :
    c.formed raw false period
      = { c with
          history := some (h.append raw), filtered := some (h.append raw).filtered
          acceleration := some (rate ((h.append raw).filtered - c.filtered.getD (h.append raw).filtered) period) } := by
  simp only [Channel.formed, history, Bool.false_eq_true, if_false]

/-- The first raw sample seeds the history (R55, R58). -/
theorem Channel.formed_seed (period : Nat) :
    c.formed raw true period
      = { c with
          history := some (History.seed raw), filtered := some (History.seed raw).filtered, acceleration := some 0 } := by
  cases history : c.history <;> simp only [Channel.formed, history, if_true]

theorem Channel.forms_iff : c.forms raw jump = true ↔ c.Forming ∧ ¬ c.faulty raw jump = true := by
  cases state : c.state <;> simp [Channel.forms, Channel.Forming, state]

end Latch

theorem Sample.usable_iff (p : Sample) : p.usable = true ↔ p.state = .valid ∨ p.state = .still := by
  simp only [Sample.usable, Bool.or_eq_true, beq_iff_eq]

/-- Settles O42: the raw speed, and a latch by state and fault condition. -/
theorem speedIsFormedAtTheLatch : Obligations.SpeedIsFormedAtTheLatch := by
  refine ⟨fun c t now => ?_, fun c h raw jump period standstill running history => ?_,
    fun c raw jump period standstill => ?_, fun i s => ?_⟩
  · intro edges speed
    refine ⟨fun rest => Channel.rawSpeed_of_no_time (Channel.speedTime_of_rest rest),
      fun p l moves captured last => ?_, fun p moves captured last later => ?_⟩
    · intro time later
      have formed : c.speedTime now = some time := by
        rw [Channel.speedTime_of_period moves captured, last]
        exact congrArg some (max_def_lt ..)
      rw [Channel.rawSpeed_of_time formed, ChannelItems.magnitude_of_pos later]
      rfl
    · have formed : c.speedTime now = some p := by
        rw [Channel.speedTime_of_period moves captured, last, Option.getD_none, Nat.sub_self, Nat.max_zero]
      rw [Channel.rawSpeed_of_time formed, ChannelItems.magnitude_of_pos later]
      rfl
  · intro faulty n filtered
    refine ⟨fun meets => ?_, fun clean => ?_⟩
    · exact Channel.latch_faulty (.inr running) (Channel.faulty_iff.2 meets) ..
    · have clean := Bool.eq_false_of_not_eq_true (mt Channel.faulty_iff.1 clean)
      exact (Channel.latch_running running clean ..).trans (Channel.formed_append (c := c.sampled raw) history period)
  · intro faulty n
    have meets (h : faulty) : c.faulty raw jump = true := Channel.faulty_iff.2 h
    have passes (h : ¬ faulty) : c.faulty raw jump = false := Bool.eq_false_of_not_eq_true (mt Channel.faulty_iff.1 h)
    refine ⟨fun settling clean => ?_, fun settling fault => ?_, fun inFault fault => ?_, fun inFault clean => ?_,
      fun disabled => Channel.latch_disabled disabled ..⟩
    · have latched : n = (c.sampled raw).settlingLatch raw period := Channel.latch_settling settling (passes clean) ..
      rw [latched]
      refine ⟨rfl, rfl, fun first => ?_⟩
      have seeded : (c.sampled raw).formed raw (c.settleCount = 0) period = (c.sampled raw).formed raw true period := by
        rw [decide_eq_true first]
      rw [Channel.formed_seed] at seeded
      exact ⟨congrArg Channel.history seeded, congrArg Channel.acceleration seeded⟩
    · have latched : n = { c.sampled raw with state := .fault, cleanCount := 0 } :=
        Channel.latch_faulty (.inl settling) (meets fault) ..
      rw [latched]
      exact ⟨rfl, rfl⟩
    · have latched : n = { c.sampled raw with cleanCount := 0 } := by
        rw [← Channel.faultLatch_faulty _ standstill, ← meets fault]
        exact Channel.latch_fault inFault ..
      rw [latched]
      exact ⟨inFault, rfl⟩
    · have latched : n = (c.sampled raw).faultLatch false standstill := by
        rw [← passes clean]
        exact Channel.latch_fault inFault ..
      rw [latched]
      by_cases early : c.cleanCount + 1 < 50
      · rw [Channel.faultLatch_clean (c := c.sampled raw) early, if_pos early]
        exact ⟨rfl, inFault, fun _ => rfl, fun last => absurd early (Nat.not_lt.2 last)⟩
      · rw [Channel.faultLatch_last (c := c.sampled raw) (Nat.not_lt.1 early), if_neg early]
        exact ⟨rfl, rfl, fun h => absurd h early,
          fun _ => ⟨rfl, rfl, rfl, rfl, rfl, rfl, rfl, rfl, rfl, rfl, rfl, rfl⟩⟩
  · intro c raw jump n faulty forming p
    have sample : p = s.sampleAt i := PerAxle.get_build ..
    have forms : c.forms raw jump = true ↔ forming ∧ ¬ faulty := Channel.forms_iff.trans <| and_congr_right fun _ =>
      not_congr Channel.faulty_iff
    rw [sample]
    refine ⟨rfl, rfl, fun h clean => ?_, fun h => ?_, rfl, Sample.usable_iff _⟩
    · exact ⟨if_pos (forms.2 ⟨h, clean⟩), if_pos (forms.2 ⟨h, clean⟩)⟩
    · have none : ¬ c.forms raw jump = true := fun formed =>
        h.elim (absurd (forms.1 formed).1) (fun fault => (forms.1 formed).2 fault)
      exact ⟨if_neg none, if_neg none⟩

end Sys2Proof.Machine
end

section
/-! PROOF of `Obligations.PeriodExpiryRunsTheStages`: the stages that an expiry of the control-period timer runs, each by
the blocks it changes. -/

namespace Sys2Proof.Machine

variable {s : State}

/-! ### The stages (R55, R66, R80, R104, R162) -/

/-- The latch's reports, axle by axle (R57). -/
theorem latchAxles_rep (s : State) :
    (latchAxles s).rep
      = allAxles.foldl
          (fun r i => if s.faultAt i then (r.raise .sensorFault).bump Counter.axleFault.number else r) s.rep := rfl

theorem follower_eq (s : State) : s.follower = decide (1 ≤ s.cfg.str.position ∧ s.cfg.str.position ≤ 3) :=
  (Bool.decide_and ..).symm

/-- The reference stage's report: an entry to HELD is counted (R70). -/
theorem referenceStage_rep (samples : PerAxle Sample) (frame : Option Frame) (s : State) :
    let r := s.ref.stage (s.stageInput samples frame)
    (referenceStage samples frame s).rep
      = if r.source = .held ∧ s.ref.source ≠ .held then s.rep.bump Counter.referenceHeld.number else s.rep := by
  intro r
  simp only [referenceStage, countIf, Bool.and_eq_true, beq_iff_eq, bne_iff_ne]
  rfl

theorem takeFrame_last_of_frame {f : Frame} (h : s.chain.buffer = some f) :
    (takeFrame s).chain.last = some { regime := f.regime, direction := f.direction, sand := f.sand } := by
  simp only [takeFrame, h]

theorem takeFrame_last_of_none (h : s.chain.buffer = none) : (takeFrame s).chain.last = s.chain.last := by
  simp only [takeFrame, h]

theorem recordEfforts_motor (m : Motor) (s : State) :
    (recordEfforts s).ceil.records.get m.bogie
      = { s.ceil.records.get m.bogie with
          traction := s.intent.held.get m, brake := s.blend.alloc.get m.ed + s.blend.alloc.get m.bogie.fr } := by
  cases m <;> rfl

/-- A latch clears the count of illegal transitions of every channel but a DISABLED one (R55). -/
theorem Channel.latch_illegal {c : Channel} (acts : c.state ≠ .disabled) (raw : Int) (jump period : Nat)
    (standstill : Timer) : (c.latch raw jump period standstill).illegal = 0 := by
  have forms (h : c.Forming) : (c.latch raw jump period standstill).illegal = 0 := by
    cases meets : c.faulty raw jump with
    | true =>
      rw [Channel.latch_faulty h meets]
      rfl
    | false =>
      rcases h with settling | running
      · rw [Channel.latch_settling settling meets]
        rfl
      · rw [Channel.latch_running running meets]
        rfl
  cases state : c.state with
  | disabled => exact absurd state acts
  | settling => exact forms (.inl state)
  | valid => exact forms (.inr (.inl state))
  | still => exact forms (.inr (.inr state))
  | fault =>
    rw [Channel.latch_fault state, Channel.faultLatch]
    (repeat' split) <;> rfl

/-! ### The axle and bogie stages (R83, R90, R92, R94) -/

theorem entries_eq (slips : PerAxle SlipRecord) : entries slips = (allAxles.filter fun i => (slips.get i).entered).length := by
  have listed : slips.toList = allAxles.map slips.get := rfl
  rw [entries, listed, List.filter_map, List.length_map]
  rfl

theorem anyBecamePoor_iff (x : PerBogie BogieRecord) :
    anyBecamePoor x = true ↔ x.a.becamePoor = true ∨ x.t.becamePoor = true ∨ x.b.becamePoor = true := by
  simp only [anyBecamePoor, Bool.or_eq_true, or_assoc]

/-- The reports of the axle and bogie stages: the entries are counted, and a bogie that became poor is raised (R90,
R94). -/
theorem adhesionStages_rep (samples : PerAxle Sample) (frame : Option Frame) (s : State) :
    let slips := s.classified s.ref.results samples
    let bogies := s.updated slips
    let counted := s.rep.bumpBy Counter.excursionEntry.number (allAxles.filter fun i => (slips.get i).entered).length
    (adhesionStages samples frame s).rep
      = if bogies.a.becamePoor ∨ bogies.t.becamePoor ∨ bogies.b.becamePoor then counted.raise .adhesionPoor
        else counted := by
  intro slips bogies counted
  simp only [adhesionStages, entries_eq, anyBecamePoor_iff]
  rfl

/-! ### The expiry (R79, R80) -/

/-- The reference as the stage of an evaluation begun now leaves it (R66). -/
def State.staged (s : State) : Reference := s.ref.stage (s.stageInput s.samplesAt s.chain.buffer)

/-- The evaluation in progress that the stages begun now leave (R80, R99). -/
def State.evaluation (s : State) : Evaluation :=
  let slips := s.classified s.staged.results s.samplesAt
  { slips := slips, bogies := s.updated slips, ref := s.staged.results, regime := s.intent.accepted.regime
    direction := s.intent.accepted.direction, frame := s.carriedFrame s.chain.buffer, started := s.now }

theorem evaluate_axle (s : State) : (evaluate s).axle = { s.axle with channels := PerAxle.build s.latched } := rfl

theorem evaluate_ref (s : State) : (evaluate s).ref = s.staged := rfl

theorem evaluate_chain (s : State) : (evaluate s).chain = (takeFrame s).chain := rfl

theorem evaluate_ceil (s : State) : (evaluate s).ceil = (recordEfforts s).ceil := rfl

/-- The published records stand, and the copy waits for its completion; excursion timers follow at once (R80, R90,
R92). -/
theorem restartPeriod_evaluate_ev (s : State) :
    (restartPeriod (evaluate s)).ev
      = { s.ev with
          period := some (s.now + s.cfg.tun.slip.controlPeriod * 1000), length := s.cfg.tun.slip.controlPeriod * 1000
          timers := PerAxle.build fun i =>
            excursionTimer (s.evaluation.slips.get i) (s.ev.timers.get i) (s.timer (ms s.cfg.tun.slip.excursionTime))
          running := some s.evaluation } := rfl

theorem evaluate_rep (s : State) :
    let faults := allAxles.foldl
      (fun r i => if s.faultAt i then (r.raise .sensorFault).bump Counter.axleFault.number else r) s.rep
    let held := if s.staged.source = .held ∧ s.ref.source ≠ .held then faults.bump Counter.referenceHeld.number else faults
    let entries := (allAxles.filter fun i => (s.evaluation.slips.get i).entered).length
    let counted := held.bumpBy Counter.excursionEntry.number entries
    let bogies := s.evaluation.bogies
    (evaluate s).rep
      = if bogies.a.becamePoor ∨ bogies.t.becamePoor ∨ bogies.b.becamePoor then counted.raise .adhesionPoor
        else counted := by
  intro faults held entries counted bogies
  rw [evaluate, adhesionStages_rep, takeFrame_rep, referenceStage_rep, recordEfforts_rep, latchAxles_rep]
  rfl

/-- The stages and the restart of the timer leave the other blocks alone. -/
theorem restartPeriod_evaluate (s : State) :
    restartPeriod (evaluate s)
      = { s with
          axle := (evaluate s).axle, ref := (evaluate s).ref, ev := (restartPeriod (evaluate s)).ev
          ceil := (evaluate s).ceil, chain := (evaluate s).chain, rep := (evaluate s).rep } := rfl

theorem periodEnd_of_idle (h : s.ev.running = none) : periodEnd s = restartPeriod (evaluate s) := by
  simp only [periodEnd, h, Option.isSome_none, Bool.false_eq_true, if_false]

theorem periodEnd_of_running {e : Evaluation} (h : s.ev.running = some e) : periodEnd s = restartPeriod s := by
  simp only [periodEnd, h, Option.isSome_some, if_true]

/-- A control-period timer that runs expires (R79; log 4). -/
theorem exec_controlPeriodExpiry {d : Nat} (h : s.ev.period = some d) :
    exec .controlPeriodExpiry s = .next (finish (periodEnd { s with now := max s.now d })) := by
  change Host.Outcome.next (finish (onExpiry s.ev.period periodEnd s)) = _
  rw [h, onExpiry_some]

/-- Settles O44: the expiry's stages block by block, and an expiry within an evaluation. -/
theorem periodExpiryRunsTheStages : Obligations.PeriodExpiryRunsTheStages := by
  refine ⟨fun d s period idle => ?_, fun d e s period running => ?_⟩
  · intro at' given ref slips bogies
    let u := restartPeriod (evaluate at')
    have ends : periodEnd at' = u := periodEnd_of_idle idle
    have input : at'.stageInput at'.samplesAt at'.chain.buffer = given := by
      rw [State.stageInput, follower_eq]
      rfl
    have staged : at'.staged = ref := congrArg s.ref.stage input
    have classified : at'.evaluation.slips = slips :=
      congrArg (fun r => at'.classified (Reference.results r) at'.samplesAt) staged
    have updated : at'.evaluation.bogies = bogies := congrArg at'.updated classified
    have ev := restartPeriod_evaluate_ev at'
    have rep := evaluate_rep at'
    rw [staged, classified, updated] at rep
    rw [classified] at ev
    have axle : u.axle = { s.axle with channels := PerAxle.build at'.latched } := evaluate_axle at'
    have ref' : u.ref = ref := (evaluate_ref at').trans staged
    have chain : u.chain = (takeFrame s).chain := evaluate_chain at'
    have ceil : u.ceil = (recordEfforts s).ceil := evaluate_ceil at'
    have others := restartPeriod_evaluate at'
    have results : at'.evaluation.ref = ref.results := congrArg Reference.results staged
    refine ⟨u, ?_, congrArg State.now others, by rw [ev], by rw [ev], by rw [ev], by rw [ev], axle, ref',
      ⟨at'.evaluation, by rw [ev], rfl, rfl, rfl, rfl, ?_, ?_, results, classified, updated⟩, fun i => ?_, rep, ?_,
      fun f handed => ?_, fun empty => ?_, fun m => ?_, ?_, ?_, ?_, fun i acts => ?_, others⟩
    · rw [exec_controlPeriodExpiry period, ends]
    · rw [results, ref']
      rfl
    · rw [results, ref']
      rfl
    · rw [ev]
      exact PerAxle.get_build ..
    · rw [chain]
      rfl
    · rw [chain, takeFrame_last_of_frame handed]
    · rw [chain, takeFrame_last_of_none empty]
    · rw [ceil, recordEfforts_motor]
    · rw [ceil]
      rfl
    · rw [ceil]
      rfl
    · rw [ceil]
      rfl
    · rw [axle, PerAxle.get_build]
      exact Channel.latch_illegal acts ..
  · rw [exec_controlPeriodExpiry period, periodEnd_of_running (s := { s with now := max s.now d }) running]
    rfl

end Sys2Proof.Machine
end

section
/-! PROOF of `Obligations.ReferenceMovesAndIsLost`: the reference stage field by field, by the source it ends with, and the
end of the hold timer. -/

namespace Sys2Proof.Machine

/-! ### The chain reference and the source (R70, R71) -/

theorem Frame.referenceFor_eq (f : Frame) (own : Direction) :
    f.referenceFor own
      = if f.valid = false ∨ f.direction = .neutral ∨ own = .neutral then none
        else some (max (-30000) (min 30000 (if f.direction = own then f.reference else -f.reference))) := by
  have absent : (!f.valid || f.direction == .neutral || own == .neutral) = true
      ↔ f.valid = false ∨ f.direction = .neutral ∨ own = .neutral := by
    simp only [Bool.or_eq_true, Bool.not_eq_true', beq_iff_eq, or_assoc]
  simp only [Frame.referenceFor, absent]
  rfl

theorem chainReference_of_unlinked {link : LinkState} (h : link ≠ .linked) (old : Option Int) (frame : Option Frame)
    (own : Direction) : chainReference old link frame own = none := if_neg h

theorem chainReference_of_no_frame (old : Option Int) (own : Direction) : chainReference old .linked none own = old := rfl

theorem chainReference_of_frame (old : Option Int) (f : Frame) (own : Direction) :
    chainReference old .linked (some f) own = f.referenceFor own := rfl

theorem chooseSource_eq (anyUsable chainUsable : Bool) (old : RefSource) :
    chooseSource anyUsable chainUsable old
      = if anyUsable = true then .own else if chainUsable = true then .chain
        else if old = .lost then .lost else .held := by
  cases old <;> rfl

theorem restarts_iff (old new : RefSource) :
    restarts old new = true ↔ new = .own ∧ old ≠ .own ∨ new = .chain ∧ old = .lost := by
  simp only [restarts, Bool.or_eq_true, Bool.and_eq_true, beq_iff_eq, bne_iff_ne]

/-! ### Magnitude and sense (R67 to R69, R73) -/

theorem signedSpeed_eq (m : Nat) (s : Sense) : signedSpeed m s = if s = .reverse then -(m : Int) else m := by
  cases s <;> rfl

/-- A limited magnitude is within one rate step of the old one (R69). -/
theorem limited_within (old target rise fall : Nat) :
    limited old target rise fall ≤ old + rise ∧ old ≤ limited old target rise fall + fall := by
  simp only [limited]
  split <;> omega

theorem usableSpeeds_eq (x : PerAxle Sample) :
    usableSpeeds x
      = x.toList.filterMap fun p => if p.state = .valid ∨ p.state = .still then p.filtered else none := by
  simp only [usableSpeeds, Sample.usable_iff]

theorem chosenMagnitude_traction (x : PerAxle Sample) :
    chosenMagnitude .traction x
      = if (x.t1.state = .valid ∨ x.t1.state = .still) ∧ (x.t2.state = .valid ∨ x.t2.state = .still) then
          ((x.t1.filtered.getD 0).natAbs + (x.t2.filtered.getD 0).natAbs) / 2
        else smallest ((usableSpeeds x).map Int.natAbs) := by
  simp only [chosenMagnitude, Bool.and_eq_true, Sample.usable_iff]
  rfl

theorem chosenMagnitude_mean {regime : Regime} (h : regime = .hold ∨ regime = .coast) (x : PerAxle Sample) :
    chosenMagnitude regime x = ((usableSpeeds x).map Int.natAbs).sum / (usableSpeeds x).length := by
  rcases h with rfl | rfl <;> simp only [chosenMagnitude, mean, List.length_map]

theorem rollbackAfter_eq (old step : Nat) (direction : Direction) (sense : Sense) :
    rollbackAfter old step direction sense
      = if direction = .neutral ∨ direction = .forward ∧ sense = .forward ∨ direction = .reverse ∧ sense = .reverse then 0
        else if sense = .none then old else min 65535 (old + step) := by
  have along : direction = .neutral ∨ sense = .ofDirection direction
      ↔ direction = .neutral ∨ direction = .forward ∧ sense = .forward ∨ direction = .reverse ∧ sense = .reverse := by
    cases direction <;> simp [Sense.ofDirection]
  simp only [rollbackAfter, along]

/-! ### The source of a stage and what follows it (R66) -/

variable (r : Reference) (x : StageInput)

theorem stage_chainRef : (r.stage x).chainRef = chainReference r.chainRef x.link x.frame x.direction := rfl

theorem stage_source :
    (r.stage x).source
      = if ∃ p ∈ x.samples.toList, p.state = .valid ∨ p.state = .still then .own
        else if x.follower = true ∧ x.link = .linked ∧ (r.stage x).chainRef ≠ none then .chain
        else if r.source = .lost then .lost else .held := by
  have usable : x.samples.toList.any Sample.usable = true
      ↔ ∃ p ∈ x.samples.toList, p.state = .valid ∨ p.state = .still := by
    simp only [List.any_eq_true, Sample.usable_iff]
  have chain : (x.follower && x.link == .linked && (r.stage x).chainRef.isSome) = true
      ↔ x.follower = true ∧ x.link = .linked ∧ (r.stage x).chainRef ≠ none := by
    simp only [Bool.and_eq_true, beq_iff_eq, and_assoc, Option.isSome_iff_ne_none]
  simp only [← usable, ← chain]
  exact chooseSource_eq ..

theorem stage_motion :
    ((r.stage x).magnitude, (r.stage x).sense) = r.motion x (r.stage x).source (r.stage x).chainRef := rfl

theorem stage_acceleration :
    (r.stage x).acceleration
      = if (r.stage x).source = .held ∨ (r.stage x).source = .lost ∨ restarts r.source (r.stage x).source = true then 0
        else rate ((r.stage x).signed - r.signed) x.period := rfl

theorem stage_hold : (r.stage x).hold = r.holdAfter x (r.stage x).source := rfl

theorem stage_odometer : (r.stage x).odometer = r.odometer + BitVec.ofNat 32 (r.stage x).step := rfl

theorem stage_remainder_lt : (r.stage x).remainder < 10000000 := Nat.mod_lt _ (by decide)

/-- The distance travelled at the new magnitude is shared between the odometer step and the remainder (R74). -/
theorem stage_distance :
    (r.stage x).step * 10000000 + (r.stage x).remainder = r.remainder + (r.stage x).magnitude * x.period :=
  Nat.div_add_mod' ..

theorem stage_rollback :
    (r.stage x).rollback = rollbackAfter r.rollback (r.stage x).step x.direction (r.stage x).sense := rfl

variable {r x}

/-- In OWN and CHAIN the reference restarts or takes a limited step (R68, R69, R73). -/
theorem motion_of_moves {source : RefSource} {chain : Option Int} (moves : source = .own ∨ source = .chain) :
    r.motion x source chain
      = if restarts r.source source then
          (x.chosen source chain, settledSense (x.chosen source chain) (restartSense (x.candidate source chain) r.sense))
        else
          let m := limited r.magnitude (targetMagnitude (x.chosen source chain) (x.candidate source chain) r.sense)
            (rateStep x.rise x.period) (rateStep x.fall x.period)
          (m, settledSense m (carriedSense (x.candidate source chain) r.sense)) := by
  rcases moves with rfl | rfl <;> rfl

theorem chosen_of_moves {source : RefSource} {chain : Option Int} (moves : source = .own ∨ source = .chain) :
    x.chosen source chain = if source = .own then chosenMagnitude x.regime x.samples else (chain.getD 0).natAbs := by
  rcases moves with rfl | rfl <;> rfl

theorem candidate_of_moves {source : RefSource} {chain : Option Int} (moves : source = .own ∨ source = .chain) :
    x.candidate source chain
      = if source = .own then ownCandidate (usableSpeeds x.samples) else signCandidate (chain.getD 0) := by
  rcases moves with rfl | rfl <;> rfl

/-- In OWN and CHAIN without a restart the reference takes one limited step towards its target (R68, R69). -/
theorem stage_of_step (moves : (r.stage x).source = .own ∨ (r.stage x).source = .chain)
    (steady : ¬ restarts r.source (r.stage x).source = true) :
    let n := r.stage x
    let candidate := x.candidate n.source n.chainRef
    n.magnitude
        = limited r.magnitude (targetMagnitude (x.chosen n.source n.chainRef) candidate r.sense) (rateStep x.rise x.period)
            (rateStep x.fall x.period)
      ∧ n.sense = settledSense n.magnitude (carriedSense candidate r.sense)
      ∧ n.acceleration = rate (n.signed - r.signed) x.period := by
  have moved := stage_motion r x
  rw [motion_of_moves moves, if_neg steady] at moved
  obtain ⟨magnitude, sense⟩ := Prod.mk.inj moved
  refine ⟨magnitude, by rw [magnitude, sense], (stage_acceleration r x).trans (if_neg ?_)⟩
  rintro (held | lost | restart)
  · simp [held] at moves
  · simp [lost] at moves
  · exact steady restart

/-- At a restart the reference takes the chosen magnitude and the candidate as they stand (R73). -/
theorem stage_of_restart (restart : restarts r.source (r.stage x).source = true) :
    let n := r.stage x
    let chosen := x.chosen n.source n.chainRef
    n.magnitude = chosen ∧ n.acceleration = 0
      ∧ n.sense = settledSense chosen (restartSense (x.candidate n.source n.chainRef) r.sense) := by
  have moves := ((restarts_iff _ _).1 restart).imp And.left And.left
  have moved := stage_motion r x
  rw [motion_of_moves moves, if_pos restart] at moved
  obtain ⟨magnitude, sense⟩ := Prod.mk.inj moved
  exact ⟨magnitude, (stage_acceleration r x).trans (if_pos (.inr (.inr restart))), sense⟩

theorem stage_of_held (h : (r.stage x).source = .held) :
    (r.stage x).magnitude = r.magnitude ∧ (r.stage x).sense = r.sense ∧ (r.stage x).acceleration = 0 := by
  have moved := stage_motion r x
  rw [h] at moved
  obtain ⟨magnitude, sense⟩ := Prod.mk.inj moved
  exact ⟨magnitude, sense, (stage_acceleration r x).trans (if_pos (.inl h))⟩

theorem stage_of_lost (h : (r.stage x).source = .lost) :
    (r.stage x).magnitude = 0 ∧ (r.stage x).sense = .none ∧ (r.stage x).acceleration = 0 := by
  have moved := stage_motion r x
  rw [h] at moved
  obtain ⟨magnitude, sense⟩ := Prod.mk.inj moved
  exact ⟨magnitude, sense, (stage_acceleration r x).trans (if_pos (.inr (.inl h)))⟩

/-- The hold timer is started at an entry to HELD and cancelled in OWN and CHAIN (R70, R72). -/
theorem holdAfter_eq (source : RefSource) :
    r.holdAfter x source
      = if source = .own ∨ source = .chain then none
        else if source = .held ∧ r.source ≠ .held then x.holdTimer else r.hold := by
  cases source <;> simp [Reference.holdAfter]

/-! ### The end of the hold timer (R72, R177) -/

/-- The part as the fallback cause finds it when the hold timer has ended at `d` (R72). -/
def State.holdLost (s : State) (d : Nat) : State :=
  raise .referenceLost { s with now := max s.now d, ref := s.ref.lose }

theorem exec_holdTimerExpiry {d : Nat} {s : State} (h : s.ref.hold = some d) :
    exec .holdTimerExpiry s = .next (finish (deliverCause .referenceLost (s.holdLost d))) := by
  change Host.Outcome.next (finish (onExpiry s.ref.hold holdEnd s)) = _
  rw [h, onExpiry_some]
  rfl

theorem deliverCause_ctl_of_inForce {s : State} (h : s.inForce = true) (x : FallbackCause) :
    (deliverCause x s).ctl = { s.ctl with part := .fallback, causes := s.ctl.causes.join x } := by
  rcases (by simpa [State.inForce] using h : s.ctl.part = .active ∨ s.ctl.part = .fallback) with part | part
  · rw [deliverCause_of_active part, enterFallback_ctl]
    rfl
  · rw [deliverCause_of_fallback part, ← part]
    rfl

/-- A fallback cause in ACTIVE leaves no held traction (R138). -/
theorem deliverCause_held_of_active {s : State} (h : s.ctl.part = .active) (x : FallbackCause) (m : Motor) :
    (deliverCause x s).intent.held.get m = 0 := by
  rw [deliverCause_of_active h]
  exact enterFallback_held _ m

/-! ### The obligation -/

/-- Settles O43: a stage by the source it ends with, and the hold timer's expiry by the part state it meets. -/
theorem referenceMovesAndIsLost : Obligations.ReferenceMovesAndIsLost := by
  refine ⟨fun r x => ?_, fun d s running => ?_⟩
  · intro n step usable speeds forward backward own chosen candidate target signed restart moves
    have speedsIs : usableSpeeds x.samples = speeds := usableSpeeds_eq _
    have ownIs : chosenMagnitude x.regime x.samples = own := by
      simp only [own, ← speedsIs]
      cases x.regime with
      | traction => exact chosenMagnitude_traction _
      | serviceBrake | emergency => rfl
      | hold => exact chosenMagnitude_mean (.inl rfl) _
      | coast => exact chosenMagnitude_mean (.inr rfl) _
    have chosenIs (h : moves) : x.chosen n.source n.chainRef = chosen := by
      rw [chosen_of_moves h, ownIs]
    have candidateIs (h : moves) : x.candidate n.source n.chainRef = candidate := by
      rw [candidate_of_moves h, speedsIs]
      rfl
    have restartIs : restarts r.source n.source = true ↔ restart := restarts_iff _ _
    have chainIs : n.chainRef = chainReference r.chainRef x.link x.frame x.direction := stage_chainRef r x
    refine ⟨fun apart => ?_, fun linked empty => ?_, fun f linked handed => ?_, stage_source r x, fun h steady => ?_,
      fun h => ?_, stage_of_held, stage_of_lost, (stage_hold r x).trans (holdAfter_eq _), stage_remainder_lt r x,
      stage_distance r x, stage_odometer r x, (stage_rollback r x).trans (rollbackAfter_eq ..)⟩
    · rw [chainIs, chainReference_of_unlinked apart]
    · rw [chainIs, linked, empty, chainReference_of_no_frame]
    · rw [chainIs, linked, handed, chainReference_of_frame, Frame.referenceFor_eq]
    · obtain ⟨magnitude, sense, acceleration⟩ := stage_of_step h (restartIs.not.2 steady)
      rw [chosenIs h, candidateIs h] at magnitude
      rw [candidateIs h] at sense
      have within := limited_within r.magnitude target (step x.rise) (step x.fall)
      refine ⟨magnitude, sense, ?_, magnitude ▸ within⟩
      simp only [signed, ← signedSpeed_eq]
      exact acceleration
    · have entered : moves := h.imp And.left And.left
      obtain ⟨magnitude, acceleration, sense⟩ := stage_of_restart (restartIs.2 h)
      rw [chosenIs entered] at magnitude
      rw [chosenIs entered, candidateIs entered] at sense
      exact ⟨magnitude, acceleration, sense⟩
  · let lost := s.holdLost d
    refine ⟨deliverCause .referenceLost lost, exec_holdTimerExpiry running, deliverCause_now _ _,
      deliverCause_ref_magnitude _ _, deliverCause_ref_sense _ _, deliverCause_ref_acceleration _ _,
      deliverCause_ref_source _ _, deliverCause_ref_hold _ _, deliverCause_ref_odometer _ _,
      deliverCause_ref_remainder _ _, deliverCause_rep_keeps (kept_flag .referenceLost) _ ?_,
      fun force => deliverCause_ctl_of_inForce (s := lost) force _, fun idle => ?_,
      fun active => deliverCause_held_of_active (s := lost) active _, ?_⟩
    · simp [lost, State.holdLost, raise]
    · rw [deliverCause_of_idle (s := lost) idle (x := .referenceLost) nofun]
      exact ⟨rfl, rfl, rfl⟩
    · rw [deliverCause_frame]
      simp [lost, State.holdLost, raise]

end Sys2Proof.Machine
end

section
/-! PROOF of `Obligations.FloorWordsLiftTheFactors`: the two floor words as they are taken, and the records they lift. -/

namespace Sys2Proof.Machine

variable {s : State}

theorem liftC_get (floor : Nat) (x : PerBogie BogieRecord) (y : Bogie) :
    (liftC floor x).get y = { x.get y with c := max floor (x.get y).c } := PerBogie.get_build ..

theorem ceilingFloorWritten_record (s : State) (y : Bogie) :
    (ceilingFloorWritten s).ceil.records.get y
      = { s.ceil.records.get y with k := max s.cfg.tun.ceiling.floor (s.ceil.records.get y).k } := PerBogie.get_build ..

/-- A correction floor word that stands on the port is taken, and lifts every C (R98, R174). -/
theorem exec_correctionFloorWrite {w : Word} (h : s.pageStands 0x59 w) :
    exec .correctionFloorWrite s = .next (finish (floorWritten ((s.completed true 0).tuned 0x59 w))) := by
  change Host.Outcome.next (finish (takenOnPort (fun off _ => off = 0x59) s)) = _
  rw [takenOnPort_of_stands h (by decide), takePage_of_tuning (by decide) (by decide)]
  rfl

/-- A ceiling floor word that stands on the port is taken, and lifts every K (R108, R174). -/
theorem exec_ceilingFloorWrite {w : Word} (h : s.pageStands 0x5D w) :
    exec .ceilingFloorWrite s = .next (finish (ceilingFloorWritten ((s.completed true 0).tuned 0x5D w))) := by
  change Host.Outcome.next (finish (takenOnPort (fun off _ => off = 0x5D) s)) = _
  rw [takenOnPort_of_stands h (by decide), takePage_of_tuning (by decide) (by decide)]
  rfl

/-- Settles O28: each floor word by its taking, and the records it lifts bogie by bogie. -/
theorem floorWordsLiftTheFactors : Obligations.FloorWordsLiftTheFactors := by
  refine ⟨fun w s stands => ?_, fun w s stands => ?_⟩
  · refine ⟨_, exec_correctionFloorWrite stands, rfl, fun y => liftC_get .., fun e running => ?_, rfl⟩
    refine ⟨{ e with bogies := liftC (bits w 0 16) e.bogies }, ?_, fun y => ?_, rfl⟩
    · change s.ev.running.map _ = _
      rw [running]
      rfl
    · rw [liftC_get]
  · exact ⟨_, exec_ceilingFloorWrite stands, rfl, fun y => ceilingFloorWritten_record .., rfl, rfl, rfl⟩

end Sys2Proof.Machine
end

section
/-! PROOF of `Obligations.SlipAndCorrectionFollowTheirSteps`: the tests of an axle's state, a slip record's classification,
a bogie's update, and the end of an excursion timer. -/

namespace Sys2Proof.Machine

/-! ### The state of an axle (R87, R89, R91) -/

section Next

variable (x : AxleInput) (c : Nat) (counted countedAcc : Int)

theorem AxleInput.breaksAway_iff :
    x.breaksAway counted countedAcc = true
      ↔ (x.excursion : Int) ≤ counted ∨ (x.slip.accelerationLimit : Int) ≤ countedAcc := by
  simp only [AxleInput.breaksAway, Bool.or_eq_true, decide_eq_true_eq]

theorem AxleInput.next_of_excursion :
    x.next .excursion c counted countedAcc = if counted < x.recovery then .recovery else .excursion := rfl

/-- Before R89's tests an axle that was EXCLUDED counts as ADHERING (R88). -/
theorem AxleInput.next_of_excluded (old : SlipState) :
    x.next (if old = .excluded then .adhering else old) c counted countedAcc = x.next old c counted countedAcc := by
  cases old <;> rfl

variable {x c counted countedAcc}

theorem AxleInput.next_of_breaks {old : SlipState} (other : old ≠ .excursion)
    (breaks : x.breaksAway counted countedAcc = true) : x.next old c counted countedAcc = .excursion := by
  cases old with
  | excursion => exact absurd rfl other
  | recovery => exact if_pos breaks
  | adhering | creep | excluded => exact if_pos breaks

theorem AxleInput.next_of_recovery (holds : ¬ x.breaksAway counted countedAcc = true) :
    x.next .recovery c counted countedAcc = if c = 1000 ∧ counted < x.creep then .adhering else .recovery := if_neg holds

theorem AxleInput.next_of_running {old : SlipState} (other : old ≠ .excursion) (ended : old ≠ .recovery)
    (holds : ¬ x.breaksAway counted countedAcc = true) :
    x.next old c counted countedAcc = if (x.creep : Int) ≤ counted then .creep else .adhering := by
  cases old with
  | excursion => exact absurd rfl other
  | recovery => exact absurd rfl ended
  | adhering | creep | excluded => exact if_neg holds

end Next

/-! ### A slip record (R85, R86, R88, R90, R93) -/

section Record

variable {r : SlipRecord} {x : AxleInput} {p : Sample} {c : Nat}

/-- The repeat window has run out: the odometer has reached the mark of a count above 0 (R93). -/
def SlipRecord.lapsed (r : SlipRecord) (odometer : Odo) : Bool :=
  r.mark.any fun m => decide (0 < r.repeats) && reached odometer m

theorem SlipRecord.judged_eq (r : SlipRecord) (odometer : Odo) :
    r.judged odometer
      = { r with
          repeats := if r.lapsed odometer then 0 else r.repeats, mark := if r.lapsed odometer then none else r.mark } := by
  cases mark : r.mark with
  | none =>
    simp only [SlipRecord.judged, SlipRecord.lapsed, mark, Option.any_none, Bool.false_eq_true, if_false]
    rw [← mark]
  | some m =>
    simp only [SlipRecord.judged, SlipRecord.lapsed, mark, Option.any_some, Bool.and_eq_true, decide_eq_true_eq]
    split
    · rfl
    · rw [← mark]

/-- The signed slip of an axle (R85). -/
def slipOf (ref : RefResults) (p : Sample) : Int :=
  axleSign ref.sense (p.filtered.getD 0) * p.filtered.getD 0 - ref.magnitude

/-- The signed relative acceleration of an axle (R85). -/
def relativeAcceleration (ref : RefResults) (p : Sample) : Int :=
  axleSign ref.sense (p.filtered.getD 0) * (p.acceleration.getD 0 - ref.acceleration)

/-- The state that a sample leads to (R89, R91). -/
def SlipRecord.stateAfter (r : SlipRecord) (x : AxleInput) (p : Sample) (c : Nat) : SlipState :=
  x.next r.state c (x.side.counted (slipOf x.ref p)) (x.side.counted (relativeAcceleration x.ref p))

/-- The record that a usable sample leads to, apart from an entry to EXCURSION (R85 to R89, R91, R93). -/
def SlipRecord.formed (r : SlipRecord) (x : AxleInput) (p : Sample) (c : Nat) : SlipRecord :=
  { r.judged x.ref.odometer with
    state := r.stateAfter x p c, slip := some (slipOf x.ref p), counted := some (x.side.counted (slipOf x.ref p))
    countedAcc := some (x.side.counted (relativeAcceleration x.ref p)), kind := r.kind, entered := false }

theorem SlipRecord.classify_of_unusable (h : ¬ p.usable = true) :
    r.classify x p c = (r.judged x.ref.odometer).exclude := if_neg h

/-- A sample leads into EXCURSION from another state (R90). -/
def SlipRecord.enters (r : SlipRecord) (x : AxleInput) (p : Sample) (c : Nat) : Bool :=
  r.stateAfter x p c == .excursion && r.state != .excursion

theorem SlipRecord.enters_iff :
    r.enters x p c = true ↔ r.stateAfter x p c = .excursion ∧ r.state ≠ .excursion := by
  simp only [SlipRecord.enters, Bool.and_eq_true, beq_iff_eq, bne_iff_ne]

theorem SlipRecord.classify_of_usable (h : p.usable = true) :
    r.classify x p c
      = { r.formed x p c with
          entered := r.enters x p c
          kind := if r.enters x p c then some (x.side.kind (slipOf x.ref p) (relativeAcceleration x.ref p)) else r.kind
          repeats := if r.enters x p c then min 15 ((r.judged x.ref.odometer).repeats + 1)
            else (r.judged x.ref.odometer).repeats
          mark := if r.enters x p c then some (advance x.ref.odometer (x.slip.repeatWindow * 100))
            else (r.judged x.ref.odometer).mark } := if_pos h

/-- Without an entry to EXCURSION kind, count and mark stand (R90). -/
theorem SlipRecord.classify_of_no_entry (h : p.usable = true)
    (stays : r.stateAfter x p c ≠ .excursion ∨ r.state = .excursion) : r.classify x p c = r.formed x p c := by
  have none : r.enters x p c = false :=
    Bool.eq_false_iff.2 fun entry => stays.elim (· (enters_iff.1 entry).1) (enters_iff.1 entry).2
  rw [classify_of_usable h, none]
  rfl

/-- An entry to EXCURSION sets the kind, raises the count and sets the mark (R86, R90). -/
theorem SlipRecord.classify_of_entry (h : p.usable = true) (state : r.stateAfter x p c = .excursion)
    (before : r.state ≠ .excursion) :
    r.classify x p c
      = { r.formed x p c with
          kind := some (x.side.kind (slipOf x.ref p) (relativeAcceleration x.ref p)), entered := true
          repeats := min 15 ((r.judged x.ref.odometer).repeats + 1)
          mark := some (advance x.ref.odometer (x.slip.repeatWindow * 100)) } := by
  have entry : r.enters x p c = true := enters_iff.2 ⟨state, before⟩
  rw [classify_of_usable h, entry]
  rfl

end Record

/-! ### The axle and bogie stages (R83, R86, R88, R96) -/

section Stages

variable {s : State}

theorem Side.of_eq (s : State) :
    Side.of (decide (s.ctl.part = .fallback)) s.intent.accepted.regime
      = if s.ctl.part = .fallback then .both
        else match s.intent.accepted.regime with
          | .traction => .traction
          | .coast => .both
          | .hold | .serviceBrake | .emergency => .braking := by
  simp only [Side.of, decide_eq_true_eq]
  cases s.intent.accepted.regime <;> rfl

/-- In full mode each axle is classified with its sample (R83). -/
theorem classified_of_inForce (h : s.inForce = true) (ref : RefResults) (samples : PerAxle Sample) (i : Axle) :
    (s.classified ref samples).get i
      = (s.ev.slips.get i).classify (s.axleInput ref) (samples.get i) (s.ev.bogies.get i.bogie).c := by
  simp only [State.classified, PerAxle.get_build, if_pos h]

theorem classified_of_limited (h : s.inForce = false) (ref : RefResults) (samples : PerAxle Sample) (i : Axle) :
    (s.classified ref samples).get i = (s.ev.slips.get i).limitedMode (samples.get i) := by
  simp only [State.classified, PerAxle.get_build, h, Bool.false_eq_true, if_false]

/-- In full mode each bogie is updated from its two axles before and after (R83, R96). -/
theorem updated_of_inForce (h : s.inForce = true) (slips : PerAxle SlipRecord) (y : Bogie) :
    (s.updated slips).get y
      = (s.ev.bogies.get y).update s.cfg.tun.slip (s.ev.slips.get y.axles.1) (s.ev.slips.get y.axles.2)
          (slips.get y.axles.1) (slips.get y.axles.2) := by
  simp only [State.updated, PerBogie.get_build, if_pos h]

theorem updated_of_limited (h : s.inForce = false) (slips : PerAxle SlipRecord) (y : Bogie) :
    (s.updated slips).get y = BogieRecord.reset := by
  simp only [State.updated, PerBogie.get_build, h, Bool.false_eq_true, if_false]

end Stages

/-! ### A bogie record (R94, R96, R97) -/

section Update

variable {b : BogieRecord} {t : SlipTuning} {x0 y0 x y : SlipRecord}

/-- Both axles of the bogie are EXCLUDED (R97). -/
abbrev BothExcluded (x y : SlipRecord) : Prop := x.state = .excluded ∧ y.state = .excluded

/-- An axle enters EXCURSION on a bogie of which none was in it (R96). -/
abbrev OnsetBegins (x0 y0 x y : SlipRecord) : Prop :=
  (x.entered = true ∨ y.entered = true) ∧ x0.state ≠ .excursion ∧ y0.state ≠ .excursion

/-- An axle of the bogie is in EXCURSION. -/
def anyExcursion (x y : SlipRecord) : Bool := x.state == .excursion || y.state == .excursion

/-- The onset as the stage tests it (R96). -/
def isOnset (x0 y0 x y : SlipRecord) : Bool := (x.entered || y.entered) && !anyExcursion x0 y0

/-- A repeat count of the bogie's axles has reached the limit (R94). -/
def reachesLimit (t : SlipTuning) (x y : SlipRecord) : Bool :=
  decide (t.repeatLimit ≤ x.repeats) || decide (t.repeatLimit ≤ y.repeats)

theorem anyExcursion_iff : anyExcursion x y = true ↔ x.state = .excursion ∨ y.state = .excursion := by
  simp only [anyExcursion, Bool.or_eq_true, beq_iff_eq]

theorem isOnset_iff : isOnset x0 y0 x y = true ↔ OnsetBegins x0 y0 x y := by
  simp only [isOnset, OnsetBegins, Bool.and_eq_true, Bool.or_eq_true, Bool.not_eq_true', ← Bool.not_eq_true,
    anyExcursion_iff, not_or, ne_eq]

theorem reachesLimit_iff : reachesLimit t x y = true ↔ t.repeatLimit ≤ x.repeats ∨ t.repeatLimit ≤ y.repeats := by
  simp only [reachesLimit, Bool.or_eq_true, decide_eq_true_eq]

theorem anyGripping_iff :
    (x.gripping || y.gripping) = true
      ↔ (x.state = .recovery ∨ x.state = .adhering) ∨ (y.state = .recovery ∨ y.state = .adhering) := by
  simp only [SlipRecord.gripping, Bool.or_eq_true, beq_iff_eq]

/-- A blind bogie has C at the floor and no onset (R97). -/
theorem BogieRecord.update_of_blind (h : BothExcluded x y) :
    b.update t x0 y0 x y
      = { c := t.floor, onset := none, inExcursion := false, poor := reachesLimit t x y
          becamePoor := reachesLimit t x y && !b.poor, blind := true, floorPending := false } := if_pos h

theorem BogieRecord.update_of_seeing (h : ¬ BothExcluded x y) :
    b.update t x0 y0 x y
      = { c := if b.floorPending then t.floor
            else correct t b.c (isOnset x0 y0 x y) (anyExcursion x y) (x.gripping || y.gripping)
          onset := if isOnset x0 y0 x y then onsetKind x y else none
          inExcursion := anyExcursion x y, poor := reachesLimit t x y
          becamePoor := reachesLimit t x y && !b.poor, blind := false, floorPending := false } := if_neg h

/-- A floor-pending mark sets C to the floor (R92, R96). -/
theorem BogieRecord.update_c_of_pending (h : ¬ BothExcluded x y) (pending : b.floorPending = true) :
    (b.update t x0 y0 x y).c = t.floor := by
  rw [update_of_seeing h]
  exact if_pos pending

/-- C by the first that holds of an onset, an excursion that goes on, and a gripping axle (R96). -/
theorem BogieRecord.update_c_of_unmarked (h : ¬ BothExcluded x y) (unmarked : b.floorPending = false) :
    (b.update t x0 y0 x y).c
      = if OnsetBegins x0 y0 x y then
          max t.floor (b.c * t.drop / 1000)
        else if x.state = .excursion ∨ y.state = .excursion then max t.floor (b.c - t.decay)
        else if b.c < 1000
            ∧ ((x.state = .recovery ∨ x.state = .adhering) ∨ (y.state = .recovery ∨ y.state = .adhering)) then
          min 1000 (b.c + t.recoveryStep)
        else b.c := by
  rw [update_of_seeing h]
  simp only [unmarked, correct, isOnset_iff, anyExcursion_iff, anyGripping_iff, Bool.false_eq_true, if_false]

theorem BogieRecord.update_excursion (h : ¬ BothExcluded x y) :
    (b.update t x0 y0 x y).blind = false
      ∧ ((b.update t x0 y0 x y).inExcursion = true ↔ x.state = .excursion ∨ y.state = .excursion) := by
  rw [update_of_seeing h]
  exact ⟨rfl, anyExcursion_iff⟩

theorem BogieRecord.update_onset_of_steady (h : ¬ BothExcluded x y) (steady : ¬ OnsetBegins x0 y0 x y) :
    (b.update t x0 y0 x y).onset = none := by
  rw [update_of_seeing h]
  exact if_neg (mt isOnset_iff.1 steady)

theorem BogieRecord.update_onset_of_onset (h : ¬ BothExcluded x y) (begins : OnsetBegins x0 y0 x y) :
    (b.update t x0 y0 x y).onset = onsetKind x y := by
  rw [update_of_seeing h]
  exact if_pos (isOnset_iff.2 begins)

theorem onsetKind_of_first (first : x.entered = true) (second : y.entered = false) : onsetKind x y = x.kind := by
  simp only [onsetKind, first, second, Bool.and_false, Bool.false_eq_true, if_false, if_true]

theorem onsetKind_of_second (first : x.entered = false) (second : y.entered = true) : onsetKind x y = y.kind := by
  simp only [onsetKind, first, second, Bool.false_and, Bool.false_eq_true, if_false, if_true]

theorem onsetKind_of_both (first : x.entered = true) (second : y.entered = true) :
    onsetKind x y = if x.counted.getD 0 < y.counted.getD 0 then y.kind else x.kind := by
  simp only [onsetKind, first, second, Bool.and_self, if_true]

variable (b t x0 y0 x y)

theorem BogieRecord.update_poor_iff :
    (b.update t x0 y0 x y).poor = true ↔ t.repeatLimit ≤ x.repeats ∨ t.repeatLimit ≤ y.repeats := by
  by_cases h : BothExcluded x y
  · rw [update_of_blind h]
    exact reachesLimit_iff
  · rw [update_of_seeing h]
    exact reachesLimit_iff

theorem BogieRecord.update_becamePoor_iff :
    (b.update t x0 y0 x y).becamePoor = true ↔ (b.update t x0 y0 x y).poor = true ∧ b.poor = false := by
  by_cases h : BothExcluded x y
  · rw [update_of_blind h, Bool.and_eq_true, Bool.not_eq_true']
  · rw [update_of_seeing h, Bool.and_eq_true, Bool.not_eq_true']

theorem BogieRecord.update_floorPending : (b.update t x0 y0 x y).floorPending = false := by
  by_cases h : BothExcluded x y
  · rw [update_of_blind h]
  · rw [update_of_seeing h]

end Update

/-! ### The end of an excursion timer (R92) -/

/-- The records with the bogie of an axle marked floor pending (R92). -/
def markFloorPending (i : Axle) (x : PerBogie BogieRecord) : PerBogie BogieRecord :=
  x.set i.bogie { x.get i.bogie with floorPending := true }

theorem markFloorPending_get (i : Axle) (x : PerBogie BogieRecord) (y : Bogie) :
    (markFloorPending i x).get y = if y = i.bogie then { x.get y with floorPending := true } else x.get y := by
  rw [markFloorPending, PerBogie.get_set]
  split
  · rename_i own
    rw [own]
  · rfl

theorem excursionEnd_ev (i : Axle) (s : State) :
    (excursionEnd i s).ev
      = { s.ev with
          timers := s.ev.timers.set i none, bogies := markFloorPending i s.ev.bogies
          running := s.ev.running.map fun e => { e with bogies := markFloorPending i e.bogies } } := rfl

/-- An excursion timer that runs expires (R92; log 4). -/
theorem exec_excursionTimerExpiry {i : Axle} {d : Nat} {s : State} (h : s.ev.timers.get i = some d) :
    exec (.excursionTimerExpiry i) s = .next (finish (excursionEnd i { s with now := max s.now d })) := by
  change Host.Outcome.next (finish (onExpiry (s.ev.timers.get i) (excursionEnd i) s)) = _
  rw [h, onExpiry_some]

/-! ### The obligation -/

/-- Settles O46: the parts of an evaluation's axle and bogie stages one by one, and the timer's expiry. -/
theorem slipAndCorrectionFollowTheirSteps : Obligations.SlipAndCorrectionFollowTheirSteps := by
  refine ⟨fun x old c slip acc => ?_, fun r x p c => ?_, fun ref samples slips s => ?_, fun b t x0 y0 x y => ?_,
    fun i d s running => ?_⟩
  · intro limit breaks n
    have breaksIs : x.breaksAway slip acc = true ↔ breaks := x.breaksAway_iff ..
    refine ⟨fun state => ?_, fun other begins => AxleInput.next_of_breaks other (breaksIs.2 begins),
      fun state holds => ?_, fun other ended holds => AxleInput.next_of_running other ended (mt breaksIs.1 holds)⟩
    · subst state
      exact x.next_of_excursion ..
    · subst state
      exact AxleInput.next_of_recovery (mt breaksIs.1 holds)
  · intro n lapsed repeats mark usable v sign slip acc counted kind state formed
    have usableIs : p.usable = true ↔ usable := p.usable_iff
    have judged : r.judged x.ref.odometer = { r with repeats := repeats, mark := mark } := r.judged_eq _
    have stateIs : r.stateAfter x p c = state := (x.next_of_excluded ..).symm
    have formedIs : r.formed x p c = formed := by
      rw [SlipRecord.formed, judged, stateIs]
      rfl
    refine ⟨fun unusable => ?_, fun use stays => ?_, fun use into before => ?_⟩
    · exact (SlipRecord.classify_of_unusable (mt usableIs.1 unusable)).trans (by rw [judged]; rfl)
    · exact (SlipRecord.classify_of_no_entry (usableIs.2 use) (by rwa [stateIs])).trans formedIs
    · refine (SlipRecord.classify_of_entry (usableIs.2 use) (stateIs.trans into) before).trans ?_
      rw [formedIs, judged]
      rfl
  · intro side
    have sideIs : Side.of (decide (s.ctl.part = .fallback)) s.intent.accepted.regime = side := Side.of_eq s
    refine ⟨fun force => ⟨fun i => ⟨s.timer (ms s.cfg.tun.slip.excursionTime), ?_⟩,
      updated_of_inForce force slips .a, updated_of_inForce force slips .t, updated_of_inForce force slips .b⟩,
      fun limited => ⟨fun i => ?_, updated_of_limited limited slips⟩⟩
    · rw [classified_of_inForce force, State.axleInput, sideIs]
    · intro r cleared
      rw [classified_of_limited limited, SlipRecord.limitedMode]
      simp only [Sample.usable_iff]
      rfl
  · intro n blind onset isIn grips
    have blinded (h : blind) : n = _ := BogieRecord.update_of_blind h
    refine ⟨fun h => ?_, BogieRecord.update_c_of_pending, BogieRecord.update_c_of_unmarked,
      BogieRecord.update_excursion, BogieRecord.update_onset_of_steady,
      fun h begins first second => (BogieRecord.update_onset_of_onset h begins).trans (onsetKind_of_first first second),
      fun h begins first second => (BogieRecord.update_onset_of_onset h begins).trans (onsetKind_of_second first second),
      fun h begins first second => (BogieRecord.update_onset_of_onset h begins).trans (onsetKind_of_both first second),
      BogieRecord.update_poor_iff .., BogieRecord.update_becamePoor_iff .., BogieRecord.update_floorPending ..⟩
    rw [blinded h]
    exact ⟨rfl, rfl, rfl, rfl⟩
  · refine ⟨_, exec_excursionTimerExpiry running, rfl, rfl, fun y => markFloorPending_get ..,
      fun j => PerAxle.get_set .., fun e copied => ?_, rfl, rfl, rfl⟩
    refine ⟨{ e with bogies := markFloorPending i e.bogies }, ?_, rfl, fun y => markFloorPending_get ..⟩
    rw [excursionEnd_ev]
    change s.ev.running.map _ = _
    rw [copied]
    rfl

end Sys2Proof.Machine
end

section
/-! PROOF of `Obligations.SentFramesAreGoodBehind`: the CRC-8, the layout of a frame's bytes and its reading, how a completed
frame is judged, and a transmit start. -/

namespace Sys2Proof.Machine

/-! ### The CRC-8 (R160) -/

theorem crcShift_eq (r : FrameByte) : crcShift r = if 128 ≤ r.toNat then (r <<< 1) ^^^ 0x07 else r <<< 1 := by
  simp only [crcShift, BitVec.msb_eq_decide, decide_eq_true_eq]

/-- Each byte is combined into the CRC-8 register, which is then shifted eight times. -/
theorem crc8_eq (bytes : List FrameByte) :
    crc8 bytes = bytes.foldl (fun r b => Nat.repeat crcShift 8 (r ^^^ b)) 0 := rfl

/-! ### Codes -/

/-- Every regime code below 5 is some regime's. -/
theorem Regime.exists_code {c : BitVec 3} (valid : c.toNat < 5) : ∃ r : Regime, c = r.code := by
  have listed : c = Regime.hold.code ∨ c = Regime.traction.code ∨ c = Regime.coast.code ∨ c = Regime.serviceBrake.code
      ∨ c = Regime.emergency.code := by
    revert c; decide
  obtain h | h | h | h | h := listed <;> exact ⟨_, h⟩

/-- Every direction code but 3 is some direction's. -/
theorem Direction.exists_code {c : BitVec 2} (valid : c.toNat ≠ 3) : ∃ d : Direction, c = d.code := by
  have listed : c = Direction.neutral.code ∨ c = Direction.forward.code ∨ c = Direction.reverse.code := by
    revert c; decide
  obtain h | h | h := listed <;> exact ⟨_, h⟩

/-! ### The bytes of a frame (R160, R167, 12.4) -/

/-- Byte 3 of a frame. -/
def Frame.flags (f : Frame) : FrameByte :=
  BitVec.ofBool f.sand ++ BitVec.ofBool f.notice.isSome ++ BitVec.ofBool f.valid ++ f.direction.code ++ f.regime.code

/-- The reference of a frame as its bytes 4 and 5 carry it. -/
def Frame.carried (f : Frame) : BitVec 16 := if f.valid then signed16 f.reference else 0

/-- Byte 6 of a frame: the code of the notice's kind, 0 without a notice. -/
def Frame.kindByte (f : Frame) : FrameByte := f.notice.elim 0 fun n => n.1.code

/-- Byte 7 of a frame: the severity of the notice, 0 without a notice. -/
def Frame.severityByte (f : Frame) : FrameByte := f.notice.elim 0 fun n => BitVec.ofNat 8 n.2

/-- Bytes 2 to 7 of a frame, over which its check is formed. -/
def Frame.body (position : Nat) (f : Frame) : List FrameByte :=
  [BitVec.ofNat 8 position, f.flags, f.carried.extractLsb' 8 8, f.carried.extractLsb' 0 8, f.kindByte, f.severityByte]

theorem Frame.encode_eq (position : Nat) (f : Frame) :
    f.encode position = [0xA5] ++ f.body position ++ [crc8 (f.body position)] := by
  obtain ⟨regime, direction, valid, reference, notice, sand⟩ := f
  cases notice <;> rfl

section Flags

variable (f : Frame)

theorem Frame.flags_regime : f.flags.extractLsb' 0 3 = f.regime.code := BitVec.extractLsb'_append_eq_right

theorem Frame.flags_direction : f.flags.extractLsb' 3 2 = f.direction.code :=
  (BitVec.extractLsb'_append_eq_of_le (by decide)).trans BitVec.extractLsb'_append_eq_right

theorem Frame.flags_valid : f.flags.getLsbD 5 = f.valid := by
  simp only [Frame.flags, BitVec.getLsbD_append]
  simp

theorem Frame.flags_notice : f.flags.getLsbD 6 = f.notice.isSome := by
  simp only [Frame.flags, BitVec.getLsbD_append]
  simp

theorem Frame.flags_sand : f.flags.getLsbD 7 = f.sand := by
  simp only [Frame.flags, BitVec.getLsbD_append]
  simp

end Flags

/-- A signed value of 16 bits is read as it was placed. -/
theorem signed16_toInt {v : Int} (low : -32768 ≤ v) (high : v ≤ 32767) : (signed16 v).toInt = v := by
  rw [signed16, min_eq_right high, max_eq_right low]
  exact BitVec.toInt_ofInt_eq_self (by decide) (by omega) (by omega)

/-- Two bytes of a 16-bit field put together again. -/
theorem halves_append (r : BitVec 16) : r.extractLsb' 8 8 ++ r.extractLsb' 0 8 = r :=
  (BitVec.extractLsb'_append_extractLsb'_eq_extractLsb' (x := r) (by decide)).trans BitVec.extractLsb'_eq_self

/-! ### Reading a frame (R161) -/

section Read

variable {flags hi lo kind severity : FrameByte}

/-- A regime code above 4 or a direction code of 3 makes a frame invalid, and so does a notice of a kind other than 1 and
2. -/
theorem Frame.ofBytes_of_invalid
    (h : 5 ≤ (flags.extractLsb' 0 3).toNat ∨ (flags.extractLsb' 3 2).toNat = 3
      ∨ (flags.getLsbD 6 = true ∧ kind ≠ 1 ∧ kind ≠ 2)) :
    Frame.ofBytes flags hi lo kind severity = none := by
  unfold Frame.ofBytes
  obtain regime | direction | ⟨noticed, spin, slide⟩ := h
  · rw [Regime.ofCode_of_ge regime]
  · rw [Direction.ofCode_of_three direction]
    cases Regime.ofCode (flags.extractLsb' 0 3) <;> rfl
  · cases Regime.ofCode (flags.extractLsb' 0 3) with
    | none => rfl
    | some r =>
      cases Direction.ofCode (flags.extractLsb' 3 2) with
      | none => rfl
      | some d => simp only [noticed, if_true, spin, slide, if_false]

/-- Bytes with the codes of a regime and a direction, and of a kind where a notice is present, are read as they stand. -/
theorem Frame.ofBytes_of_valid {r : Regime} {d : Direction} {n : Option (Kind × Nat)}
    (regime : flags.extractLsb' 0 3 = r.code) (direction : flags.extractLsb' 3 2 = d.code)
    (noticed : flags.getLsbD 6 = n.isSome) (content : ∀ x, n = some x → kind = x.1.code ∧ severity.toNat = x.2) :
    Frame.ofBytes flags hi lo kind severity
      = some { regime := r, direction := d, valid := flags.getLsbD 5, reference := (hi ++ lo).toInt, notice := n
               sand := flags.getLsbD 7 } := by
  simp only [Frame.ofBytes, regime, direction, Regime.ofCode_code, Direction.ofCode_code, noticed]
  cases n with
  | none => rfl
  | some x =>
    obtain ⟨k, v⟩ := x
    obtain ⟨rfl, rfl⟩ := content _ rfl
    cases k <;> rfl

/-- What a good frame holds by the layout of 12.4. -/
def Frame.ReadFrom (f : Frame) (flags hi lo kind severity : FrameByte) : Prop :=
  f.regime.code.toNat = (flags.extractLsb' 0 3).toNat ∧ f.direction.code.toNat = (flags.extractLsb' 3 2).toNat
    ∧ f.valid = flags.getLsbD 5 ∧ f.sand = flags.getLsbD 7 ∧ f.reference = (hi ++ lo).toInt
    ∧ (¬ flags.getLsbD 6 = true → f.notice = none)
    ∧ (flags.getLsbD 6 = true → f.notice = some (if kind = 1 then .spin else .slide, severity.toNat))

/-- Bytes with valid codes are read by the layout of 12.4. -/
theorem Frame.exists_ofBytes (regime : (flags.extractLsb' 0 3).toNat < 5) (direction : (flags.extractLsb' 3 2).toNat ≠ 3)
    (notice : flags.getLsbD 6 = true → kind = 1 ∨ kind = 2) :
    ∃ f, Frame.ofBytes flags hi lo kind severity = some f ∧ f.ReadFrom flags hi lo kind severity := by
  obtain ⟨r, hr⟩ := Regime.exists_code regime
  obtain ⟨d, hd⟩ := Direction.exists_code direction
  by_cases noticed : flags.getLsbD 6 = true
  · refine ⟨_, Frame.ofBytes_of_valid (n := some (if kind = 1 then .spin else .slide, severity.toNat)) hr hd noticed
        fun x present => ?_, by rw [hr], by rw [hd], rfl, rfl, rfl, fun absent => absurd noticed absent, fun _ => rfl⟩
    obtain rfl := Option.some.inj present
    obtain rfl | rfl := notice noticed <;> exact ⟨rfl, rfl⟩
  · exact ⟨_, Frame.ofBytes_of_valid (n := none) hr hd (Bool.eq_false_iff.2 noticed) (fun _ present => nomatch present),
      by rw [hr], by rw [hd], rfl, rfl, rfl, fun _ => rfl, fun present => absurd present noticed⟩

end Read

/-- A frame is read as it was meant from the bytes that carry it. -/
theorem Frame.ofBytes_body {f : Frame} (invalid : f.valid = false → f.reference = 0) (low : -32768 ≤ f.reference)
    (high : f.reference ≤ 32767) (severity : ∀ k v, f.notice = some (k, v) → v ≤ 255) :
    Frame.ofBytes f.flags (f.carried.extractLsb' 8 8) (f.carried.extractLsb' 0 8) f.kindByte f.severityByte = some f := by
  have reference : f.carried.toInt = f.reference := by
    cases valid : f.valid with
    | false => simp [Frame.carried, valid, invalid valid]
    | true => simpa [Frame.carried, valid] using signed16_toInt low high
  rw [Frame.ofBytes_of_valid f.flags_regime f.flags_direction f.flags_notice fun x present => ?_, f.flags_valid,
    f.flags_sand, halves_append, reference]
  have small := severity x.1 x.2 present
  simp only [Frame.kindByte, Frame.severityByte, present, Option.elim_some, BitVec.toNat_ofNat, true_and]
  omega

/-! ### Judging a frame (R161) -/

section Judge

variable {position : Nat} {m place flags hi lo kind severity check : FrameByte}

theorem judgeFrame_of_wrong_crc (h : crc8 [place, flags, hi, lo, kind, severity] ≠ check) :
    judgeFrame position [m, place, flags, hi, lo, kind, severity, check] = .error .check := if_pos h

/-- A frame whose contents cannot be read fails as CHECK, be its CRC-8 right or wrong. -/
theorem judgeFrame_of_unreadable (h : Frame.ofBytes flags hi lo kind severity = none) :
    judgeFrame position [m, place, flags, hi, lo, kind, severity, check] = .error .check := by
  simp only [judgeFrame, h, ite_self]

theorem judgeFrame_of_readable {f : Frame} (crc : crc8 [place, flags, hi, lo, kind, severity] = check)
    (read : Frame.ofBytes flags hi lo kind severity = some f) :
    judgeFrame position [m, place, flags, hi, lo, kind, severity, check]
      = if place.toNat + 1 = position then .ok f else .error .position := by
  simp only [judgeFrame, crc, read, ne_eq, not_true_eq_false, if_false]

/-- Only a list of eight bytes can be a good frame. -/
theorem judgeFrame_of_length {bytes : List FrameByte} (h : bytes.length ≠ 8) :
    judgeFrame position bytes = .error .check := by
  unfold judgeFrame
  split
  · exact absurd rfl h
  · rfl

/-- A frame sent one place ahead is good and read as it was meant (R160, R161, R167). -/
theorem judgeFrame_encode {f : Frame} (near : position ≤ 2) (invalid : f.valid = false → f.reference = 0)
    (low : -32768 ≤ f.reference) (high : f.reference ≤ 32767) (severity : ∀ k v, f.notice = some (k, v) → v ≤ 255) :
    judgeFrame (position + 1) (f.encode position) = .ok f := by
  have sentBy : (BitVec.ofNat 8 position).toNat + 1 = position + 1 := by
    rw [BitVec.toNat_ofNat]
    omega
  rw [Frame.encode_eq]
  exact (judgeFrame_of_readable rfl (Frame.ofBytes_body invalid low high severity)).trans (if_pos sentBy)

end Judge

/-! ### A transmit start (R116, R166, R167) -/

/-- An expiry of the transmit timer that runs is a transmit start (R167; log 4). -/
theorem exec_transmitStart {d : Nat} {s : State} (h : s.chain.transmit = some d) :
    exec .transmitStart s = .next (finish (transmit { s with now := max s.now d })) := by
  change Host.Outcome.next (finish (onExpiry s.chain.transmit transmit s)) = _
  rw [h, onExpiry_some]

/-- The frame formed at a transmit start (R167). -/
theorem formFrame_eq (s : State) :
    s.formFrame
      = { regime := s.intent.accepted.regime, direction := s.intent.accepted.direction, valid := s.ref.source != .lost
          reference := if s.ref.sense = .reverse then -(s.ref.magnitude : Int) else s.ref.magnitude
          notice := s.ceil.outgoing.map fun x => (x.2, (s.ceil.records.get x.1.bogie).k / 4), sand := s.sandActive } := by
  rw [← signedSpeed_eq]
  rfl

/-! ### The obligation -/

/-- Settles O53: the transmit start, the frame it sends as a follower reads it, and the judging of any eight bytes. -/
theorem sentFramesAreGoodBehind : Obligations.SentFramesAreGoodBehind := by
  refine ⟨fun d s running => ?_, ⟨fun position f near invalid low high severity => ?_, ?_⟩,
    fun position m place flags hi lo kind severity check => ?_⟩
  · intro at' f
    have formed : ({ s with now := at' } : State).formFrame = f := formFrame_eq _
    rw [exec_transmitStart running, ← formed]
    rfl
  · exact ⟨judgeFrame_encode near invalid low high severity, by rw [Frame.encode_eq]; rfl, by rw [Frame.encode_eq]; rfl⟩
  · decide +kernel
  · intro shift crc regime direction noticed bad judged
    have shifts : crcShift = shift := funext crcShift_eq
    have crcs (bytes : List FrameByte) : crc8 bytes = crc bytes := by rw [crc8_eq, shifts]
    have good (fine : ¬ bad) : crc8 [place, flags, hi, lo, kind, severity] = check
        ∧ ∃ f, Frame.ofBytes flags hi lo kind severity = some f ∧ f.ReadFrom flags hi lo kind severity := by
      simp only [bad, not_or, not_and, ne_eq, not_not, ← crcs] at fine
      obtain ⟨crcRight, regime, direction, notice⟩ := fine
      exact ⟨crcRight, Frame.exists_ofBytes (not_le.1 regime) direction fun present =>
        or_iff_not_imp_left.2 (notice present)⟩
    refine ⟨crcs, fun wrong => ?_, fun fine elsewhere => ?_, fun fine ahead => ?_, fun bytes => judgeFrame_of_length⟩
    · obtain check | invalid := wrong
      · exact judgeFrame_of_wrong_crc (by rwa [crcs])
      · exact judgeFrame_of_unreadable (Frame.ofBytes_of_invalid invalid)
    · obtain ⟨crcRight, f, read, -⟩ := good fine
      exact (judgeFrame_of_readable crcRight read).trans (if_neg elsewhere)
    · obtain ⟨crcRight, f, read, contents⟩ := good fine
      exact ⟨f, (judgeFrame_of_readable crcRight read).trans (if_pos ahead), contents⟩

end Sys2Proof.Machine
end

section
/-! PROOF of `Obligations.CeilingsAndNoticesFollowThePass`, first part: the ceiling records, the choice of the entry that a
notice merges into, and the rail condition queue. -/

namespace Sys2Proof.Machine

/-! ### The ceiling records (R103, R106, R107, R114) -/

section Records

variable {r : CeilingRecord} {t : CeilingTuning} {ratio : Nat} {b : BogieRecord} {entered : Bool}

theorem CeilingRecord.step1_of_poor (h : b.becamePoor = true) :
    r.step1 t ratio b entered = { r with k := t.floor, clean := 0, restarted := true } := by
  simp [CeilingRecord.step1, h]

theorem CeilingRecord.step1_of_onset (h : b.becamePoor = false) (onset : b.onset ≠ none) :
    r.step1 t ratio b entered
      = { r with k := max t.floor (min r.k (ratio - t.margin)), clean := 0, restarted := true } := by
  simp [CeilingRecord.step1, h, Option.isSome_iff_ne_none.2 onset, lowerTo]

theorem CeilingRecord.step1_of_steady (h : b.becamePoor = false) (steady : b.onset = none) :
    r.step1 t ratio b entered = { r with clean := if entered then 0 else r.clean, restarted := entered } := by
  simp [CeilingRecord.step1, h, steady]

variable {floor severity raise step : Nat} {blind inExcursion : Bool}

theorem CeilingRecord.apply_k : (r.apply floor severity).k = max floor (min r.k severity) := rfl

theorem CeilingRecord.apply_of_lowered (h : (r.apply floor severity).k < r.k) :
    (r.apply floor severity).clean = 0 ∧ (r.apply floor severity).restarted = true :=
  ⟨if_pos h, (congrArg (r.restarted || ·) (decide_eq_true h)).trans (Bool.or_true _)⟩

theorem CeilingRecord.apply_of_kept (h : r.k ≤ (r.apply floor severity).k) :
    (r.apply floor severity).clean = r.clean ∧ (r.apply floor severity).restarted = r.restarted :=
  ⟨if_neg h.not_gt, (congrArg (r.restarted || ·) (decide_eq_false h.not_gt)).trans (Bool.or_false _)⟩

theorem CeilingRecord.step3_of_unclean (h : r.restarted = true ∨ blind = true ∨ inExcursion = true) :
    r.step3 raise step blind inExcursion = r := by
  rw [← Bool.or_eq_true, ← Bool.or_eq_true, ← Bool.or_assoc] at h
  exact if_pos h

/-- A clean step adds to the clean distance; each full 1,000 cm raises K (R107). -/
theorem CeilingRecord.step3_of_clean (restarted : r.restarted = false) (seeing : blind = false)
    (holding : inExcursion = false) :
    r.step3 raise step blind inExcursion
      = if 1000 ≤ r.clean + step then { r with clean := r.clean + step - 1000, k := min 1000 (r.k + raise) }
        else { r with clean := r.clean + step } := by
  simp [CeilingRecord.step3, restarted, seeing, holding]

/-- The effort ratio of a motor bogie is of its traction under a delivered TRACTION in ACTIVE, else of its brake (R106). -/
theorem State.ratio_motor (s : State) (regime : Regime) (m : Motor) :
    s.ratio regime m.bogie
      = if regime = .traction ∧ s.ctl.part = .active then
          effortRatio (s.ceil.records.get m.bogie).traction (s.cfg.str.nominal.get m)
        else
          effortRatio (s.ceil.records.get m.bogie).brake
            (s.cfg.tun.blend.edCap.get m + s.cfg.tun.blend.frCap.get m.bogie) := by
  cases m <;> rfl

end Records

/-! ### The entry of the queue whose distance differs least (R111) -/

/-- Of the entries of a queue that meet a condition, the first of those whose difference is least. -/
def FirstLeast (differs : Notice → Nat) (p : Notice → Prop) (q : List Notice) (e : Notice) : Prop :=
  ∃ before after, q = before ++ e :: after ∧ p e ∧ (∀ x ∈ before, p x → differs e < differs x)
    ∧ ∀ x ∈ after, p x → differs e ≤ differs x

section Closest

variable {differs : Notice → Nat} {p : Notice → Prop} {q : List Notice} {e x y : Notice}

theorem FirstLeast.mem (h : FirstLeast differs p q e) : e ∈ q := by
  obtain ⟨before, after, rfl, -⟩ := h
  exact List.mem_append_right _ List.mem_cons_self

/-- A head that differs more than the next entry is passed over. -/
theorem FirstLeast.skip_head (h : FirstLeast differs (fun _ => True) (y :: q) e) (farther : differs y < differs x) :
    FirstLeast differs (fun _ => True) (x :: y :: q) e := by
  obtain ⟨before, after, split, -, first, least⟩ := h
  refine ⟨x :: before, after, by rw [split, List.cons_append], trivial, List.forall_mem_cons.2 ⟨fun _ => ?_, first⟩, least⟩
  cases before with
  | nil =>
    obtain ⟨rfl, -⟩ := List.cons.inj split
    exact farther
  | cons z before =>
    obtain ⟨rfl, -⟩ := List.cons.inj split
    exact (first y List.mem_cons_self trivial).trans farther

/-- A second entry that does not differ less than the head is passed over. -/
theorem FirstLeast.skip_second (h : FirstLeast differs (fun _ => True) (x :: q) e) (farther : differs x ≤ differs y) :
    FirstLeast differs (fun _ => True) (x :: y :: q) e := by
  obtain ⟨before, after, split, -, first, least⟩ := h
  cases before with
  | nil =>
    obtain ⟨rfl, rfl⟩ := List.cons.inj split
    exact ⟨[], y :: q, rfl, trivial, List.forall_mem_nil _, List.forall_mem_cons.2 ⟨fun _ => farther, least⟩⟩
  | cons z before =>
    obtain ⟨rfl, rfl⟩ := List.cons.inj split
    have head := first x List.mem_cons_self trivial
    exact ⟨x :: y :: before, after, rfl, trivial,
      List.forall_mem_cons.2 ⟨fun _ => head, List.forall_mem_cons.2
        ⟨fun _ => head.trans_le farther, (List.forall_mem_cons.1 first).2⟩⟩, least⟩

/-- Of a queue's entries that meet a condition, taken by themselves, the first that differs least is so within the queue. -/
theorem FirstLeast.of_filter [DecidablePred p] (h : FirstLeast differs (fun _ => True) (q.filter fun x => p x) e) :
    FirstLeast differs p q e := by
  obtain ⟨before, after, split, -, first, least⟩ := h
  obtain ⟨front, back, rfl, rfl, tail⟩ := List.filter_eq_append_iff.1 split
  obtain ⟨passed, rest, rfl, others, meets, rfl⟩ := List.filter_eq_cons_iff.1 tail
  refine ⟨front ++ passed, rest, by rw [List.append_assoc], of_decide_eq_true meets, fun x hx px => ?_, fun x hx px => ?_⟩
  · obtain hx | hx := List.mem_append.1 hx
    · exact first x (List.mem_filter.2 ⟨hx, decide_eq_true px⟩) trivial
    · exact absurd (decide_eq_true px) (others x hx)
  · exact least x (List.mem_filter.2 ⟨hx, decide_eq_true px⟩) trivial

variable (odometer : Odo) (d : Nat)

/-- How much an entry's distance differs from a distance. -/
def differenceFrom (x : Notice) : Nat := gap (x.distance odometer) d

theorem foldl_closer_firstLeast (q : List Notice) (x : Notice) :
    FirstLeast (differenceFrom odometer d) (fun _ => True) (x :: q) (q.foldl (closer odometer d) x) := by
  induction q generalizing x with
  | nil => exact ⟨[], [], rfl, trivial, List.forall_mem_nil _, List.forall_mem_nil _⟩
  | cons y q ih =>
    rw [List.foldl_cons]
    by_cases nearer : differenceFrom odometer d y < differenceFrom odometer d x
    · rw [show closer odometer d x y = y from if_pos nearer]
      exact (ih y).skip_head nearer
    · rw [show closer odometer d x y = x from if_neg nearer]
      exact (ih x).skip_second (not_lt.1 nearer)

theorem closest_of_exists [DecidablePred p] (h : ∃ x ∈ q, p x) :
    ∃ e, closest odometer d (q.filter fun x => p x) = some e ∧ FirstLeast (differenceFrom odometer d) p q e := by
  obtain ⟨x, hx, px⟩ := h
  cases found : q.filter fun x => p x with
  | nil => exact absurd (decide_eq_true px) (List.filter_eq_nil_iff.1 found x hx)
  | cons y ys => exact ⟨_, rfl, FirstLeast.of_filter (found ▸ foldl_closer_firstLeast ..)⟩

theorem closest_of_forall [DecidablePred p] (h : ∀ x ∈ q, ¬ p x) : closest odometer d (q.filter fun x => p x) = none := by
  rw [List.filter_eq_nil_iff.2 fun x hx => by simp [h x hx]]
  rfl

end Closest

/-! ### The entry that a new notice merges into (R111) -/

section Merge

variable {odometer : Odo} {mergeDistance : Nat} {q : List Notice} {n e : Notice}

/-- A candidate for a new notice: an entry of its target within the merge distance (R111). -/
abbrev Notice.Candidate (odometer : Odo) (mergeDistance : Nat) (n x : Notice) : Prop :=
  x.target = n.target ∧ differenceFrom odometer (n.distance odometer) x ≤ mergeDistance

theorem mergeEntry_eq (odometer : Odo) (mergeDistance : Nat) (q : List Notice) (n : Notice) :
    mergeEntry odometer mergeDistance q n
      = (closest odometer (n.distance odometer) (q.filter fun x => n.Candidate odometer mergeDistance x)).or
          (if q.length < 8 then none
          else closest odometer (n.distance odometer) (q.filter fun x => x.target = n.target)) := by
  have candidates : (q.filter fun x => x.target = n.target).filter
      (fun x => gap (x.distance odometer) (n.distance odometer) ≤ mergeDistance)
      = q.filter fun x => n.Candidate odometer mergeDistance x := by
    rw [List.filter_filter]
    exact List.filter_congr fun x _ => (Bool.and_comm ..).trans (Bool.decide_and ..).symm
  simp only [mergeEntry, candidates]
  cases closest odometer (n.distance odometer) (q.filter fun x => n.Candidate odometer mergeDistance x) <;> rfl

theorem mergeEntry_of_candidate (h : ∃ x ∈ q, n.Candidate odometer mergeDistance x) :
    ∃ e, mergeEntry odometer mergeDistance q n = some e
      ∧ FirstLeast (differenceFrom odometer (n.distance odometer)) (n.Candidate odometer mergeDistance) q e := by
  obtain ⟨e, found, least⟩ := closest_of_exists odometer (n.distance odometer) h
  exact ⟨e, by rw [mergeEntry_eq, found, Option.some_or], least⟩

theorem mergeEntry_of_room (h : ∀ x ∈ q, ¬ n.Candidate odometer mergeDistance x) (room : q.length < 8) :
    mergeEntry odometer mergeDistance q n = none := by
  rw [mergeEntry_eq, closest_of_forall _ _ h, Option.none_or, if_pos room]

theorem mergeEntry_of_full (h : ∀ x ∈ q, ¬ n.Candidate odometer mergeDistance x) (full : 8 ≤ q.length)
    (same : ∃ x ∈ q, x.target = n.target) :
    ∃ e, mergeEntry odometer mergeDistance q n = some e
      ∧ FirstLeast (differenceFrom odometer (n.distance odometer)) (fun x => x.target = n.target) q e := by
  obtain ⟨e, found, least⟩ := closest_of_exists odometer (n.distance odometer) same
  exact ⟨e, by rw [mergeEntry_eq, closest_of_forall _ _ h, Option.none_or, if_neg full.not_gt, found], least⟩

theorem mergeEntry_of_no_target (h : ∀ x ∈ q, x.target ≠ n.target) : mergeEntry odometer mergeDistance q n = none := by
  rw [mergeEntry_eq, closest_of_forall _ _ fun x hx candidate => h x hx candidate.1, closest_of_forall _ _ h, ite_self,
    Option.none_or]

/-- A notice merges into an entry of the queue alone. -/
theorem mergeEntry_mem (h : mergeEntry odometer mergeDistance q n = some e) : e ∈ q := by
  by_cases candidate : ∃ x ∈ q, n.Candidate odometer mergeDistance x
  · obtain ⟨x, found, least⟩ := mergeEntry_of_candidate candidate
    exact Option.some.inj (h.symm.trans found) ▸ least.mem
  · have others : ∀ x ∈ q, ¬ n.Candidate odometer mergeDistance x := fun x hx hp => candidate ⟨x, hx, hp⟩
    by_cases same : ∃ x ∈ q, x.target = n.target
    · by_cases room : q.length < 8
      · exact absurd (h.symm.trans (mergeEntry_of_room others room)) nofun
      · obtain ⟨x, found, least⟩ := mergeEntry_of_full others (not_lt.1 room) same
        exact Option.some.inj (h.symm.trans found) ▸ least.mem
    · exact absurd (h.symm.trans (mergeEntry_of_no_target fun x hx hp => same ⟨x, hx, hp⟩)) nofun

end Merge

/-! ### The place of a notice in the queue (R110, R111) -/

section Place

variable {odometer : Odo} {mergeDistance : Nat} {q q' rest : List Notice} {n e : Notice}

theorem advance_zero (m : Odo) : advance m 0 = m := BitVec.add_zero m

theorem advance_one_advance (m : Odo) (j : Nat) : advance (advance m 1) j = advance m (j + 1) := by
  rw [advance, advance, advance, BitVec.add_assoc, ← BitVec.ofNat_add, Nat.add_comm 1 j]

/-- A mark is advanced over marks that entries have, and stops at one that none has unless its steps run out. -/
theorem freeMark_spec (q : List Notice) (steps : Nat) (m : Odo) :
    ∃ k ≤ steps, freeMark q steps m = advance m k ∧ (∀ j < k, ∃ y ∈ q, y.mark = advance m j)
      ∧ (k < steps → ∀ y ∈ q, y.mark ≠ advance m k) := by
  induction steps generalizing m with
  | zero => exact ⟨0, le_rfl, (advance_zero m).symm, fun j hj => absurd hj j.not_lt_zero, fun h => absurd h (lt_irrefl 0)⟩
  | succ steps ih =>
    by_cases taken : ∃ y ∈ q, y.mark = m
    · obtain ⟨k, within, mark, passed, free⟩ := ih (advance m 1)
      simp only [advance_one_advance] at mark passed free
      refine ⟨k + 1, Nat.succ_le_succ within, (if_pos (by simpa using taken)).trans mark, fun j hj => ?_,
        fun h => free (Nat.lt_of_succ_lt_succ h)⟩
      cases j with
      | zero => simpa only [advance_zero] using taken
      | succ j => exact passed j (Nat.lt_of_succ_lt_succ hj)
    · refine ⟨0, Nat.zero_le _, (if_neg (by simpa using taken)).trans (advance_zero m).symm,
        fun j hj => absurd hj j.not_lt_zero, fun _ y hy same => taken ⟨y, hy, same.trans (advance_zero m)⟩⟩

/-- A queue has fewer entries than there are marks from any one up to a length beyond its own. -/
theorem exists_free_mark (small : q.length < 2 ^ 32) (m : Odo) :
    ¬ ∀ j ≤ q.length, ∃ y ∈ q, y.mark = advance m j := by
  intro taken
  have distinct : ((List.range (q.length + 1)).map fun j => advance m j).Nodup := by
    refine List.Nodup.map_on (fun i hi j hj same => ?_) List.nodup_range
    rw [List.mem_range] at hi hj
    have := congrArg BitVec.toNat ((BitVec.add_right_inj _).1 same)
    simp only [BitVec.toNat_ofNat] at this
    omega
  have among : (List.range (q.length + 1)).map (fun j => advance m j) ⊆ q.map (·.mark) := by
    intro mark hm
    obtain ⟨j, hj, rfl⟩ := List.mem_map.1 hm
    obtain ⟨y, hy, same⟩ := taken j (Nat.le_of_lt_succ (List.mem_range.1 hj))
    exact List.mem_map.2 ⟨y, hy, same⟩
  have := (List.subperm_of_subset distinct among).length_le
  simp at this

/-- The mark of a notice is advanced to the first that no entry has (R111). -/
theorem freed_mark (small : q.length < 2 ^ 32) (n : Notice) :
    ∃ k, n.freed q = { n with mark := advance n.mark k } ∧ (∀ y ∈ q, y.mark ≠ advance n.mark k)
      ∧ ∀ j < k, ∃ y ∈ q, y.mark = advance n.mark j := by
  obtain ⟨k, within, mark, passed, free⟩ := freeMark_spec q q.length n.mark
  refine ⟨k, by rw [Notice.freed, mark], ?_, passed⟩
  by_cases steps : k < q.length
  · exact free steps
  · intro y hy same
    refine exists_free_mark small n.mark fun j hj => ?_
    obtain hlt | rfl := (hj.trans (not_lt.1 steps)).lt_or_eq
    · exact passed j hlt
    · exact ⟨y, hy, same⟩

/-- A notice is inserted behind the entries that are not farther and before the first that is (R110). -/
theorem insertNotice_split (odometer : Odo) (n : Notice) (q : List Notice) :
    ∃ before after, q = before ++ after ∧ insertNotice odometer n q = before ++ n :: after
      ∧ (∀ y ∈ before, y.distance odometer ≤ n.distance odometer)
      ∧ ∀ y ∈ after.head?, n.distance odometer < y.distance odometer := by
  induction q with
  | nil => exact ⟨[], [], rfl, rfl, List.forall_mem_nil _, nofun⟩
  | cons x q ih =>
    by_cases farther : n.distance odometer < x.distance odometer
    · refine ⟨[], x :: q, rfl, if_pos farther, List.forall_mem_nil _, fun y hy => ?_⟩
      obtain rfl := Option.some.inj hy
      exact farther
    · obtain ⟨before, after, rfl, inserted, nearer, next⟩ := ih
      exact ⟨x :: before, after, rfl, (if_neg farther).trans (congrArg (x :: ·) inserted),
        List.forall_mem_cons.2 ⟨not_lt.1 farther, nearer⟩, next⟩

/-- A queue with a notice in it: behind the entries that are not farther, before the first that is farther, its mark
advanced by 1 cm while another entry has it (R110, R111). -/
def StandsIn (odometer : Odo) (q' rest : List Notice) (n : Notice) : Prop :=
  ∃ before after k, let x : Notice := { n with mark := advance n.mark k }
    rest = before ++ after ∧ q' = before ++ x :: after
    ∧ (∀ y ∈ before, y.distance odometer ≤ x.distance odometer)
    ∧ (∀ y ∈ after.head?, x.distance odometer < y.distance odometer)
    ∧ (∀ y ∈ rest, y.mark ≠ x.mark) ∧ ∀ j, j < k → ∃ y ∈ rest, y.mark = advance n.mark j

theorem standsIn_insertNotice (small : rest.length < 2 ^ 32) (odometer : Odo) (n : Notice) :
    StandsIn odometer (insertNotice odometer (n.freed rest) rest) rest n := by
  obtain ⟨k, freed, free, passed⟩ := freed_mark small n
  obtain ⟨before, after, split, inserted, nearer, next⟩ := insertNotice_split odometer (n.freed rest) rest
  rw [freed] at inserted nearer next ⊢
  exact ⟨before, after, k, split, inserted, nearer, next, free, passed⟩

theorem StandsIn.length (h : StandsIn odometer q' rest n) : q'.length = rest.length + 1 := by
  obtain ⟨before, after, k, rfl, rfl, -⟩ := h
  simp only [List.length_append, List.length_cons, Nat.add_assoc]

theorem StandsIn.nodup (h : StandsIn odometer q' rest n) (distinct : (rest.map (·.mark)).Nodup) :
    (q'.map (·.mark)).Nodup := by
  obtain ⟨before, after, k, rfl, rfl, -, -, free, -⟩ := h
  have moved : ((before ++ { n with mark := advance n.mark k } :: after).map (·.mark)).Perm
      (advance n.mark k :: (before ++ after).map (·.mark)) := List.perm_middle.map _
  refine moved.nodup_iff.2 (List.nodup_cons.2 ⟨fun taken => ?_, distinct⟩)
  obtain ⟨y, hy, same⟩ := List.mem_map.1 taken
  exact free y hy same

/-! ### Placing a notice (R111) -/

/-- The other entries of a queue from which one is taken by its mark. -/
def otherEntries (q : List Notice) (e : Notice) : List Notice := q.filter fun x => x.mark ≠ e.mark

theorem otherEntries_length_lt (h : e ∈ q) : (otherEntries q e).length < q.length :=
  List.length_filter_lt_length_iff_exists.2 ⟨e, h, by simp⟩

theorem place_of_merge (h : mergeEntry odometer mergeDistance q n = some e) :
    place odometer mergeDistance q n
      = (insertNotice odometer ((e.merge odometer n).freed (otherEntries q e)) (otherEntries q e), .merged) := by
  simp only [place, h, otherEntries]

theorem place_of_insert (h : mergeEntry odometer mergeDistance q n = none) (room : q.length < 8) :
    place odometer mergeDistance q n = (insertNotice odometer (n.freed q) q, .inserted) := by
  simp only [place, h, if_pos room]

theorem place_of_drop (h : mergeEntry odometer mergeDistance q n = none) (full : 8 ≤ q.length) :
    place odometer mergeDistance q n = (q, .dropped) := by
  simp only [place, h, if_neg full.not_gt]

theorem place_stands_of_merge (most : q.length ≤ 8) (h : mergeEntry odometer mergeDistance q n = some e) :
    StandsIn odometer (place odometer mergeDistance q n).1 (otherEntries q e) (e.merge odometer n) := by
  have fewer := otherEntries_length_lt (mergeEntry_mem h)
  rw [place_of_merge h]
  exact standsIn_insertNotice (by omega) ..

theorem place_stands_of_insert (h : mergeEntry odometer mergeDistance q n = none) (room : q.length < 8) :
    StandsIn odometer (place odometer mergeDistance q n).1 q n := by
  rw [place_of_insert h room]
  exact standsIn_insertNotice (by omega) ..

/-- A queue of at most eight entries keeps at most eight. -/
theorem place_length_le (most : q.length ≤ 8) : (place odometer mergeDistance q n).1.length ≤ 8 := by
  cases h : mergeEntry odometer mergeDistance q n with
  | some e =>
    have fewer := otherEntries_length_lt (mergeEntry_mem h)
    rw [(place_stands_of_merge most h).length]
    omega
  | none =>
    by_cases room : q.length < 8
    · rw [(place_stands_of_insert h room).length]
      exact room
    · rw [place_of_drop h (not_lt.1 room)]
      exact most

/-- A queue of distinct marks keeps distinct marks. -/
theorem place_nodup (most : q.length ≤ 8) (distinct : (q.map (·.mark)).Nodup) :
    ((place odometer mergeDistance q n).1.map (·.mark)).Nodup := by
  cases h : mergeEntry odometer mergeDistance q n with
  | some e => exact (place_stands_of_merge most h).nodup (distinct.sublist (List.filter_sublist.map _))
  | none =>
    by_cases room : q.length < 8
    · exact (place_stands_of_insert h room).nodup distinct
    · rwa [place_of_drop h (not_lt.1 room)]

theorem place_of_dropped (h : (place odometer mergeDistance q n).2 = .dropped) :
    (place odometer mergeDistance q n).1 = q ∧ 8 ≤ q.length := by
  cases found : mergeEntry odometer mergeDistance q n with
  | some e => exact absurd ((congrArg Prod.snd (place_of_merge found)).symm.trans h) nofun
  | none =>
    by_cases room : q.length < 8
    · exact absurd ((congrArg Prod.snd (place_of_insert found room)).symm.trans h) nofun
    · exact ⟨congrArg Prod.fst (place_of_drop found (not_lt.1 room)), not_lt.1 room⟩

end Place

end Sys2Proof.Machine
end

section
/-! PROOF of `Obligations.CeilingsAndNoticesFollowThePass`, second part: the steps of the pass, and the obligation. -/

namespace Sys2Proof.Machine

variable {s : State} {e : Evaluation} {p : Pass} {k : PerBogie CeilingRecord}

/-! ### Steps 2 and 3 (R107, R114) -/

/-- The notices that are not reached are what stands behind the reached ones. -/
theorem unreached_eq_drop (odometer : Odo) (q : List Notice) :
    unreached odometer q = q.drop (reachedNotices odometer q).length := by
  have split : reachedNotices odometer q ++ unreached odometer q = q := List.takeWhile_append_dropWhile
  calc unreached odometer q
      = (reachedNotices odometer q ++ unreached odometer q).drop (reachedNotices odometer q).length := List.drop_left.symm
    _ = q.drop (reachedNotices odometer q).length := by rw [split]

/-- The working values of a pass after step 3 (R105). -/
def State.passStep3 (s : State) (e : Evaluation) : Pass :=
  let due := reachedNotices e.ref.odometer s.ceil.queue
  { records := PerBogie.build fun y =>
      ((due.foldl (applyNotice s.cfg.tun.ceiling.floor) (s.ceilStep1 e)).get y).step3 s.raiseStep e.ref.step
        (e.bogies.get y).blind (e.bogies.get y).inExcursion
    queue := s.ceil.queue.drop due.length, outgoing := s.ceil.outgoing
    rep := s.rep.bumpBy Counter.noticeApplied.number due.length }

theorem passResult_eq (s : State) (e : Evaluation) :
    s.passResult e
      = ((s.step5 e (s.step4 e (s.ceilStep1 e) (s.passStep3 e))).offerOutgoing .a e.bogies.a.onset).offerOutgoing .b
          e.bogies.b.onset := by
  simp only [State.passResult, Pass.step2, State.passStep3, unreached_eq_drop]

/-! ### Step 4 (R112) -/

theorem step4_of_neutral (h : s.intent.accepted.direction = .neutral) : s.step4 e k p = p := by
  simp only [State.step4, h, leadingMotor]

/-- A local notice of a leading bogie's onset is placed (R112). -/
def Pass.placeLocal (p : Pass) (s : State) (e : Evaluation) (leading : Motor) (severity : Nat) (y : Bogie) : Pass :=
  p.place s.cfg.tun.ceiling.mergeDistance e.ref.odometer (s.newNotice leading e.ref.odometer 0 severity y)

section Local

variable {m : Motor} (leads : leadingMotor s.intent.accepted.direction = some m)

include leads

theorem step4_of_quiet (quiet : (e.bogies.get m.bogie).onset = none) : s.step4 e k p = p := by
  simp only [State.step4, leads, quiet]

theorem step4_of_onset {kind : Kind} (onset : (e.bogies.get m.bogie).onset = some kind) :
    s.step4 e k p = (localTargets m kind).foldl (fun p y => p.placeLocal s e m (k.get m.bogie).k y) p := by
  simp only [State.step4, leads, onset, Pass.placeLocal]

/-- An onset of the leading bogie gives a local notice for the other motor bogie, and at a slide one for T before it
(R112). -/
theorem step4_of_leading :
    s.step4 e k p
      = match (e.bogies.get m.bogie).onset with
        | none => p
        | some .spin => p.placeLocal s e m (k.get m.bogie).k m.other.bogie
        | some .slide => (p.placeLocal s e m (k.get m.bogie).k .t).placeLocal s e m (k.get m.bogie).k m.other.bogie := by
  cases onset : (e.bogies.get m.bogie).onset with
  | none => exact step4_of_quiet leads onset
  | some kind =>
    rw [step4_of_onset leads onset]
    cases kind <;> rfl

end Local

/-! ### Step 5 (R113) -/

theorem Direction.ofCode_eq_some_iff {c : BitVec 2} {d : Direction} : Direction.ofCode c = some d ↔ c = d.code := by
  cases d <;> revert c <;> decide

/-- A frame comes from ahead where the accepted direction is the chain-forward one (12.2). -/
theorem chainAhead_iff (d : Direction) : s.chainAhead d = true ↔ d ≠ .neutral ∧ s.cfg.str.chainForward = d.code := by
  simp only [State.chainAhead, Bool.and_eq_true, bne_iff_ne, beq_iff_eq, Direction.ofCode_eq_some_iff]

theorem chainAhead_of_eq {d : Direction} (direction : s.intent.accepted.direction = d) (moving : d ≠ .neutral)
    (ahead : s.cfg.str.chainForward = d.code) : s.chainAhead s.intent.accepted.direction = true := by
  rw [direction]
  exact (chainAhead_iff d).2 ⟨moving, ahead⟩

theorem not_chainAhead (forward : ¬ (s.intent.accepted.direction = .forward ∧ s.cfg.str.chainForward = 1))
    (reverse : ¬ (s.intent.accepted.direction = .reverse ∧ s.cfg.str.chainForward = 2)) :
    ¬ s.chainAhead s.intent.accepted.direction = true := by
  rw [chainAhead_iff]
  rintro ⟨moving, ahead⟩
  cases direction : s.intent.accepted.direction with
  | neutral => exact moving direction
  | forward => exact forward ⟨direction, ahead.trans (congrArg Direction.code direction)⟩
  | reverse => exact reverse ⟨direction, ahead.trans (congrArg Direction.code direction)⟩

/-- A chain notice whose mark is reached at its creation is applied at once, and else placed (R113). -/
theorem Pass.chainNotice_eq (p : Pass) (t : CeilingTuning) (odometer : Odo) (n : Notice) :
    p.chainNotice t odometer n
      = if (odometer - n.mark).toNat < 2 ^ 31 then
          { p with
            records := p.records.set n.target ((p.records.get n.target).apply t.floor n.severity)
            rep := p.rep.bump Counter.noticeApplied.number }
        else p.place t.mergeDistance odometer n := if_congr decide_eq_true_iff rfl rfl

/-- A chain notice of a frame with a severity byte is applied or placed (R113). -/
def Pass.placeChain (p : Pass) (s : State) (e : Evaluation) (leading : Motor) (byte : Nat) (y : Bogie) : Pass :=
  p.chainNotice s.cfg.tun.ceiling e.ref.odometer
    (s.newNotice leading e.ref.odometer s.cfg.str.chainOffset (min 1000 (byte * 4)) y)

@[simp] theorem Pass.placeChain_outgoing (p : Pass) (s : State) (e : Evaluation) (leading : Motor) (byte : Nat) (y : Bogie) :
    (p.placeChain s e leading byte y).outgoing = p.outgoing := by
  simp only [Pass.placeChain, Pass.chainNotice]
  split <;> rfl

theorem step5_of_no_notice (h : e.frame.bind Frame.notice = none) : s.step5 e p = p := by
  simp only [State.step5, h]

/-- A notice of a frame that does not come from ahead is counted as ignored. -/
theorem step5_of_ignored {n : Kind × Nat} (h : e.frame.bind Frame.notice = some n)
    (behind : ¬ s.chainAhead s.intent.accepted.direction = true) :
    s.step5 e p = { p with rep := p.rep.bump Counter.chainNoticeIgnored.number } := by
  simp only [State.step5, h, behind]
  cases leadingMotor s.intent.accepted.direction <;> rfl

theorem step5_of_ahead {n : Kind × Nat} {m : Motor} (h : e.frame.bind Frame.notice = some n)
    (leads : leadingMotor s.intent.accepted.direction = some m)
    (ahead : s.chainAhead s.intent.accepted.direction = true) :
    s.step5 e p
      = ((p.placeChain s e m n.2 m.bogie).placeChain s e m n.2 .t).placeChain s e m n.2 m.other.bogie := by
  simp only [State.step5, h, leads, ahead, if_true, List.foldl_cons, List.foldl_nil, Pass.placeChain]

/-! ### Step 6 (R116) -/

theorem step4_outgoing (s : State) (e : Evaluation) (k : PerBogie CeilingRecord) (p : Pass) :
    (s.step4 e k p).outgoing = p.outgoing := by
  cases leads : leadingMotor s.intent.accepted.direction with
  | none => simp only [State.step4, leads]
  | some m =>
    cases onset : (e.bogies.get m.bogie).onset with
    | none => rw [step4_of_quiet leads onset]
    | some kind =>
      rw [step4_of_onset leads onset]
      cases kind <;> rfl

theorem step5_outgoing (s : State) (e : Evaluation) (p : Pass) : (s.step5 e p).outgoing = p.outgoing := by
  cases notice : e.frame.bind Frame.notice with
  | none => rw [step5_of_no_notice notice]
  | some n =>
    by_cases ahead : s.chainAhead s.intent.accepted.direction = true
    · cases leads : leadingMotor s.intent.accepted.direction with
      | none => simp only [State.step5, notice, leads]
      | some m => simp only [step5_of_ahead notice leads ahead, Pass.placeChain_outgoing]
    · rw [step5_of_ignored notice ahead]

/-- The outgoing notice after an onset is offered to it under the records of a pass (R116). -/
def offered (records : PerBogie CeilingRecord) (m : Motor) (onset : Option Kind) (out : Option (Motor × Kind)) :
    Option (Motor × Kind) :=
  match onset with
  | none => out
  | some kind =>
    match out with
    | none => some (m, kind)
    | some (h, k) => if (records.get m.bogie).k ≤ (records.get h.bogie).k then some (m, kind) else some (h, k)

theorem Pass.offerOutgoing_eq (p : Pass) (m : Motor) (onset : Option Kind) :
    p.offerOutgoing m onset = { p with outgoing := offered p.records m onset p.outgoing } := by
  obtain ⟨records, queue, outgoing, rep⟩ := p
  cases onset with
  | none => rfl
  | some kind =>
    cases outgoing with
    | none => rfl
    | some held =>
      simp only [Pass.offerOutgoing, offered]
      split <;> rfl

/-! ### The obligation -/

/-- Settles O47: the ceiling records' steps, the entry merged into, the placing of a notice, and the pass put together of
its six steps. -/
theorem ceilingsAndNoticesFollowThePass : Obligations.CeilingsAndNoticesFollowThePass := by
  refine ⟨fun r t ratio b entered => ?_, fun s regime m => ?_, fun r floor severity raise step blind inExcursion => ?_,
    fun odometer distance q n => ?_, fun odometer distance q n => ?_, fun e s => ?_⟩
  · refine ⟨fun poor => ?_, fun poor onset => ?_, fun poor steady => ?_⟩
    · rw [CeilingRecord.step1_of_poor poor]
      exact ⟨rfl, rfl, rfl⟩
    · rw [CeilingRecord.step1_of_onset poor onset]
      exact ⟨rfl, rfl, rfl⟩
    · rw [CeilingRecord.step1_of_steady poor steady]
      exact ⟨rfl, rfl, rfl⟩
  · refine ⟨fun traction active => ?_, fun other => ?_, rfl⟩
    · rw [State.ratio_motor, if_pos ⟨traction, active⟩]
      rfl
    · rw [State.ratio_motor, if_neg (not_and_or.2 other)]
      rfl
  · refine ⟨⟨CeilingRecord.apply_k, CeilingRecord.apply_of_lowered, CeilingRecord.apply_of_kept⟩,
      CeilingRecord.step3_of_unclean, fun restarted seeing holding short => ?_, fun restarted seeing holding full => ?_⟩
    · exact (CeilingRecord.step3_of_clean restarted seeing holding).trans (if_neg short.not_ge)
    · exact (CeilingRecord.step3_of_clean restarted seeing holding).trans (if_pos full)
  · exact ⟨mergeEntry_of_candidate, mergeEntry_of_room, mergeEntry_of_full, mergeEntry_of_no_target⟩
  · exact ⟨place_length_le, place_nodup, place_of_dropped,
      fun e most found => ⟨congrArg Prod.snd (place_of_merge found), place_stands_of_merge most found⟩,
      fun found room => ⟨congrArg Prod.snd (place_of_insert found room), place_stands_of_insert found room⟩,
      place_of_drop⟩
  · intro t odo at' ab notice placed chained first due applied p3 p4 p5 offer
    have fourth : s.step4 e first p3 = p4 := by
      unfold p4
      cases direction : s.intent.accepted.direction with
      | neutral => exact step4_of_neutral direction
      | forward => exact step4_of_leading (m := .a) (congrArg leadingMotor direction)
      | reverse => exact step4_of_leading (m := .b) (congrArg leadingMotor direction)
    have chains : chained = fun n p => p.chainNotice t odo n := funext₂ fun n p => (p.chainNotice_eq t odo n).symm
    have fifth : s.step5 e p4 = p5 := by
      unfold p5
      cases carried : e.frame.bind (·.notice) with
      | none => exact step5_of_no_notice carried
      | some x =>
        change s.step5 e p4 = if _ then _ else if _ then _ else _
        rw [chains]
        split
        · next ahead =>
          exact step5_of_ahead (m := .a) carried (congrArg leadingMotor ahead.1)
            (chainAhead_of_eq ahead.1 (by decide) ahead.2)
        · next forward =>
          split
          · next ahead =>
            exact step5_of_ahead (m := .b) carried (congrArg leadingMotor ahead.1)
              (chainAhead_of_eq ahead.1 (by decide) ahead.2)
          · next reverse => exact step5_of_ignored carried (not_chainAhead forward reverse)
    have sixth : s.passResult e
        = ((s.step5 e (s.step4 e first p3)).offerOutgoing .a e.bogies.a.onset).offerOutgoing .b e.bogies.b.onset :=
      passResult_eq s e
    have unoffered : p5.outgoing = s.ceil.outgoing := by
      rw [← fifth, ← fourth, step5_outgoing, step4_outgoing]
    refine ⟨?_, fun p n => rfl⟩
    rw [sixth, fourth, fifth, Pass.offerOutgoing_eq, Pass.offerOutgoing_eq, unoffered]
    rfl

end Sys2Proof.Machine
end

section
/-! PROOF of `Obligations.LinesFollowTheState`: the lines that follow every command, one line at a time. -/

namespace Sys2Proof.Machine

variable {s : State}

/-! ### The lines as the state forms them (00_scope) -/

/-- Forming the lines again changes none: they are formed from the state after the grant. -/
theorem finish_formLines (s : State) : (finish s).lines = (finish s).formLines := rfl

theorem formLines_of_reset (h : s.ctl.part = .reset) : s.formLines = Lines.reset := if_pos h

theorem formLines_of_not_reset (h : s.ctl.part ≠ .reset) :
    s.formLines
      = { sand := PerSander.build fun i => s.sanderState i == .pulsing
          track := s.blend.lines
          hold := s.holdLine
          attention := s.rep.attention
          chainOut := match s.chain.sending with | some x => x.level s.now | none => false } := if_neg h

/-- Brake-hold outside RESET (R183). -/
theorem holdLine_iff (h : s.ctl.part ≠ .reset) :
    s.holdLine = true
      ↔ s.ctl.part = .fallback ∨ s.ctl.part = .standby ∨ s.ctl.part = .waking ∨ s.rep.flag .rollaway = true := by
  simp [State.holdLine, h, or_assoc]

/-- Two bit vectors share a set bit exactly when their conjunction is not 0. -/
theorem and_ne_zero_iff {n : Nat} (x y : BitVec n) :
    x &&& y ≠ 0 ↔ ∃ i : Fin n, x.getLsbD i = true ∧ y.getLsbD i = true := by
  constructor
  · intro shared
    by_contra none
    refine shared (BitVec.eq_of_getLsbD_eq fun i hi => ?_)
    have apart := not_exists.1 none ⟨i, hi⟩
    simpa using apart
  · rintro ⟨i, hx, hy⟩ zero
    have bit : (x &&& y).getLsbD i = true := by rw [BitVec.getLsbD_and, hx, hy]; rfl
    simp [zero] at bit

/-- The attention line: a set flag whose mask bit is set (R187). -/
theorem attention_iff (r : Reporter) :
    r.attention = true ↔ ∃ i : Fin 22, r.flags.getLsbD i = true ∧ r.mask.getLsbD i = true := by
  rw [Reporter.attention, bne_iff_ne]
  exact and_ne_zero_iff ..

/-- A sander is PULSING by the order of the tests of R143. -/
theorem sanderState_pulsing_iff (i : SanderId) :
    s.sanderState i = .pulsing
      ↔ (s.cfg.tun.sanders.get i).enabled = true ∧ s.sand.supplyGood = true ∧ (s.sand.sanders.get i).full = true
        ∧ (s.sand.sanders.get i).pulse ≠ none := by
  simp only [State.sanderState, sanderState]
  (repeat' split) <;> simp_all [Option.ne_none_iff_isSome]

/-- Settles O55: every step ends in `finish`, which forms the lines from the state it leaves. -/
theorem linesFollowTheState : Obligations.LinesFollowTheState := by
  intro s t stepped l
  obtain ⟨pending, draws, u, hu, -⟩ := step_moves s
  cases hu.symm.trans stepped
  have formed : l = (finish u).formLines := finish_formLines u
  refine ⟨fun reset => formed.trans (formLines_of_reset reset), fun running => ?_⟩
  rw [formed, formLines_of_not_reset running]
  refine ⟨holdLine_iff running, attention_iff _, rfl, fun i => ?_, fun silent => ?_⟩
  · rw [PerSander.get_build, beq_iff_eq]
    exact sanderState_pulsing_iff i
  · simp only [silent]

end Sys2Proof.Machine
end

section
/-! PROOF support for `Obligations.HillStartAndTimersMoveTheRun`: the table of R133 line by line, what a run delivers to the
blocks beside the words, and its timers. -/

namespace Sys2Proof.Machine

variable {s : State}

/-! ### The hill-start table (R133, R134) -/

/-- The reference in the MODE direction exceeds a speed where it is a movement in that direction (R65). -/
theorem lt_modeReference_iff (b : Allocator) (d : Direction) (v : Nat) :
    v < b.modeReference d
      ↔ v < b.seenMagnitude ∧ (d = .forward ∧ b.seenSense = .forward ∨ d = .reverse ∧ b.seenSense = .reverse) := by
  cases d <;> simp only [Allocator.modeReference] <;> split <;> simp_all [Sense.ofDirection]

/-- In RELEASING nothing is left to hold once the motors pull H. -/
theorem friction_releasing_eq_zero_iff (b : Allocator) (h : Nat) : b.friction h .releasing = 0 ↔ h ≤ b.tractive :=
  Nat.sub_eq_zero_iff_le

section
variable {b : Allocator} {regime : Regime} {direction : Direction} {h limit : Nat} {returning : Bool}

/-- The lines of R133's table that come before the old state. -/
def HillEnds (regime : Regime) (h : Nat) : Prop := regime = .coast ∨ regime = .emergency ∨ h = 0

theorem nextHill_of_ends (ends : HillEnds regime h) : b.nextHill regime direction h limit returning = .off := if_pos ends

theorem nextHill_of_off (stays : ¬ HillEnds regime h) (hill : b.hill = .off) :
    b.nextHill regime direction h limit returning
      = if (regime = .hold ∨ regime = .serviceBrake) ∧ b.seenMagnitude < 50 then .holding
        else if returning = true ∧ regime = .traction ∧ b.seenMagnitude < 50 then .releasing else .off := by
  refine (if_neg stays).trans ?_
  simp only [hill, Allocator.standstill, decide_eq_true_eq]

theorem nextHill_of_holding (stays : ¬ HillEnds regime h) (hill : b.hill = .holding) :
    b.nextHill regime direction h limit returning
      = if limit < b.seenRollback * 10 then .rollbackHold else if regime = .traction then .releasing else .holding := by
  refine (if_neg stays).trans ?_
  simp only [hill, Allocator.rolledBack, decide_eq_true_eq]

theorem nextHill_of_releasing (stays : ¬ HillEnds regime h) (hill : b.hill = .releasing) :
    b.nextHill regime direction h limit returning
      = if limit < b.seenRollback * 10 then .rollbackHold
        else if regime = .hold ∨ regime = .serviceBrake then .holding
        else if h ≤ b.tractive ∨ 1000 < b.seenMagnitude
            ∧ (direction = .forward ∧ b.seenSense = .forward ∨ direction = .reverse ∧ b.seenSense = .reverse) then .off
        else .releasing := by
  refine (if_neg stays).trans ?_
  simp only [hill, Allocator.rolledBack, decide_eq_true_eq, friction_releasing_eq_zero_iff, lt_modeReference_iff]

theorem nextHill_of_rollbackHold (stays : ¬ HillEnds regime h) (hill : b.hill = .rollbackHold) :
    b.nextHill regime direction h limit returning
      = if regime = .traction ∧ h * 1100 / 1000 ≤ b.tractive then .releasing else .rollbackHold := by
  refine (if_neg stays).trans ?_
  simp only [hill]

end

theorem nextHill_of_active (h : s.ctl.part = .active) (returning : Bool) :
    s.nextHill returning
      = s.blend.nextHill s.intent.accepted.regime s.intent.accepted.direction s.holdRequirement
          s.cfg.tun.blend.rollbackLimit returning := if_pos h

/-- F_hs in a hill-start state, as the obligation writes it (R128, R133). -/
theorem friction_eq (b : Allocator) (h : Nat) (hill : HillStart) :
    b.friction h hill
      = match hill with
        | .off => 0
        | .holding => h
        | .rollbackHold => h
        | .releasing => h - b.tractive := by
  cases hill <;> rfl

/-! ### What a run delivers (R134, R135, R194) -/

variable (evaluation returning : Bool) (s)

theorem run_deficit :
    (run evaluation returning s).blend.deficit = (s.walk (s.demanded evaluation returning)).remaining := by
  rw [run_blend]; rfl

theorem run_seenRollback :
    (run evaluation returning s).blend.seenRollback
      = if s.blend.hill = .rollbackHold ∧ s.nextHill returning = .releasing then 0 else s.blend.seenRollback := by
  rw [run_blend]; rfl

/-- The rollback distances after a run: cleared at a move from ROLLBACK_HOLD to RELEASING. -/
theorem run_rollback :
    let cleared := s.blend.hill == .rollbackHold && s.nextHill returning == .releasing
    (run evaluation returning s).ref.rollback = (rollbackClear cleared s).ref.rollback
      ∧ (run evaluation returning s).ev.running = (rollbackClear cleared s).ev.running := by
  have hill : (s.demanded evaluation returning).hill = s.nextHill returning := rfl
  simp only [run, hill]
  split <;> simp [rollbackClear]

/-- The causes that a run raises before a release event. -/
def State.runRaised (s : State) (evaluation returning : Bool) : Reporter :=
  let rolled :=
    if s.blend.hill ≠ .rollbackHold ∧ s.nextHill returning = .rollbackHold then s.rep.raise .rollback else s.rep
  if s.cfg.tun.blend.deficitThreshold < (run evaluation returning s).blend.deficit then rolled.raise .brakeDeficit
  else rolled

theorem run_rep :
    (run evaluation returning s).rep
      = if s.blend.hill = .holding ∧ s.nextHill returning = .releasing then
          (sandRelease { s with rep := s.runRaised evaluation returning }).rep
        else s.runRaised evaluation returning := by
  have hill : (s.demanded evaluation returning).hill = s.nextHill returning := rfl
  have raised : ∀ x : State, x.rep = s.rep →
      (raiseIf (decide (s.cfg.tun.blend.deficitThreshold < (s.walk (s.demanded evaluation returning)).remaining))
        .brakeDeficit
        (raiseIf (s.nextHill returning == .rollbackHold && s.blend.hill != .rollbackHold) .rollback x)).rep
        = s.runRaised evaluation returning := by
    intro x same
    simp only [raiseIf, same, State.runRaised, run_deficit, decide_eq_true_eq, Bool.and_eq_true, beq_iff_eq,
      bne_iff_ne, and_comm]
  simp only [run, hill]
  split
  · refine (sandRelease_alike ?_).2 ?_
    · constructor <;> simp [handRun, handBrake, rollbackClear]
    · simp only [handRun_rep, rollbackClear_rep]
      exact raised _ rfl
  · simp only [handRun_rep, rollbackClear_rep]
    exact raised _ rfl

/-! ### The timers of a run (R131, R132, R137) -/

/-- A timer that a condition starts or lets run on, and whose failing cancels it. -/
theorem conditioned_of_met {condition : Bool} (h : condition = true) (old : Timer) (start : Nat) :
    conditioned condition old (some start) = if old = none then some start else old := by
  cases old <;> simp [conditioned, h]

theorem conditioned_of_failed {condition : Bool} (h : condition ≠ true) (old started : Timer) :
    conditioned condition old started = none := if_neg h

theorem run_lag (m : Motor) :
    (run evaluation returning s).blend.lag.get m
      = conditioned (s.shortfallCondition m ((run evaluation returning s).blend.alloc.get m.ed)) (s.blend.lag.get m)
          (s.timer (ms s.cfg.tun.blend.edLag)) := by
  rw [run_blend]
  exact PerMotor.get_build ..

theorem run_probe (m : Motor) :
    (run evaluation returning s).blend.probe.get m
      = if s.intent.accepted.regime = .serviceBrake then s.blend.probe.get m else none := by
  rw [run_blend]
  refine (PerMotor.get_build ..).trans ?_
  simp only [beq_iff_eq]
  rfl

theorem run_deficitTimer :
    (run evaluation returning s).blend.deficitTimer
      = conditioned
          (s.intent.accepted.regime == .serviceBrake && decide (50 < s.blend.seenMagnitude)
            && !(run evaluation returning s).blend.assist
            && decide (s.cfg.tun.blend.deficitThreshold < (run evaluation returning s).blend.deficit))
          s.blend.deficitTimer (s.timer (ms s.cfg.tun.blend.deficitTime)) := by
  rw [run_blend]; rfl

theorem run_assist :
    (run evaluation returning s).blend.assist = s.blend.assistKept s.intent.accepted.regime := by
  rw [run_blend]; rfl

/-- The shortfall condition of R131 as the obligation writes it. -/
theorem shortfallCondition_iff (m : Motor) (allocated : Nat) :
    s.shortfallCondition m allocated = true
      ↔ s.ctl.part = .active ∧ s.intent.accepted.regime = .serviceBrake ∧ s.blend.shortfall.get m = false
        ∧ max 200 (allocated * 50 / 1000) < allocated - (-((s.blend.achieved.get m).getD 0)).toNat := by
  simp only [State.shortfallCondition, Bool.and_eq_true, beq_iff_eq, Bool.not_eq_true', decide_eq_true_eq, and_assoc]
  rfl

variable {s}

theorem runServing_of_inForce (h : s.inForce = true) : runServing s = run false false s := if_pos h

/-- The expiry of a running timer whose action ends in a run. -/
theorem onExpiry_runs {timer : Timer} {d : Nat} {f : State → State} {x : State} (running : timer = some d)
    (acts : f { s with now := max s.now d } = runServing x) (force : x.inForce = true) :
    onExpiry timer f s = run false false x := by
  rw [running, onExpiry_some, acts, runServing_of_inForce force]

end Sys2Proof.Machine
end

section
/-! PROOF of `Obligations.HillStartAndTimersMoveTheRun`: the hill-start table, the timers of a run, and their expiries. -/

namespace Sys2Proof.Machine

/-- Settles O49: the table by the old hill-start state, what the run delivers by the move it makes, the timers by their
conditions, and each expiry by its own run. -/
theorem hillStartAndTimersMoveTheRun : Obligations.HillStartAndTimersMoveTheRun := by
  refine ⟨fun evaluation returning s => ?_, fun evaluation returning s => ?_, fun m d s force => ?_⟩
  · intro t b regime direction braking still back pull away off regained released rolled raised
    have hill : b.hill = s.nextHill returning := run_hill evaluation returning s
    have h : b.h = s.holdRequirement := run_h s evaluation returning
    have table (active : s.ctl.part = .active) :
        b.hill = s.blend.nextHill regime direction b.h s.cfg.tun.blend.rollbackLimit returning := by
      rw [hill, h]
      exact nextHill_of_active active returning
    have moves : rolled = if s.blend.hill ≠ .rollbackHold ∧ s.nextHill returning = .rollbackHold then
        s.rep.raise .rollback else s.rep := by
      rw [← hill]
    have causes : raised = s.runRaised evaluation returning := by
      simp only [raised, moves]
      rfl
    obtain ⟨ref, running⟩ := run_rollback s evaluation returning
    simp only [rollbackClear, ← hill, Bool.and_eq_true, beq_iff_eq] at ref running
    refine ⟨fun idle => hill.trans (nextHill_of_not_active idle returning),
      fun active ends => (table active).trans (nextHill_of_ends ends),
      fun active stays old => (table active).trans (nextHill_of_off stays old),
      fun active stays old => (table active).trans (nextHill_of_holding stays old),
      fun active stays old => (table active).trans (nextHill_of_releasing stays old),
      fun active stays old => (table active).trans (nextHill_of_rollbackHold stays old), ?_, ?_, ref, running, ?_, ?_⟩
    · rw [show b.fhs = _ from run_fhs s evaluation returning, ← hill, ← h]
      exact friction_eq s.blend b.h b.hill
    · refine (run_seenRollback s evaluation returning).trans ?_
      rw [← hill]
    · refine (run_rep s evaluation returning).trans ?_
      rw [← hill, ← causes]
    · refine (run_sand evaluation returning s).trans ?_
      rw [← hill]
  · intro b tun service runsOn
    have assist : b.assist = true ↔ s.blend.assist = true ∧ service ∧ 50 < s.blend.seenMagnitude := by
      rw [show b.assist = _ from run_assist s evaluation returning]
      simp only [Allocator.assistKept, Bool.and_eq_true, beq_iff_eq, decide_eq_true_eq, and_assoc]
      rfl
    refine ⟨fun m => ?_, ?_, assist, ?_, ?_, ?_⟩
    · intro allocated short
      have condition : s.shortfallCondition m allocated = true ↔ short := shortfallCondition_iff s m allocated
      have lag : b.lag.get m = _ := run_lag s evaluation returning m
      have shortfall : b.shortfall.get m = _ := run_shortfall evaluation returning s m
      have probe : b.probe.get m = _ := run_probe s evaluation returning m
      refine ⟨fun met => lag.trans (conditioned_of_met (condition.2 met) ..),
        fun failed => lag.trans (conditioned_of_failed (fun met => failed (condition.1 met)) ..), fun braking => ?_,
        fun other => ?_⟩
      · refine ⟨shortfall.trans ?_, probe.trans (if_pos braking)⟩
        rw [show s.intent.accepted.regime = .serviceBrake from braking]
        rfl
      · refine ⟨shortfall.trans ?_, probe.trans (if_neg other)⟩
        rw [beq_false_of_ne other]
        rfl
    · intro due
      have condition : (s.intent.accepted.regime == .serviceBrake && decide (50 < s.blend.seenMagnitude) && !b.assist
          && decide (tun.deficitThreshold < b.deficit)) = true ↔ due := by
        simp only [Bool.and_eq_true, beq_iff_eq, Bool.not_eq_true', decide_eq_true_eq, and_assoc]
        rfl
      have timer : b.deficitTimer = _ := run_deficitTimer s evaluation returning
      exact ⟨fun met => timer.trans (conditioned_of_met (condition.2 met) ..),
        fun failed => timer.trans (conditioned_of_failed (fun met => failed (condition.1 met)) ..)⟩
    all_goals
      simp only [b, run_blend]
      rfl
  · intro late
    have expiry {timer : Timer} {f : State → State} {x : State} (runs : timer = some d) (acts : f late = runServing x)
        (serves : x.inForce = true) :
        (.next (finish (onExpiry timer f s)) : Host.Outcome State Fault Refusal) = .next (finish (run false false x)) := by
      rw [onExpiry_runs runs acts serves]
    exact ⟨fun runs => expiry runs rfl force, fun runs => expiry runs rfl force, fun runs => expiry runs rfl force⟩

end Sys2Proof.Machine
end

section
/-! PROOF support for `Obligations.EveryStepKeepsTheTrackRule`: the invariant, the changes that leave it alone, and the runs
and part states that set the track-brake lines afresh. -/

namespace Sys2Proof.Machine

variable {s : State}

/-! ### The invariant -/

/-- What every step keeps of the stages and of the track-brake lines. -/
structure State.trackSafe (s : State) : Prop where
  stages : s.stagesAgree
  rule : s.trackRule

/-- The fields that the invariant reads. -/
@[simp] def State.trackFields (s : State) :=
  (s.ctl.part, s.ctl.settle, s.ip.port, s.blend.lines, s.blend.seenMagnitude)

theorem onPort_congr {t : State} (h : t.ip.port = s.ip.port) (c : Claimant) : t.onPort c = s.onPort c := by
  rw [State.onPort, h, State.onPort]

/-- Part state and settle timer stand, and a publish transaction comes onto the port in PUBLISH alone. -/
theorem stagesAgree_of {t : State} (h : s.stagesAgree) (part : t.ctl.part = s.ctl.part)
    (settle : t.ctl.settle = s.ctl.settle)
    (publishing : t.onPort .publish = true → s.onPort .publish = true ∨ s.ctl.part = .publish) : t.stagesAgree where
  publishing hp := part.trans ((publishing hp).elim h.publishing id)
  settling hs := part.trans (h.settling (settle ▸ hs))

theorem stagesAgree_congr {t : State} (h : s.stagesAgree) (part : t.ctl.part = s.ctl.part)
    (settle : t.ctl.settle = s.ctl.settle) (port : t.ip.port = s.ip.port) : t.stagesAgree :=
  stagesAgree_of h part settle fun hp => .inl ((onPort_congr port _).symm.trans hp)

/-- The rule stands where the lines, the seen reference and the part state do. -/
theorem trackRule_of {t : State} (h : s.trackRule) (part : t.ctl.part = s.ctl.part)
    (lines : t.blend.lines = s.blend.lines) (seen : t.blend.seenMagnitude = s.blend.seenMagnitude) : t.trackRule := by
  intro on
  obtain ⟨above, force⟩ := h (lines ▸ on)
  exact ⟨seen ▸ above, inForce_of_part force part⟩

/-- The invariant stands where the fields that it reads do. -/
theorem State.trackSafe.of_fields {t : State} (h : s.trackSafe) (fields : t.trackFields = s.trackFields) : t.trackSafe := by
  obtain ⟨part, settle, port, lines, seen⟩ := by simpa only [State.trackFields, Prod.mk.injEq] using fields
  exact ⟨stagesAgree_congr h.stages part settle port, trackRule_of h.rule part lines seen⟩

/-- It stands where another transaction, or none, has come onto the port, of the publish writer in PUBLISH alone. -/
theorem State.trackSafe.of_port {t : State} (h : s.trackSafe) (ctl : t.ctl = s.ctl) (blend : t.blend = s.blend)
    (publish : t.onPort .publish = true → s.ctl.part = .publish) : t.trackSafe :=
  ⟨stagesAgree_of h.stages (by rw [ctl]) (by rw [ctl]) fun hp => .inr (publish hp),
    trackRule_of h.rule (by rw [ctl]) (by rw [blend]) (by rw [blend])⟩

/-- With the lines down, the settle timer stopped and no publish transaction on the port it holds in every part state. -/
theorem trackSafe_of_lines_down (port : s.onPort .publish = false) (settle : s.ctl.settle = none)
    (lines : s.blend.lines = false) : s.trackSafe where
  stages := ⟨fun hp => absurd (port.symm.trans hp) (by decide), fun hs => absurd settle hs⟩
  rule on := absurd (lines.symm.trans on) (by decide)

/-- Outside ACTIVE and FALLBACK the lines are down. -/
theorem State.trackSafe.lines_down (h : s.trackSafe) (idle : s.inForce = false) : s.blend.lines = false :=
  eq_false_of_ne_true fun on => absurd (idle.symm.trans (h.rule on).2) (by decide)

theorem settle_none_of_stages (h : s.stagesAgree) (part : s.ctl.part ≠ .waking) : s.ctl.settle = none :=
  by_contra fun hs => part (h.settling hs)

theorem port_not_publish_of_stages (h : s.stagesAgree) (part : s.ctl.part ≠ .publish) : s.onPort .publish = false :=
  eq_false_of_ne_true fun hp => part (h.publishing hp)

/-- A change of the part state out of neither WAKING nor PUBLISH keeps the stages. -/
theorem stagesAgree_of_change {t : State} (h : s.stagesAgree) (waking : s.ctl.part ≠ .waking)
    (publish : s.ctl.part ≠ .publish) (settle : t.ctl.settle = s.ctl.settle) (port : t.ip.port = s.ip.port) :
    t.stagesAgree where
  publishing hp := absurd (h.publishing ((onPort_congr port _).symm.trans hp)) publish
  settling hs := absurd (settle.trans (settle_none_of_stages h waking)) hs

/-! ### Runs (R121, R136) -/

theorem run_seenMagnitude (evaluation returning : Bool) (s : State) :
    (run evaluation returning s).blend.seenMagnitude = s.blend.seenMagnitude := by rw [run_blend]; rfl

/-- A run in ACTIVE or FALLBACK sets the lines by the rule, whatever they were. -/
theorem run_track (h : s.stagesAgree) (force : s.inForce = true) (evaluation returning : Bool) :
    (run evaluation returning s).trackSafe where
  stages := stagesAgree_congr h (by simp) (by simp) (by simp)
  rule on := by
    obtain ⟨above, -⟩ := (run_lines_iff s evaluation returning).1 on
    exact ⟨(run_seenMagnitude evaluation returning s).symm ▸ above, inForce_of_part force (by simp)⟩

theorem runServing_track (h : s.trackSafe) : (runServing s).trackSafe := by
  cases force : s.inForce with
  | true => rw [runServing_of_inForce force]; exact run_track h.stages force ..
  | false => rwa [show runServing s = s from if_neg (by simp [force])]

/-- So does the run of a change between ACTIVE and FALLBACK. -/
theorem rewords_track (h : s.stagesAgree) (force : s.inForce = true) (returning : Bool) :
    (rewords returning s).trackSafe :=
  run_track (s := handMode (claimBoth false s))
    (stagesAgree_congr h (by simp) (by simp) (by simp))
    (inForce_of_part force (by simp)) ..

/-! ### Fallback (R177) -/

theorem raise_track (h : s.trackSafe) (c : Cause) : (raise c s).trackSafe := h.of_fields (by simp)
theorem raiseIf_track (h : s.trackSafe) (b : Bool) (c : Cause) : (raiseIf b c s).trackSafe := h.of_fields (by simp)
theorem count_track (h : s.trackSafe) (c : Counter) : (count c s).trackSafe := h.of_fields (by simp)

theorem enterFallback_track (h : s.stagesAgree) (active : s.ctl.part = .active) : (enterFallback s).trackSafe :=
  rewords_track (s := fallbackEntered s)
    (stagesAgree_of_change h (by simp [active]) (by simp [active]) (by simp [fallbackEntered, withCtl])
      (by simp [fallbackEntered]))
    (by simp [fallbackEntered, State.inForce, withCtl]) false

theorem deliverCause_track (h : s.trackSafe) (x : FallbackCause) : (deliverCause x s).trackSafe := by
  simp only [deliverCause]
  split
  · rename_i active
    refine enterFallback_track ?_ active
    exact stagesAgree_of h.stages rfl rfl .inl
  all_goals exact h.of_fields (by simp [withCtl])

/-! ### Commands (R174 to R181) -/

theorem decline_track (h : s.trackSafe) (value : BitVec 8) (x : CommandOutcome) : (decline value x s).trackSafe :=
  h.of_fields (by simp [decline, result, withCtl])

/-- Entry to ACTIVE: the record is as after RESTART until the first run. -/
theorem enterActive_track (port : s.onPort .publish = false) (settle : s.ctl.settle = none) :
    (enterActive s).trackSafe := by
  have swept : (activeSwept s).trackSafe := by
    refine trackSafe_of_lines_down ((onPort_congr ?_ _).trans port) ?_ ?_
    · simp [activeSwept, activeEntered, activePrepared, fetchStart, copyWindows]
    · rw [activeSwept_ctl]; exact settle
    · rw [activeSwept_blend]; rfl
  have ran := run_track swept.stages (by simp [State.inForce, activeSwept_ctl]) false false
  simp only [enterActive_eq, reportLost]
  split
  · exact deliverCause_track (raise_track ran _) _
  · exact ran

theorem takeGoActive_track (h : s.trackSafe) : (takeGoActive s).trackSafe := by
  simp only [takeGoActive]
  split
  · rename_i setup
    have port : s.onPort .publish = false := port_not_publish_of_stages h.stages (by simp [setup])
    have settle : s.ctl.settle = none := settle_none_of_stages h.stages (by simp [setup])
    simp only [goActiveSetup]
    (repeat' split)
    · exact decline_track h ..
    · exact h.of_fields (by simp [decline, result, withCtl])
    · exact enterActive_track (s := result 1 .accepted s) port settle
  · rename_i fallback
    simp only [goActiveFallback]
    split
    · refine rewords_track ?_ (by simp [State.inForce, withCtl]) true
      exact stagesAgree_of_change h.stages (by simp [fallback]) (by simp [fallback]) rfl rfl
    · exact decline_track h ..
  · exact decline_track h ..

theorem takeGoSetup_track (h : s.trackSafe) : (takeGoSetup s).trackSafe := by
  simp only [takeGoSetup]
  split
  · rename_i active
    split
    · have port := port_not_publish_of_stages h.stages (by simp [active])
      have settle := settle_none_of_stages h.stages (by simp [active])
      rw [enterSetupByCommand_eq]
      exact trackSafe_of_lines_down ((onPort_congr (by simp [fetchStop]) _).trans port) settle rfl
    · exact decline_track h ..
  · exact decline_track h ..

theorem takeRestart_track (port : s.onPort .publish = false) : (takeRestart s).trackSafe :=
  trackSafe_of_lines_down ((onPort_congr (by simp [takeRestart, queueDiscard, fetchStop]) _).trans port)
    (by simp [takeRestart, withCtl]) (by simp [takeRestart, allocatorRestart, Allocator.reset])

theorem enterStandby_track (h : s.trackSafe) (served : s.ctl.part = .setup ∨ s.ctl.part = .active)
    (previous : Previous) : (enterStandby previous (result 4 .accepted s)).trackSafe := by
  have port := port_not_publish_of_stages h.stages (by rcases served with p | p <;> simp [p])
  have settle := settle_none_of_stages h.stages (by rcases served with p | p <;> simp [p])
  exact trackSafe_of_lines_down ((onPort_congr (by simp [enterStandby, fetchStop]) _).trans port)
    (by simpa [enterStandby, result, withCtl] using settle) (by simp [enterStandby, allocatorStop])

theorem takeStandby_track (h : s.trackSafe) : (takeStandby s).trackSafe := by
  simp only [takeStandby]
  split
  · rename_i setup
    split
    · exact enterStandby_track h (.inl setup) _
    · exact decline_track h ..
  · rename_i active
    split
    · exact enterStandby_track h (.inr active) _
    · exact decline_track h ..
  · exact decline_track h ..

theorem takeCommand_track (h : s.trackSafe) (port : s.onPort .publish = false) (w : Word) :
    (takeCommand w s).trackSafe := by
  simp only [takeCommand]
  split
  · exact takeGoActive_track h
  · exact takeGoSetup_track h
  · exact takeRestart_track port
  · exact takeStandby_track h
  · exact decline_track h ..

end Sys2Proof.Machine
end

section
/-! PROOF support for `Obligations.EveryStepKeepsTheTrackRule`: page writes taken, the processor port, and the ends of
memory-port transactions. -/

namespace Sys2Proof.Machine

variable {s : State}

/-! ### Page writes taken (R9, R60, R98, R108, R154, R174) -/

theorem takeStructure_track (h : s.trackSafe) (off : Nat) (w : Word) : (takeStructure off w s).trackSafe := by
  simp only [takeStructure]
  split <;> exact h.of_fields (by simp)

/-- Changed limits: a brake intent that moves is a run. -/
theorem limitsChanged_track (h : s.trackSafe) (r : EffortRole) : (limitsChanged r s).trackSafe := by
  have clipped : (clipStored r s).trackSafe := h.of_fields (by simp)
  cases r with
  | tractionA | tractionB => exact clipped.of_fields (t := claim ..) (by simp)
  | brake =>
    simp only [limitsChanged]
    split
    · exact clipped
    · exact runServing_track clipped

theorem tuningActs_track (h : s.trackSafe) (off : Nat) (old : TuningConfig) : (tuningActs off old s).trackSafe := by
  simp only [tuningActs]
  (repeat' split)
  case h_1.isTrue => exact limitsChanged_track h _
  all_goals exact h.of_fields (by simp)

theorem takePage_track (h : s.trackSafe) (port : s.onPort .publish = false) (off : BitVec 8) (w : Word) :
    (takePage off w s).trackSafe := by
  simp only [takePage]
  (repeat' split)
  · exact takeCommand_track h port w
  · exact h.of_fields (by simp [causeClear])
  · exact h.of_fields (by simp [setMask])
  · exact takeStructure_track h ..
  · refine tuningActs_track ?_ ..
    exact h.of_fields (by simp)

/-! ### The processor port (R4, R5, R24 to R29, R182) -/

theorem reply_track (h : s.trackSafe) (ok : Bool) (d : Word) : (reply ok d s).trackSafe :=
  h.of_fields (by simp [reply])

theorem refuse_track (h : s.trackSafe) (c : Cause) : (refuse c s).trackSafe := reply_track (raise_track h c) ..

theorem occupy_track (h : s.trackSafe) (t : HostTxn) (w : HostWait) (page : Option (BitVec 8)) :
    (occupy t w page s).trackSafe := h.of_fields (by simp [occupy])

theorem effortWrite_track (h : s.trackSafe) (r : EffortRole) (w : Word) : (effortWrite r w s).trackSafe := by
  have taken : (takeEffort r w s).trackSafe := h.of_fields (by simp)
  refine reply_track ?_ ..
  cases r with
  | tractionA | tractionB => exact taken.of_fields (t := claim ..) (by simp)
  | brake => exact runServing_track taken

/-- The deliveries of a MODE taken event, a run among them, in any order. -/
theorem modeTaken_track (h : s.trackSafe) (force : s.inForce = true) (order : Fin 120) (before : Direction) :
    (modeTaken order before s).trackSafe := by
  refine (deliver_induct (fun x => x.trackSafe ∧ x.inForce = true) _ (fun f hf x hx => ?_) s ⟨h, force⟩).1
  have block := (permuted_perm order.val (modeDeliveries before)).mem_iff.1 hf
  obtain ⟨safe, force⟩ := hx
  simp only [modeDeliveries, List.mem_cons, List.not_mem_nil, or_false] at block
  rcases block with rfl | rfl | rfl | rfl | rfl
  · exact ⟨safe.of_fields (by simp), inForce_of_part force (by simp)⟩
  · exact ⟨run_track safe.stages force .., inForce_of_part force (by simp)⟩
  all_goals exact ⟨safe.of_fields (by simp), inForce_of_part force (by simp)⟩

theorem modeWrite_track (h : s.trackSafe) (force : s.inForce = true) (w : Word) (order : Fin 120) :
    (modeWrite w order s).trackSafe := by
  simp only [modeWrite]
  split
  · exact refuse_track h _
  · exact reply_track (modeTaken_track (h.of_fields (by simp)) (inForce_of_part force (by simp)) ..) ..

theorem windowWrite_track (h : s.trackSafe) (force : s.inForce = true) (e : WindowEntry) (t : HostTxn) :
    (windowWrite e t s).trackSafe := by
  simp only [windowWrite, intentWrite]
  (repeat' split)
  · exact effortWrite_track h ..
  · exact modeWrite_track h force ..
  · exact refuse_track h _
  · exact occupy_track h ..
  · exact refuse_track h _

theorem decodeTxn_track (h : s.trackSafe) (t : HostTxn) : (decodeTxn t s).trackSafe := by
  simp only [decodeTxn, pageWrite]
  (repeat' split)
  · exact refuse_track h _
  · exact occupy_track h ..
  · exact occupy_track h ..
  · rename_i window _
    exact windowWrite_track h (inForce_of_window window) ..
  all_goals exact occupy_track h ..

theorem serveHeld_track (h : s.trackSafe) : (serveHeld s).trackSafe := by
  simp only [serveHeld]
  (repeat' split)
  · refine decodeTxn_track ?_ _
    exact h.of_fields (by simp)
  · exact h
  · exact h

/-- A wake in STANDBY, where the lines are down, starts the settle timer with WAKING. -/
theorem startWaking_track (h : s.trackSafe) : (startWaking s).trackSafe := by
  simp only [startWaking]
  split
  · rename_i standby
    have down : s.blend.lines = false := h.lines_down (by simp [State.inForce, standby])
    have port := port_not_publish_of_stages h.stages (by simp [standby])
    exact ⟨⟨fun hp => absurd (port.symm.trans hp) (by decide), fun _ => rfl⟩,
      fun on => absurd (down.symm.trans on) (by decide)⟩
  · exact h

theorem hostArrive_track (h : s.trackSafe) (t : HostTxn) : (hostArrive t s).trackSafe := by
  simp only [hostArrive]
  (repeat' split)
  · exact h
  · exact h
  · exact occupy_track h ..
  · exact occupy_track h ..
  · exact startWaking_track (occupy_track h ..)
  all_goals exact decodeTxn_track h t

/-! ### The ends of memory-port transactions (R29, R36 to R38, R43 to R45, R172) -/

/-- Freeing the port takes no publish transaction onto it. -/
theorem State.trackSafe.of_free {t : State} (h : s.trackSafe) (ctl : t.ctl = s.ctl) (blend : t.blend = s.blend)
    (port : t.ip.port = none) : t.trackSafe :=
  h.of_port ctl blend fun hp => by simp [State.onPort, port] at hp

theorem freePort_track (h : s.trackSafe) : (freePort s).trackSafe := h.of_free rfl rfl rfl

theorem landFlight_track (h : s.trackSafe) : (landFlight s).trackSafe := h.of_free rfl rfl rfl

theorem passEnd_track (h : s.trackSafe) (r : MemEnd) : (passEnd r s).trackSafe := by
  have freed := freePort_track h
  simp only [passEnd]
  (repeat' split)
  · exact freed
  · exact count_track (reply_track freed ..) _
  · exact takePage_track (reply_track freed ..) rfl ..
  · exact reply_track freed ..

theorem writebackFailed_track (h : s.trackSafe) : (writebackFailed s).trackSafe := by
  have landed := landFlight_track h
  simp only [writebackFailed]
  (repeat' split)
  · exact freePort_track h
  · exact landed
  · refine deliverCause_track ?_ _
    exact landed.of_fields (by simp)
  · exact count_track landed _
  · exact landed.of_fields (by simp [returnEntry])

theorem fetchRead_track (h : s.trackSafe) (r : MemEnd) : (fetchRead r s).trackSafe := by
  have freed (fetch : Option Fetch) (wait : Nat) (b : Bool) :
      ({ s with
          ip := { s.ip with port := none, fetch := fetch, fetchWait := wait }
          rep := if b then s.rep.bump Counter.feedbackRejected.number else s.rep } : State).trackSafe :=
    h.of_free rfl rfl rfl
  simp only [fetchRead]
  (repeat' split)
  · exact freed s.ip.fetch s.ip.fetchWait _
  · exact freed none s.ip.fetchWait _
  · refine runServing_track (raiseIf_track ?_ ..)
    exact (freed none s.ip.fetchWait _).of_fields rfl
  · exact freed _ 0 _

theorem reportWordEnd_track (h : s.trackSafe) (ok : Bool) : (reportWordEnd ok s).trackSafe :=
  (freePort_track h).of_fields (by simp [reportWordEnd])

/-- The last default-image write takes the part to SETUP, with the lines down as in PUBLISH. -/
theorem publishWordEnd_track (h : s.trackSafe) (publish : s.ctl.part = .publish) (ok : Bool) :
    (publishWordEnd ok s).trackSafe := by
  have down : s.blend.lines = false := h.lines_down (by simp [State.inForce, publish])
  have settle : s.ctl.settle = none := settle_none_of_stages h.stages (by simp [publish])
  have ended : (publishEnd ok s).trackSafe := by
    simp only [publishEnd]
    (repeat' split)
    · exact trackSafe_of_lines_down rfl settle down
    all_goals exact (freePort_track h).of_fields (by simp [freePort, withCtl])
  simp only [publishWordEnd]
  split
  · exact serveHeld_track ended
  · exact ended

theorem portTimeout_track (h : s.trackSafe) : (portTimeout s).trackSafe := by
  simp only [portTimeout]
  split
  · exact h
  · rename_i p port
    have later : ({ s with now := max s.now p.deadline, memory := s.memory.missed p.claimant } : State).trackSafe :=
      h.of_fields (by simp)
    split
    · rename_i claimant
      exact publishWordEnd_track later (h.stages.publishing (by simp [State.onPort, port, claimant])) _
    · exact passEnd_track later _
    · exact writebackFailed_track later
    · exact fetchRead_track later _
    · exact reportWordEnd_track later _

end Sys2Proof.Machine
end

section
/-! PROOF of `Obligations.EveryStepKeepsTheTrackRule`: evaluations, expiries and samples, every move of a step, and what
follows every command. -/

namespace Sys2Proof.Machine

variable {s : State}

/-! ### Evaluations, expiries and wakes (R8, R72, R99, R132, R137, R182) -/

/-- The deliveries of a completion, the evaluation run among them, in any order. -/
theorem completeEvaluation_track (h : s.trackSafe) (order : Fin 24) : (completeEvaluation order s).trackSafe := by
  simp only [completeEvaluation]
  split
  · exact h
  · rename_i e _
    have published : (publishRecords e s).trackSafe := h.of_fields (by simp)
    split
    · rename_i force
      refine (deliver_induct (fun x => x.trackSafe ∧ x.inForce = true) _ (fun f hf x hx => ?_) _
        ⟨published, inForce_of_part force (by simp)⟩).1
      have block := (permuted_perm order.val (completionDeliveries e)).mem_iff.1 hf
      obtain ⟨safe, force⟩ := hx
      simp only [completionDeliveries, List.mem_cons, List.not_mem_nil, or_false] at block
      rcases block with rfl | rfl | rfl | rfl
      case inr.inr.inl =>
        have seen := stagesAgree_of (t := { x with blend := { x.blend with
          seenMagnitude := e.ref.magnitude, seenSense := e.ref.sense, seenRollback := e.ref.rollback } })
          safe.stages rfl rfl .inl
        exact ⟨run_track seen force .., inForce_of_part force (by simp [evaluationRun])⟩
      all_goals exact ⟨safe.of_fields (by simp), inForce_of_part force (by simp)⟩
    · exact published

theorem refreshEnd_track (h : s.trackSafe) (c : IntentRole) : (refreshEnd c s).trackSafe := by
  rcases c with (_ | _ | _) | _
  · exact h.of_fields (by simp [refreshEnd])
  · exact h.of_fields (by simp [refreshEnd])
  · exact runServing_track (h.of_fields (by simp))
  · refine deliverCause_track ?_ _
    exact h.of_fields (by simp [staleMode])

theorem holdEnd_track (h : s.trackSafe) : (holdEnd s).trackSafe := by
  refine deliverCause_track ?_ _
  exact h.of_fields (by simp)

theorem lagEnd_track (h : s.trackSafe) (m : Motor) : (lagEnd m s).trackSafe := by
  refine runServing_track ?_
  exact h.of_fields (by simp)

theorem probeEnd_track (h : s.trackSafe) (m : Motor) : (probeEnd m s).trackSafe := by
  refine runServing_track ?_
  exact h.of_fields (by simp)

theorem deficitEnd_track (h : s.trackSafe) : (deficitEnd s).trackSafe := by
  refine runServing_track ?_
  exact h.of_fields (by simp)

/-- WAKING ends with the lines down; a run follows in ACTIVE and FALLBACK. -/
theorem endWaking_track (h : s.trackSafe) (waking : s.ctl.part = .waking) : (endWaking s).trackSafe := by
  have begun : (wakeBegun s).trackSafe := by
    have port := port_not_publish_of_stages h.stages (by simp [waking])
    have down := h.lines_down (by simp [State.inForce, waking])
    rw [wakeBegun_eq]
    exact trackSafe_of_lines_down port rfl down
  have acted : (wakeActs (wakeBegun s)).trackSafe := by
    simp only [wakeActs]
    split
    · rename_i force
      have started : (wakeStarted (wakeBegun s)).trackSafe := begun.of_fields (by simp [wakeStarted, fetchStart])
      have serves : (wakeStarted (wakeBegun s)).inForce = true := inForce_of_part force (by simp [wakeStarted])
      rw [wakeServing_eq]
      split
      · have fallen := stagesAgree_congr (t := allocatorFallback (raise .fallback (wakeStarted (wakeBegun s))))
          started.stages (by simp) (by simp) (by simp)
        exact rewords_track fallen (inForce_of_part serves (by simp)) _
      · exact run_track started.stages serves ..
    · exact begun.of_fields (by simp [wakeSetup])
  rw [endWaking_eq]
  exact acted.of_fields (by simp)

/-! ### Samples (R48, R62, R151, R153, R159) -/

theorem edge_track (h : s.trackSafe) (i : Axle) (ph : Phase) (rising : Bool) (stamp : Nat) :
    (edge i ph rising stamp s).trackSafe := by
  have counted : (phaseEdge i ph rising stamp s).trackSafe := h.of_fields (by simp)
  simp only [edge]
  split
  · exact startWaking_track (counted.of_fields (by simp [withCtl]))
  · exact counted

theorem tick_track (h : s.trackSafe) : (tick s).trackSafe :=
  tick_keeps (P := State.trackSafe) (fun _ hx => hx.of_fields (by simp [endSending]))
    (fun i _ hx => sampleAxle_keeps (P := State.trackSafe) (fun _ _ _ hx => hx.of_fields (by simp [setChannel]))
      (fun _ _ _ _ _ hx => edge_track hx ..) i hx)
    (fun hx => sampleChain_keeps (P := State.trackSafe) (fun _ => hx.of_fields (by simp))
      (fun b _ hx => hx.of_fields (by simp)) (fun hx => hx.of_fields (by simp)) hx)
    (fun i _ hx => hx.of_fields (by simp)) (fun i _ hx => hx.of_fields (by simp))
    (fun v _ hx => hx.of_fields (by simp)) h

/-! ### What follows every command (R32, R41) -/

/-- A grant is the publish writer's in PUBLISH alone. -/
theorem grant_track (h : s.trackSafe) {c : Claimant} (chosen : s.chosen = some c) : (grant c s).trackSafe := by
  cases c with
  | publish => exact h.of_port rfl rfl fun _ => publish_of_chosen chosen
  | passThrough =>
    simp only [grant, grantHost]
    split
    · exact h
    · exact h.of_port rfl rfl nofun
  | queue =>
    simp only [grant, grantQueue]
    split
    · exact h
    · exact h.of_port rfl rfl nofun
  | fetcher =>
    simp only [grant, grantFetch]
    split
    · exact h
    · exact h.of_port rfl rfl nofun
  | report =>
    simp only [grant, grantReport]
    split
    · exact h
    · exact h.of_port rfl rfl nofun

theorem finish_track (h : s.trackSafe) : (finish s).trackSafe := by
  have released : (releaseHolds s).trackSafe := h.of_fields (by simp [releaseHolds])
  have granted : (arbitrate (releaseHolds s)).trackSafe := by
    simp only [arbitrate]
    split
    · rename_i chosen
      exact grant_track released chosen
    · exact released
  exact granted.of_fields rfl

/-! ### The obligation -/

/-- Every move keeps the invariant. -/
theorem moves_track {t : State} (h : s.trackSafe) (moves : Moves s t) : t.trackSafe := by
  have answered {x : State} (a : MemoryAnswers) (hx : x.trackSafe) : ({ x with memory := a } : State).trackSafe :=
    hx.of_fields (by simp)
  have later (d : Nat) : ({ s with now := d } : State).trackSafe := h.of_fields (by simp)
  have ends {c : Claimant} {ours : Bool} {f : State → State} (hf : ∀ {x : State}, x.trackSafe → (f x).trackSafe) :
      (completion c ours f s).trackSafe :=
    completion_keeps_of (P := State.trackSafe) answered (fun a _ => hf (answered a h)) h
  have expires {timer : Timer} {f : State → State} (hf : ∀ {x : State}, x.trackSafe → (f x).trackSafe) :
      (onExpiry timer f s).trackSafe :=
    onExpiry_keeps (P := State.trackSafe) (fun _ _ => hf (later _)) h
  cases moves with
  | reset x pins => exact trackSafe_of_lines_down rfl rfl rfl
  | startUp straps =>
    simp only [startUp]
    split
    · rename_i reset
      have down : s.blend.lines = false := h.lines_down (by simp [State.inForce, reset])
      exact ⟨⟨fun _ => rfl, fun hs => absurd (settle_none_of_stages h.stages (by simp [reset])) hs⟩,
        fun on => absurd (down.symm.trans on) (by decide)⟩
    · exact h
  | arrives t => exact hostArrive_track h t
  | publishEnds ok =>
    exact completion_keeps_of (P := State.trackSafe) answered
      (fun a ours => publishWordEnd_track (answered a h) (h.stages.publishing ours) ok) h
  | passEnds ours r => exact ends (passEnd_track · r)
  | writebackLands => exact ends landFlight_track
  | writebackFails => exact ends writebackFailed_track
  | portTimesOut => exact portTimeout_track h
  | fetchReads r => exact ends (fetchRead_track · r)
  | reportWordEnds ok => exact ends (reportWordEnd_track · ok)
  | refreshExpires c => exact expires (refreshEnd_track · c)
  | edge i ph rising stamp => exact edge_track h ..
  | evaluationCompletes order => exact completeEvaluation_track h order
  | holdExpires => exact expires (holdEnd_track ·)
  | lagExpires m => exact expires (lagEnd_track · m)
  | probeExpires m => exact expires (probeEnd_track · m)
  | deficitExpires => exact expires deficitEnd_track
  | settles =>
    exact onExpiry_keeps (P := State.trackSafe)
      (fun d hd => serveHeld_track (endWaking_track (later _) (h.stages.settling (by rw [hd]; nofun)))) h
  | tick => exact tick_track h
  | idleLimit => exact expires fun hx => hx.of_fields (by simp)
  | levelLow | levelHigh | supply | byte | framing => exact h.of_fields (by simp)
  | fetchExpires => exact expires fun hx => hx.of_fields (by simp [fetchEnd])
  | standstillExpires | periodExpires | excursionExpires | pulseExpires | levelExpires | silenceExpires
  | transmits | reportExpires => exact expires fun hx => hx.of_fields (by simp)

/-- Settles O58: a run sets the lines by the rule in ACTIVE and FALLBACK, and every way out of these states and every change
of the seen reference either lowers the lines or makes a run. -/
theorem everyStepKeepsTheTrackRule : Obligations.EveryStepKeepsTheTrackRule := by
  intro s t stages rule stepped
  have kept : t.trackSafe :=
    step_keeps (P := State.trackSafe) (fun _ _ _ hx => hx.of_fields (by simp)) moves_track finish_track ⟨stages, rule⟩ stepped
  exact ⟨kept.stages, kept.rule⟩

end Sys2Proof.Machine
end

section
/-! PROOF support. The sanding controller's operations, said once each: the sanders that lead, a sander's state by its
conditions, what a trigger does by its verdict, and what a trigger and a stop leave alone. -/

namespace Sys2Proof.Machine

variable {s : State}

/-! ### The four records -/

theorem PerSander.set_get_self {α : Type} (v : PerSander α) (i : SanderId) : v.set i (v.get i) = v :=
  PerSander.ext_get fun j => by
    rw [PerSander.get_set]
    split
    · rename_i same
      rw [same]
    · rfl

/-! ### Who leads, and in which state (R142, R143) -/

theorem SanderTuning.leads_iff (t : SanderTuning) (d : Direction) :
    t.leads d = true
      ↔ t.enabled = true ∧ (d = .forward ∧ t.forReverse = false ∨ d = .reverse ∧ t.forReverse = true) := by
  cases d <;> simp [SanderTuning.leads]

theorem enabled_of_leads {i : SanderId} (h : s.leads i = true) : (s.cfg.tun.sanders.get i).enabled = true :=
  ((SanderTuning.leads_iff ..).1 h).1

/-- A sander is IDLE where R143's table ends. -/
theorem sanderState_idle_iff (i : SanderId) :
    s.sanderState i = .idle
      ↔ (s.cfg.tun.sanders.get i).enabled = true ∧ s.sand.supplyGood = true ∧ (s.sand.sanders.get i).full = true
        ∧ (s.sand.sanders.get i).pulse = none := by
  simp only [State.sanderState, sanderState]
  (repeat' split) <;> simp_all [Option.isSome_iff_ne_none]

theorem sanderState_disabled_iff (i : SanderId) :
    s.sanderState i = .disabled ↔ (s.cfg.tun.sanders.get i).enabled = false := by
  simp only [State.sanderState, sanderState]
  (repeat' split) <;> simp_all

theorem sanderState_unavailable_iff (i : SanderId) :
    s.sanderState i = .unavailable ↔ (s.cfg.tun.sanders.get i).enabled = true ∧ s.sand.supplyGood = false := by
  simp only [State.sanderState, sanderState]
  (repeat' split) <;> simp_all

theorem sanderState_empty_iff (i : SanderId) :
    s.sanderState i = .empty
      ↔ (s.cfg.tun.sanders.get i).enabled = true ∧ s.sand.supplyGood = true ∧ (s.sand.sanders.get i).full = false := by
  simp only [State.sanderState, sanderState]
  (repeat' split) <;> simp_all

/-! ### Triggers (R144) -/

/-- A leading sander cannot start a pulse for a trigger of these parts (R144). -/
def State.Withholds (s : State) (i : SanderId) (parts : List Trigger) : Prop :=
  s.sand.supplyGood = false ∨ (s.sand.sanders.get i).full = false ∨ (s.sand.sanders.get i).remaining = 0
    ∨ (s.sand.seenMagnitude < 200 ∧ Trigger.start ∉ parts)

section Verdict

variable {i : SanderId} {parts : List Trigger}

theorem verdict_of_no_parts_or_not_leads (h : s.leads i = false ∨ parts = []) : s.verdict i parts = .notReached := by
  rcases h with follows | rfl
  · simp [State.verdict, follows]
  · simp [State.verdict]

/-- A leading sander that is IDLE or PULSING judges by its budget and the seen reference. -/
theorem verdict_of_ready (leads : s.leads i = true) (given : parts ≠ [])
    (ready : s.sanderState i = .idle ∨ s.sanderState i = .pulsing) :
    s.verdict i parts
      = if (s.sand.sanders.get i).remaining = 0 ∨ (s.sand.seenMagnitude < 200 ∧ Trigger.start ∉ parts) then .withheld
        else .accepted := by
  have reaches : (parts.isEmpty || !s.leads i) = false := by simp [leads, given]
  rcases ready with state | state <;> simp [State.verdict, reaches, state, ite_or]

/-- At a leading sander a trigger is withheld or accepted. -/
theorem verdict_of_leads (leads : s.leads i = true) (given : parts ≠ []) :
    (s.Withholds i parts → s.verdict i parts = .withheld)
      ∧ (¬ s.Withholds i parts → s.verdict i parts = .accepted) := by
  have reaches : (parts.isEmpty || !s.leads i) = false := by simp [leads, given]
  have ready (supply : s.sand.supplyGood = true) (full : (s.sand.sanders.get i).full = true)
      (state : s.sanderState i = .idle ∨ s.sanderState i = .pulsing) :
      (s.Withholds i parts → s.verdict i parts = .withheld)
        ∧ (¬ s.Withholds i parts → s.verdict i parts = .accepted) := by
    rw [verdict_of_ready leads given state]
    simp only [State.Withholds, supply, full, Bool.true_eq_false, false_or]
    exact ⟨fun h => if_pos h, fun h => if_neg h⟩
  cases state : s.sanderState i with
  | disabled => exact absurd (enabled_of_leads leads) (by simp [(sanderState_disabled_iff i).1 state])
  | unavailable => simp [State.verdict, reaches, state, State.Withholds, ((sanderState_unavailable_iff i).1 state).2]
  | empty => simp [State.verdict, reaches, state, State.Withholds, ((sanderState_empty_iff i).1 state).2.2]
  | pulsing =>
    obtain ⟨-, supply, full, -⟩ := (sanderState_pulsing_iff i).1 state
    exact ready supply full (.inr state)
  | idle =>
    obtain ⟨-, supply, full, -⟩ := (sanderState_idle_iff i).1 state
    exact ready supply full (.inl state)

/-- A trigger that does not reach the sander changes nothing. -/
theorem offer_of_notReached (h : s.verdict i parts = .notReached) : offer i parts s = s := by
  have trail : (s.sand.trail || Verdict.notReached == Verdict.accepted) = s.sand.trail := Bool.or_false _
  simp only [offer, h, SanderRecord.after, PerSander.set_get_self, trail]

theorem offer_of_withheld (h : s.verdict i parts = .withheld) :
    offer i parts s
      = { s with
          sand :=
            { s.sand with
              sanders := s.sand.sanders.set i
                { s.sand.sanders.get i with
                  withheld := min 65535 ((s.sand.sanders.get i).withheld + 1), last := combinedName parts } }
          rep := s.rep.raise .sandWithheld } := by
  have trail : (s.sand.trail || Verdict.withheld == Verdict.accepted) = s.sand.trail := Bool.or_false _
  simp only [offer, h, SanderRecord.after, trail]

theorem offer_of_accepted (h : s.verdict i parts = .accepted) :
    offer i parts s
      = { s with
          sand :=
            { s.sand with
              sanders := s.sand.sanders.set i
                { s.sand.sanders.get i with
                  remaining := (s.sand.sanders.get i).remaining - 1, last := combinedName parts
                  pulse := some (s.now + (s.cfg.tun.sanders.get i).pulse * 1000) }
              trail := true }
          rep := s.rep.bump 16 } := by
  have trail : (s.sand.trail || Verdict.accepted == Verdict.accepted) = true := Bool.or_true _
  simp only [offer, h, SanderRecord.after, trail]
  rfl

end Verdict

/-- A combined trigger is named by the first of R144's order that stands among its parts. -/
theorem combinedName_eq (parts : List Trigger) :
    combinedName parts = triggerOrder.find? fun k => decide (k ∈ parts) := by
  simp only [combinedName, List.contains_eq_mem]

/-! ### What a trigger leaves alone -/

theorem offer_other {i j : SanderId} (other : j ≠ i) (parts : List Trigger) (s : State) :
    (offer i parts s).sand.sanders.get j = s.sand.sanders.get j := PerSander.get_set_ne _ _ other

theorem offer_record (i : SanderId) (parts : List Trigger) (s : State) :
    ((offer i parts s).sand.sanders.get i).full = (s.sand.sanders.get i).full
      ∧ ((offer i parts s).sand.sanders.get i).level = (s.sand.sanders.get i).level := by
  simp only [offer, PerSander.get_set_self, SanderRecord.after]
  split <;> exact ⟨rfl, rfl⟩

/-- Each sander's trigger, in the fixed order, one after another. -/
theorem offerEach_eq_foldl (parts : SanderId → List Trigger) (s : State) :
    offerEach parts s = [SanderId.s1, .s2, .s3, .s4].foldl (fun t i => offer i (parts i) t) s := rfl

@[simp] theorem offerEach_nil (s : State) : offerEach (fun _ => []) s = s := by simp only [offerEach, offer_nil]

/-! ### Stopped pulses (R143, R149) -/

theorem stopPulses_record (which : SanderId → Bool) (s : State) (i : SanderId) :
    (stopPulses which s).sand.sanders.get i
      = if which i then { s.sand.sanders.get i with pulse := none } else s.sand.sanders.get i := PerSander.get_build ..

@[simp] theorem stopPulses_none (s : State) : stopPulses (fun _ => false) s = s := rfl

/-! ### The level indicator becomes FULL (R147, R151, R154) -/

/-- The state with a sander's level indicator FULL. -/
def State.filled (s : State) (i : SanderId) : State :=
  { s with
    sand :=
      { s.sand with
        sanders :=
          s.sand.sanders.set i { s.sand.sanders.get i with full := true, level := none, levelFresh := false } } }

/-- Then the standing triggers are given to its sander, or none. -/
theorem levelFull_offers (i : SanderId) (s : State) :
    ∃ parts, levelFull i s = offer i parts (s.filled i) ∧ (s.standing = [] → parts = []) :=
  ⟨_, rfl, fun nothing => by split <;> [exact nothing; rfl]⟩

/-- They are given where the sander returns to IDLE: it was EMPTY with the supply GOOD. -/
theorem levelFull_of_enabled {i : SanderId} (enabled : (s.cfg.tun.sanders.get i).enabled = true) :
    levelFull i s
      = offer i
          (if s.sand.supplyGood = true ∧ (s.sand.sanders.get i).full = false ∧ (s.sand.sanders.get i).pulse = none then
            s.standing
           else []) (s.filled i) := by
  have idle : (s.filled i).sanderState i = .idle ↔ s.sand.supplyGood = true ∧ (s.sand.sanders.get i).pulse = none := by
    rw [sanderState_idle_iff]
    simp [State.filled, enabled]
  have returns : ((s.sanderState i == .empty || s.sanderState i == .unavailable)
        && (s.filled i).sanderState i == .idle) = true
      ↔ s.sand.supplyGood = true ∧ (s.sand.sanders.get i).full = false ∧ (s.sand.sanders.get i).pulse = none := by
    simp only [Bool.and_eq_true, Bool.or_eq_true, beq_iff_eq, idle, sanderState_empty_iff, sanderState_unavailable_iff,
      enabled]
    grind
  change offer i
    (if ((s.sanderState i == .empty || s.sanderState i == .unavailable) && (s.filled i).sanderState i == .idle) = true
      then s.standing else []) (s.filled i) = _
  simp only [returns]

end Sys2Proof.Machine
end

section
/-! PROOF of `Obligations.SanderWordActsOnItsSander`: a sander's tuning word on its way to its items and to its record. -/

namespace Sys2Proof.Machine

variable {s : State}

/-- The page offset of a sander's tuning word (12.2). -/
def sanderOffset : SanderId → BitVec 8
  | .s1 => 0x72 | .s2 => 0x73 | .s3 => 0x74 | .s4 => 0x75

theorem setWord_sanderOffset (c : TuningConfig) (i : SanderId) (w : Word) :
    c.setWord (sanderOffset i).toNat w = { c with sanders := c.sanders.set i (SanderTuning.ofWord w) } := by
  cases i <;> rfl

theorem takeTuning_sanderOffset (i : SanderId) (w : Word) (s : State) :
    takeTuning (sanderOffset i).toNat w s
      = sanderTuned i (s.cfg.tun.sanders.get i) (s.tuned (sanderOffset i).toNat w) := by
  cases i <;> rfl

/-- A sander's tuning word that stands on the port is taken, and acts on its sander (R154, R174). -/
theorem exec_sanderTuningWrite {i : SanderId} {w : Word} (h : s.pageStands (sanderOffset i) w) :
    exec .sanderTuningWrite s
      = .next (finish (sanderTuned i (s.cfg.tun.sanders.get i) ((s.completed true 0).tuned (sanderOffset i).toNat w))) := by
  have row : 0x72 ≤ (sanderOffset i).toNat ∧ (sanderOffset i).toNat ≤ 0x75 := by cases i <;> decide
  change Host.Outcome.next (finish (takenOnPort (fun off _ => 0x72 ≤ off && off ≤ 0x75) s)) = _
  rw [takenOnPort_of_stands h (by simp [row]), takePage_of_tuning (by omega) (by omega), takeTuning_sanderOffset]
  rfl

/-- The record of a sander whose tuning has been replaced (R154). -/
theorem sanderTuned_record (i : SanderId) (old : SanderTuning) (s : State) :
    (sanderTuned i old s).sand.sanders.get i
      = { s.sand.sanders.get i with
          pulse := if s.leads i = true then (s.sand.sanders.get i).pulse else none
          level := if (s.cfg.tun.sanders.get i).enabled = true then (s.sand.sanders.get i).level else none
          levelFresh := (s.sand.sanders.get i).levelFresh || (!old.enabled && (s.cfg.tun.sanders.get i).enabled)
          remaining :=
            if (!old.enabled && (s.cfg.tun.sanders.get i).enabled) = true then (s.cfg.tun.sanders.get i).budget
            else min (s.sand.sanders.get i).remaining (s.cfg.tun.sanders.get i).budget
          windowStart :=
            if (!old.enabled && (s.cfg.tun.sanders.get i).enabled) = true then s.sand.seenOdometer
            else (s.sand.sanders.get i).windowStart } := by
  have pulse : (if ((s.sand.sanders.get i).pulse.isSome && !s.leads i) = true then none
      else (s.sand.sanders.get i).pulse) = if s.leads i = true then (s.sand.sanders.get i).pulse else none := by
    cases s.leads i <;> cases (s.sand.sanders.get i).pulse <;> rfl
  simp only [sanderTuned, PerSander.get_set_self, pulse]

theorem sanderTuned_other {i j : SanderId} (other : j ≠ i) (old : SanderTuning) (s : State) :
    (sanderTuned i old s).sand.sanders.get j = s.sand.sanders.get j := PerSander.get_set_ne _ _ other

/-- Settles O29: the word by its taking, and the record of its sander by whether it leads and is newly enabled. -/
theorem sanderWordActsOnItsSander : Obligations.SanderWordActsOnItsSander := by
  intro i w off s stands at' old new r leads enabling
  obtain rfl : off = sanderOffset i := by rw [at']; cases i <;> rfl
  let x := (s.completed true 0).tuned (sanderOffset i).toNat w
  have tuned : x.cfg.tun = { s.cfg.tun with sanders := s.cfg.tun.sanders.set i new } := setWord_sanderOffset ..
  have items : x.cfg.tun.sanders.get i = new := by rw [tuned]; exact PerSander.get_set_self ..
  have leading : x.leads i = true ↔ leads := by
    rw [State.leads, items]
    exact SanderTuning.leads_iff ..
  have enables : (!old.enabled && new.enabled) = decide enabling := by
    rw [Bool.eq_iff_iff]
    simp [enabling]
  refine ⟨sanderTuned i old x, exec_sanderTuningWrite stands, tuned, ?_, fun j other => sanderTuned_other other .., rfl,
    rfl⟩
  rw [sanderTuned_record, items, enables]
  simp only [leading, decide_eq_true_eq]
  rfl

end Sys2Proof.Machine
end

section
/-! PROOF of `Obligations.LevelsAndSupplyAreMonitored`: samples of a level input and of the supply by what they find, and the
sander that returns to IDLE. -/

namespace Sys2Proof.Machine

variable {s : State}

theorem samples_of_running (reset : s.ctl.part ≠ .reset) (publish : s.ctl.part ≠ .publish) : s.samples = true := by
  simp [State.samples, reset, publish]

/-! ### Level samples (R151, R154) -/

section Level

variable {i : SanderId} (samples : s.samples = true) (enabled : (s.cfg.tun.sanders.get i).enabled = true)

include samples enabled

theorem levelLow_of_full (full : (s.sand.sanders.get i).full = true) :
    (levelLow i s).rep = s.rep.raise .sandEmpty
      ∧ (levelLow i s).sand.sanders.get i
        = { s.sand.sanders.get i with full := false, level := none, levelFresh := false, pulse := none } := by
  simp [levelLow, raiseIf, samples, enabled, full, stopPulses_record]

theorem levelLow_of_empty (empty : (s.sand.sanders.get i).full = false) :
    (levelLow i s).rep = s.rep
      ∧ (levelLow i s).sand.sanders.get i = { s.sand.sanders.get i with level := none, levelFresh := false } := by
  simp [levelLow, raiseIf, samples, enabled, empty]

theorem levelHigh_of_full (full : (s.sand.sanders.get i).full = true) :
    (levelHigh i s).sand.sanders.get i = { s.sand.sanders.get i with levelFresh := false }
      ∧ (levelHigh i s).rep = s.rep := by
  simp [levelHigh, samples, enabled, full]

theorem levelHigh_of_waiting (empty : (s.sand.sanders.get i).full = false)
    (waiting : (s.sand.sanders.get i).levelFresh = false) :
    (levelHigh i s).rep = s.rep
      ∧ (levelHigh i s).sand.sanders.get i
        = { s.sand.sanders.get i with
            level :=
              if (s.sand.sanders.get i).level = none then some (s.now + 1000000) else (s.sand.sanders.get i).level } := by
  by_cases stopped : (s.sand.sanders.get i).level = none
  · simp [levelHigh, samples, enabled, empty, waiting, stopped, State.timer, Config.levelLength]
  · have stands : levelHigh i s = s := by simp [levelHigh, samples, enabled, empty, waiting, stopped]
    rw [stands, if_neg stopped]
    exact ⟨rfl, rfl⟩

theorem levelHigh_of_fresh (empty : (s.sand.sanders.get i).full = false)
    (fresh : (s.sand.sanders.get i).levelFresh = true) : levelHigh i s = levelFull i s := by
  simp [levelHigh, samples, enabled, empty, fresh]

end Level

theorem levelLow_other {i j : SanderId} (other : j ≠ i) (s : State) :
    (levelLow i s).sand.sanders.get j = s.sand.sanders.get j := by
  simp only [levelLow, raiseIf_sand]
  split
  · rw [PerSander.get_set_ne _ _ other, stopPulses_record]
    simp [other]
  · rw [stopPulses_record]
    simp [other]

theorem levelLow_sand (i : SanderId) (s : State) :
    (levelLow i s).sand
      = { s.sand with sanders := (levelLow i s).sand.sanders, trailMark := (levelLow i s).sand.trailMark } := rfl

theorem levelFull_other {i j : SanderId} (other : j ≠ i) (s : State) :
    (levelFull i s).sand.sanders.get j = s.sand.sanders.get j :=
  (offer_other other ..).trans (PerSander.get_set_ne _ _ other)

theorem levelFull_record (i : SanderId) (s : State) :
    ((levelFull i s).sand.sanders.get i).full = true ∧ ((levelFull i s).sand.sanders.get i).level = none := by
  obtain ⟨parts, offered, -⟩ := levelFull_offers i s
  obtain ⟨full, level⟩ := offer_record i parts (s.filled i)
  rw [offered, full, level, State.filled]
  simp

theorem levelFull_of_nothing_stands (nothing : s.standing = []) (i : SanderId) : levelFull i s = s.filled i := by
  obtain ⟨parts, offered, given⟩ := levelFull_offers i s
  rw [offered, given nothing, offer_nil]

theorem levelHigh_other {i j : SanderId} (other : j ≠ i) (s : State) :
    (levelHigh i s).sand.sanders.get j = s.sand.sanders.get j := by
  simp only [levelHigh]
  (repeat' split)
  · exact PerSander.get_set_ne _ _ other
  · exact levelFull_other other s
  · exact PerSander.get_set_ne _ _ other
  · rfl
  · rfl

/-- A high sample changes the sanding controller and the reporter alone. -/
theorem levelHigh_frame (i : SanderId) (s : State) :
    levelHigh i s = { s with sand := (levelHigh i s).sand, rep := (levelHigh i s).rep } := by
  simp only [levelHigh]
  (repeat' split) <;> rfl

/-- The level timer's expiry makes the indicator FULL (R151). -/
theorem exec_levelTimerExpiry {i : SanderId} {d : Nat} (runs : (s.sand.sanders.get i).level = some d) :
    exec (.levelTimerExpiry i) s = .next (finish (levelFull i { s with now := max s.now d })) := by
  change Host.Outcome.next (finish (onExpiry (s.sand.sanders.get i).level (levelFull i) s)) = _
  rw [runs, onExpiry_some]

/-! ### Samples of the supply (R153) -/

theorem threshold_eq (s : State) :
    s.threshold
      = if s.cfg.tun.supplyCode = 0 then 168 else if s.cfg.tun.supplyCode = 1 then 180
        else if s.cfg.tun.supplyCode = 2 then 192 else 204 := by
  have codes : ∀ code : BitVec 2, supplyThreshold code
      = if code = 0 then 168 else if code = 1 then 180 else if code = 2 then 192 else 204 := by decide
  exact codes _

section Supply

variable {v : Nat}

theorem supplySample_of_falls (samples : s.samples = true) (good : s.sand.supplyGood = true) (low : v < s.threshold) :
    supplySample v s
      = raise .actSupplyLow
          { stopPulses (fun _ => true) s with
            sand := { (stopPulses (fun _ => true) s).sand with supplyGood := false } } := by
  simp [supplySample, samples, good, low, raiseIf, raise]

/-- A sample that reaches neither limit leaves everything. -/
theorem supplySample_of_stays (good : s.sand.supplyGood = true → s.threshold ≤ v)
    (bad : s.sand.supplyGood = false → v < s.threshold + 6) : supplySample v s = s := by
  have toLow : (s.samples && s.sand.supplyGood && decide (v < s.threshold)) = false := by
    cases supply : s.sand.supplyGood <;> simp [supply] at good <;> simp [good]
  have toGood : (s.samples && !s.sand.supplyGood && decide (s.threshold + 6 ≤ v)) = false := by
    cases supply : s.sand.supplyGood <;> simp [supply] at bad <;> simp [bad]
  simp only [supplySample, toLow, toGood, stopPulses_none, raiseIf, Bool.or_false, Bool.false_and, Bool.false_eq_true,
    if_false, offerEach_nil]

/-- The supply is GOOD again, and the standing triggers are given to each sander that returns to IDLE. -/
theorem supplySample_of_rises (samples : s.samples = true) (bad : s.sand.supplyGood = false)
    (high : s.threshold + 6 ≤ v) :
    supplySample v s
      = offerEach
          (fun i =>
            if (s.cfg.tun.sanders.get i).enabled = true ∧ (s.sand.sanders.get i).full = true
                ∧ (s.sand.sanders.get i).pulse = none then s.standing else [])
          { s with sand := { s.sand with supplyGood := true } } := by
  let risen : State := { s with sand := { s.sand with supplyGood := true } }
  have returns (i : SanderId) : (s.sanderState i == .unavailable && risen.sanderState i == .idle) = true
      ↔ (s.cfg.tun.sanders.get i).enabled = true ∧ (s.sand.sanders.get i).full = true
        ∧ (s.sand.sanders.get i).pulse = none := by
    simp only [Bool.and_eq_true, beq_iff_eq, sanderState_unavailable_iff, sanderState_idle_iff, bad, risen]
    grind
  have toGood : (s.samples && !s.sand.supplyGood && decide (s.threshold + 6 ≤ v)) = true := by simp [samples, bad, high]
  have toLow : (s.samples && s.sand.supplyGood && decide (v < s.threshold)) = false := by simp [bad]
  simp only [supplySample, toLow, toGood, stopPulses_none, raiseIf, Bool.or_true, Bool.true_and, Bool.false_eq_true,
    if_false, ← returns]
  rfl

end Supply

/-! ### The obligation -/

/-- Settles O51: a level sample by what the indicator was, the level timer's expiry, a sample of the supply by the limit it
passes, and the re-offer where a sander returns to IDLE. -/
theorem levelsAndSupplyAreMonitored : Obligations.LevelsAndSupplyAreMonitored := by
  refine ⟨fun i s enabled reset publish => ?_, fun i d s runs => ?_, fun v s reset publish => ?_,
    fun s reset publish => ?_⟩
  · intro r
    have samples := samples_of_running reset publish
    constructor
    · let x := setLevel i false s
      exact ⟨levelLow i x, rfl, levelLow_of_full (s := x) samples enabled, levelLow_of_empty (s := x) samples enabled,
        fun j other => levelLow_other other x, levelLow_sand i x, rfl⟩
    · let x := setLevel i true s
      refine ⟨levelHigh i x, rfl, levelHigh_of_full (s := x) samples enabled,
        levelHigh_of_waiting (s := x) samples enabled, fun empty fresh => ?_, fun j other => levelHigh_other other x,
        (levelHigh_frame i x).trans (by rw [levelHigh_pins]; rfl)⟩
      rw [levelHigh_of_fresh (s := x) samples enabled empty fresh]
      exact levelFull_record i x
  · let x : State := { s with now := max s.now d }
    obtain ⟨full, level⟩ := levelFull_record i x
    refine ⟨levelFull i x, exec_levelTimerExpiry runs, rfl, full, level, fun nothing => ?_,
      fun j other => levelFull_other other x, rfl⟩
    rw [levelFull_of_nothing_stands (s := x) nothing i]
    exact ⟨PerSander.get_set_self .., rfl⟩
  · intro code limit
    let x := setSupply v s
    have samples : x.samples = true := samples_of_running reset publish
    have at' : x.threshold = limit := threshold_eq x
    refine ⟨⟨supplySample v x, rfl, fun good low => ?_, fun good high => ?_, fun bad low => ?_, fun bad high => ?_, rfl⟩,
      rfl⟩
    · rw [supplySample_of_falls samples good (at' ▸ low)]
      exact ⟨rfl, rfl, fun i => stopPulses_record _ x i⟩
    · rw [supplySample_of_stays (s := x) (fun _ => at' ▸ high) (fun bad => absurd (good.symm.trans bad) (by decide))]
      exact ⟨rfl, rfl⟩
    · rw [supplySample_of_stays (s := x) (fun good => absurd (good.symm.trans bad) (by decide)) (fun _ => at' ▸ low)]
      exact ⟨rfl, rfl⟩
    · rw [supplySample_of_rises samples bad (at' ▸ high)]
      rfl
  · have samples := samples_of_running reset publish
    refine ⟨fun i d enabled runs => ?_, fun i enabled empty fresh => ?_, fun v code chosen bad high => ?_⟩
    · rw [exec_levelTimerExpiry runs, levelFull_of_enabled (s := { s with now := max s.now d }) enabled]
      rfl
    · change Host.Outcome.next (finish (levelHigh i (setLevel i true s))) = _
      rw [levelHigh_of_fresh (s := setLevel i true s) samples enabled empty fresh,
        levelFull_of_enabled (s := setLevel i true s) enabled]
      rfl
    · subst chosen
      change Host.Outcome.next (finish (supplySample v (setSupply v s))) = _
      rw [supplySample_of_rises (s := setSupply v s) samples bad ((threshold_eq (setSupply v s)).symm ▸ high)]
      rfl

end Sys2Proof.Machine
end

section
/-! PROOF of `Obligations.TriggersAndPulsesFollowTheirRules`: the standing triggers by their conditions, and what a MODE taken
event, an evaluation completion, a release event and a pulse timer's expiry give to the sanders. -/

namespace Sys2Proof.Machine

variable {s : State}

/-! ### Standing triggers (R146) -/

/-- A climb of a positive height, by the direction that goes up. -/
theorem climbing_ge_iff (m : ModeRecord) {height : Int} (up : 0 < height) :
    height ≤ m.climbing
      ↔ m.direction = .forward ∧ height ≤ m.gradient ∨ m.direction = .reverse ∧ m.gradient ≤ -height := by
  cases direction : m.direction <;> simp [ModeRecord.climbing, direction] <;> omega

/-- The POOR_RAIL condition by the direction, which fixes the leading motor bogie. -/
theorem poorRail_iff (s : State) :
    s.poorRail = true
      ↔ s.intent.accepted.rail = .poor
        ∧ (s.intent.accepted.direction = .forward ∧ 40 ≤ s.intent.accepted.gradient ∧ 600 < s.tractionShare .a
          ∨ s.intent.accepted.direction = .reverse ∧ s.intent.accepted.gradient ≤ -40
            ∧ 600 < s.tractionShare .b) := by
  have climbs := climbing_ge_iff s.intent.accepted (height := 40) (by decide)
  cases direction : s.intent.accepted.direction <;>
    simp [State.poorRail, climbs, leadingMotor, direction, and_assoc]

/-- Without held traction POOR_RAIL does not hold. -/
theorem poorRail_of_no_traction (held : ∀ m, s.intent.held.get m = 0) : s.poorRail = false := by
  have share (m : Motor) : s.tractionShare m = 0 := by simp [State.tractionShare, held]
  rw [Bool.eq_false_iff, ne_eq, poorRail_iff]
  simp [share]

theorem mem_standing_iff (k : Trigger) :
    k ∈ s.standing
      ↔ s.inForce = true
        ∧ (k = .manual ∧ s.intent.accepted.sand = true
          ∨ k = .emergency ∧ s.intent.accepted.regime = .emergency ∧ 200 ≤ s.sand.seenMagnitude
          ∨ k = .poorRail ∧ s.sand.poorSeen = true ∧ s.poorRail = true) := by
  have given (c : Prop) [Decidable c] (x : Trigger) : k ∈ (if c then [x] else []) ↔ k = x ∧ c := by
    split <;> simp [*]
  simp only [State.standing]
  split
  · rename_i force
    simp only [List.mem_append, given, Bool.and_eq_true, or_assoc, force, true_and]
  · rename_i force
    simp [force]

/-! ### An evaluation completion (R145, R147, R150, R152) -/

/-- An axle of the leading bogie at a sander's bogie end entered EXCURSION (R145). -/
def Evaluation.enteredAt (e : Evaluation) (endB : Bool) : Bool :=
  match e.direction with
  | .neutral => false
  | .forward => !endB && ((e.slips.get .a1).entered || (e.slips.get .a2).entered)
  | .reverse => endB && ((e.slips.get .b1).entered || (e.slips.get .b2).entered)

/-- The parts of the trigger that a completion gives to a sander. -/
theorem completionParts_eq (s : State) (e : Evaluation) (crossing onset : Bool) (reload : SanderId → Bool)
    (i : SanderId) :
    s.completionParts e crossing onset reload i
      = (if e.enteredAt (s.cfg.tun.sanders.get i).endB then [Trigger.excursion] else [])
        ++ (if e.becamePoor then [.repeated] else []) ++ (if onset then [.poorRail] else [])
        ++ (if (crossing && s.sanderState i == .idle) || (reload i && !(s.sanderState i == .pulsing)) then s.standing
            else []) := by
  cases direction : e.direction with
  | neutral =>
    simp [State.completionParts, Evaluation.excursionBogie, Evaluation.enteredAt, direction, leadingMotor]
  | forward =>
    cases entered : (e.slips.get .a1).entered || (e.slips.get .a2).entered <;>
      simp [State.completionParts, Evaluation.excursionBogie, Evaluation.enteredAt, direction, leadingMotor,
        Motor.bogie, Bogie.axles, entered]
  | reverse =>
    cases entered : (e.slips.get .b1).entered || (e.slips.get .b2).entered <;>
      simp [State.completionParts, Evaluation.excursionBogie, Evaluation.enteredAt, direction, leadingMotor,
        Motor.bogie, Bogie.axles, entered]

/-- A completion reloads windows; levels and pulses stand. -/
theorem sandSeen_record (e : Evaluation) (s : State) (i : SanderId) :
    ((sandSeen e s).sand.sanders.get i).full = (s.sand.sanders.get i).full
      ∧ ((sandSeen e s).sand.sanders.get i).pulse = (s.sand.sanders.get i).pulse := by
  simp only [sandSeen, PerSander.get_build]
  split <;> exact ⟨rfl, rfl⟩

/-- R143's IDLE and PULSING as tests. -/
theorem sanderState_idle_eq (s : State) (i : SanderId) :
    (s.sanderState i == .idle)
      = ((s.cfg.tun.sanders.get i).enabled && s.sand.supplyGood && (s.sand.sanders.get i).full
        && (s.sand.sanders.get i).pulse.isNone) := by
  rw [Bool.eq_iff_iff, beq_iff_eq, sanderState_idle_iff]
  simp [and_assoc]

theorem sanderState_pulsing_eq (s : State) (i : SanderId) :
    (s.sanderState i == .pulsing)
      = ((s.cfg.tun.sanders.get i).enabled && s.sand.supplyGood && (s.sand.sanders.get i).full
        && (s.sand.sanders.get i).pulse.isSome) := by
  rw [Bool.eq_iff_iff, beq_iff_eq, sanderState_pulsing_iff]
  simp [and_assoc, Option.isSome_iff_ne_none]

/-- A sander that leads is enabled, so it pulses where the rest of R143's table lets it. -/
theorem leads_and_pulsing (s : State) (i : SanderId) :
    (s.leads i && s.sanderState i == .pulsing)
      = (s.leads i && s.sand.supplyGood && (s.sand.sanders.get i).full && (s.sand.sanders.get i).pulse.isSome) := by
  cases leads : s.leads i with
  | false => rfl
  | true => simp [sanderState_pulsing_eq, enabled_of_leads leads]

/-- The trail ends at a reached mark while no leading sander pulses. -/
theorem trailTest_eq (odometer : Odo) (s : State) :
    let ends := s.sand.trailMark.any (reached odometer) && !s.leadingPulsing
    trailTest odometer s
      = { s with
          sand :=
            { s.sand with
              trail := if ends then false else s.sand.trail, trailMark := if ends then none else s.sand.trailMark } } := by
  intro ends
  have same : ((match s.sand.trailMark with | none => false | some m => reached odometer m) && !s.leadingPulsing) = ends := by
    simp only [ends]
    cases s.sand.trailMark <;> rfl
  have trail : (s.sand.trail && !ends) = if ends then false else s.sand.trail := by cases ends <;> simp
  rw [← trail, ← same]
  rfl

/-! ### The end of a pulse (R149) -/

theorem exec_pulseTimerExpiry {i : SanderId} {d : Nat} (runs : (s.sand.sanders.get i).pulse = some d) :
    exec (.pulseTimerExpiry i) s = .next (finish (pulseEnd i { s with now := max s.now d })) := by
  change Host.Outcome.next (finish (onExpiry (s.sand.sanders.get i).pulse (pulseEnd i) s)) = _
  rw [runs, onExpiry_some]

/-! ### The obligation -/

/-- Settles O50: a trigger by its verdict, the standing triggers by their conditions, and each event by the trigger it
combines for a sander. -/
theorem triggersAndPulsesFollowTheirRules : Obligations.TriggersAndPulsesFollowTheirRules := by
  refine ⟨fun i parts s _ => ?_, fun s => ?_, fun s => ?_, fun e s => ?_, fun s => ?_, fun i d s runs => ?_⟩
  · intro r withheld name
    refine ⟨fun idle => offer_of_notReached (verdict_of_no_parts_or_not_leads idle), fun leads given holds => ?_,
      fun leads given free => ?_⟩
    · rw [offer_of_withheld ((verdict_of_leads leads given).1 holds), combinedName_eq]
      rfl
    · rw [offer_of_accepted ((verdict_of_leads leads given).2 free), combinedName_eq]
      rfl
  · intro mode share
    refine ⟨poorRail_iff s, mem_standing_iff, fun held stands => ?_, fun i => SanderTuning.leads_iff ..⟩
    obtain ⟨-, (⟨name, -⟩ | ⟨name, -⟩ | ⟨-, -, poor⟩)⟩ := (mem_standing_iff _).1 stands
    · cases name
    · cases name
    · rw [poorRail_of_no_traction held] at poor
      cases poor
  · intro mode x changed manual emergency poor parts judged
    have turns : (s.intent.accepted.direction != s.sand.seenDirection) = decide changed := by
      rw [Bool.eq_iff_iff]
      simp [changed, mode, x]
    have combines :
        ((if (mode.sand && (!x.seenRequest || decide changed)) = true then [Trigger.manual] else [])
          ++ (if (mode.regime == .emergency && (x.seenRegime != .emergency || decide changed)) = true then
                [Trigger.emergency] else [])
          ++ (if (s.poorRail && (!x.poorSeen || decide changed)) = true then [Trigger.poorRail] else [])) = parts := by
      simp only [Bool.and_eq_true, Bool.or_eq_true, Bool.not_eq_true', beq_iff_eq, bne_iff_ne, decide_eq_true_eq]
      rfl
    have stops : (if decide changed = true then
          PerSander.build fun i =>
            if s.leads i = true then x.sanders.get i else { x.sanders.get i with pulse := none }
        else x.sanders) = judged.sand.sanders := by
      refine PerSander.ext_get fun i => ?_
      by_cases turned : changed <;> cases leads : s.leads i <;> simp [judged, turned, leads]
    have trail : (x.trail && !decide changed) = judged.sand.trail := by
      by_cases turned : changed <;> simp [judged, turned]
    have mark : (if decide changed = true then none else x.trailMark) = judged.sand.trailMark := by
      simp only [decide_eq_true_eq]
      rfl
    simp only [sandModeTaken, turns]
    rw [combines, stops, trail, mark]
    rfl
  · intro odo at' entered atEnd repeated onset crossing reload seen up pulsing idle parts given pulses ends
    have asks (i : SanderId) : seen.completionParts e crossing onset (s.windowEnds odo) i = parts i := by
      obtain ⟨full, pulse⟩ := sandSeen_record e s i
      change (sandSeen e s).completionParts e crossing onset (s.windowEnds odo) i = _
      rw [completionParts_eq, sanderState_idle_eq, sanderState_pulsing_eq, full, pulse]
      rfl
    have gives : sandCompletion e s = trailTest odo given := by
      change trailTest odo (offerEach (seen.completionParts e crossing onset (s.windowEnds odo)) seen) = _
      rw [funext asks]
      rfl
    have pulse : given.leadingPulsing = [SanderId.s1, .s2, .s3, .s4].any pulses := by
      simp only [State.leadingPulsing, leads_and_pulsing]
      rfl
    rw [gives, trailTest_eq, pulse]
    rfl
  · intro mode climbs
    have rises : 60 ≤ mode.climbing ↔ climbs := climbing_ge_iff mode (by decide)
    refine ⟨fun up wet => ?_, fun level => ?_⟩
    · have qualifies : (decide (60 ≤ mode.climbing) && mode.rail != .dry) = true := by simp [rises, up, wet]
      simp only [sandRelease, mode] at qualifies ⊢
      rw [if_pos qualifies]
      rfl
    · have fails : (decide (60 ≤ mode.climbing) && mode.rail != .dry) = false := by
        simpa [rises, Classical.or_iff_not_imp_left] using level
      simp only [sandRelease, mode] at fails ⊢
      simp only [fails, Bool.false_eq_true, if_false, offerEach_nil]
  · intro idle t
    refine ⟨?_, fun nothing => ?_, fun j other => ?_, rfl⟩
    · rw [exec_pulseTimerExpiry runs]
      simp only [pulseEnd, Bool.and_eq_true, Option.isNone_iff_eq_none, Bool.not_eq_true', and_assoc]
      rfl
    · simp only [t, nothing, offer_nil]
    · exact (offer_other other ..).trans (PerSander.get_set_ne _ _ other)

end Sys2Proof.Machine
end

section
/-! PROOF of `Obligations.ChainReceiverJudgesFrames`: how a frame ends without being taken, what a good frame does to
the buffer, the link and the control period, what becomes of a byte, and the idle limit. -/

namespace Sys2Proof.Machine

variable {s : State}

theorem lead_iff (s : State) : s.lead = true ↔ s.cfg.str.position = 0 := by
  simp only [State.lead, decide_eq_true_eq]

theorem follower_iff (s : State) : s.follower = true ↔ 1 ≤ s.cfg.str.position ∧ s.cfg.str.position ≤ 3 := by
  rw [follower_eq, decide_eq_true_eq]

theorem position_ne_zero_of_follower (follower : s.follower = true) : s.cfg.str.position ≠ 0 :=
  Nat.one_le_iff_ne_zero.1 ((follower_iff s).1 follower).1

/-! ### A frame that ends without being taken (R161, R163) -/

/-- A discarded frame raises CHAIN_FAULT and is counted once, at the LEAD as unexpected. -/
theorem endFrame_eq (c : Counter) (s : State) :
    endFrame c s
      = { s with
          chain := { s.chain with receiving := none }
          rep := (s.rep.raise .chainFault).bump
            (if s.cfg.str.position = 0 then Counter.chainUnexpected else c).number } := by
  simp only [endFrame, lead_iff]
  rfl

/-! ### What a good frame does at a follower (R162, R164, R165) -/

/-- An empty buffer takes the frame. -/
theorem bufferFrame_of_empty (f : Frame) (empty : s.chain.buffer = none) :
    bufferFrame f s
      = { s with
          chain := { s.chain with buffer := some f }, rep := s.rep.bump Counter.chainFrameGood.number } := by
  simp only [bufferFrame, empty]
  rfl

/-- A full buffer loses the frame as an overrun. -/
theorem bufferFrame_of_full (f : Frame) {g : Frame} (full : s.chain.buffer = some g) :
    bufferFrame f s
      = { s with
          rep := ((s.rep.bump Counter.chainFrameGood.number).raise .chainFault).bump Counter.chainOverrun.number } := by
  simp only [bufferFrame, full]
  rfl

/-- Offering a frame to the buffer moves no other field of the link. -/
theorem bufferFrame_chain (f : Frame) (s : State) :
    (bufferFrame f s).chain = { s.chain with buffer := (bufferFrame f s).chain.buffer } := by
  cases buffer : s.chain.buffer with
  | none => rw [bufferFrame_of_empty f buffer]
  | some g => rw [bufferFrame_of_full f buffer]

/-- In ACTIVE and FALLBACK a follower's link is LINKED and its silence timer starts again. -/
theorem linkUp_of_inForce (follower : s.follower = true) (force : s.inForce = true) :
    linkUp s = { s with chain := { s.chain with link := .linked, silence := s.timer s.silenceLength } } := by
  simp only [linkUp, follower, force, Bool.and_self, if_true]

/-- In SETUP a good frame leaves the link state alone. -/
theorem linkUp_of_not_inForce (force : s.inForce = false) : linkUp s = s := by
  simp only [linkUp, force, Bool.false_and, Bool.false_eq_true, if_false]

/-- With alignment off, or outside ACTIVE and FALLBACK, the control period runs on. -/
theorem alignPeriod_of_off (off : s.cfg.tun.link.alignment = false ∨ s.inForce = false) : alignPeriod s = s := by
  obtain off | off := off <;>
    simp only [alignPeriod, off, Bool.false_and, Bool.and_false, Bool.false_eq_true, if_false]

/-- Where alignment applies, the control period starts again exactly in the first half of the running one (log 12). -/
theorem alignPeriod_ev_of_on {d : Nat} (on : s.cfg.tun.link.alignment = true) (follower : s.follower = true)
    (force : s.inForce = true) (running : s.ev.period = some d) :
    (alignPeriod s).ev
      = if 2 * (s.now + s.ev.length - d) < s.ev.length then
          { s.ev with period := s.timer s.controlPeriod, length := s.controlPeriod }
        else s.ev := by
  have early : s.earlyInPeriod = decide (2 * (s.now + s.ev.length - d) < s.ev.length) := by
    simp only [State.earlyInPeriod, running]
  simp only [alignPeriod, on, follower, force, early, Bool.true_and, decide_eq_true_eq]
  split <;> rfl

/-- The state after a good frame at a follower. -/
def takeGoodFrame (f : Frame) (s : State) : State := alignPeriod (linkUp (bufferFrame f (hunt s)))

section Taken

variable (f : Frame)

/-! Offering the frame to the buffer moves nothing that the link and the period are judged by. -/

theorem offered_follower (s : State) : (bufferFrame f (hunt s)).follower = s.follower := by
  simp [State.follower]

theorem offered_inForce (s : State) : (bufferFrame f (hunt s)).inForce = s.inForce := by
  simp [State.inForce]

theorem offered_ev (s : State) : (linkUp (bufferFrame f (hunt s))).ev = s.ev := by simp

/-- A good frame moves the chain link, the report and the evaluator alone. -/
theorem takeGoodFrame_frame (s : State) :
    takeGoodFrame f s
      = { s with
          chain := (takeGoodFrame f s).chain, rep := (takeGoodFrame f s).rep, ev := (takeGoodFrame f s).ev } := by
  simp [State.ext_iff, takeGoodFrame]

/-- Of the evaluator a good frame moves the control-period timer alone. -/
theorem takeGoodFrame_ev (s : State) :
    (takeGoodFrame f s).ev
      = { s.ev with period := (takeGoodFrame f s).ev.period, length := (takeGoodFrame f s).ev.length } := by
  rw [← offered_ev f s]
  rfl

theorem takeGoodFrame_receiving (s : State) : (takeGoodFrame f s).chain.receiving = none := by
  change (bufferFrame f (hunt s)).chain.receiving = none
  rw [bufferFrame_chain]
  rfl

theorem takeGoodFrame_of_empty (empty : s.chain.buffer = none) :
    (takeGoodFrame f s).chain.buffer = some f
      ∧ (takeGoodFrame f s).rep = s.rep.bump Counter.chainFrameGood.number := by
  rw [takeGoodFrame, bufferFrame_of_empty f (s := hunt s) empty]
  exact ⟨rfl, rfl⟩

theorem takeGoodFrame_of_full {g : Frame} (full : s.chain.buffer = some g) :
    (takeGoodFrame f s).chain.buffer = some g
      ∧ (takeGoodFrame f s).rep
        = ((s.rep.bump Counter.chainFrameGood.number).raise .chainFault).bump Counter.chainOverrun.number := by
  rw [takeGoodFrame, bufferFrame_of_full f (s := hunt s) full]
  exact ⟨full, rfl⟩

theorem takeGoodFrame_of_inForce (follower : s.follower = true) (force : s.inForce = true) :
    (takeGoodFrame f s).chain.link = .linked
      ∧ (takeGoodFrame f s).chain.silence = s.timer s.silenceLength := by
  rw [takeGoodFrame, alignPeriod_chain,
    linkUp_of_inForce ((offered_follower f s).trans follower) ((offered_inForce f s).trans force)]
  simp [State.timer, State.silenceLength, State.controlPeriod]

theorem takeGoodFrame_of_not_inForce (idle : s.inForce = false) :
    (takeGoodFrame f s).chain.link = s.chain.link ∧ (takeGoodFrame f s).chain.silence = s.chain.silence
      ∧ (takeGoodFrame f s).ev = s.ev := by
  have offered := (offered_inForce f s).trans idle
  rw [takeGoodFrame, alignPeriod_of_off (s := linkUp _) (.inr offered), linkUp_of_not_inForce offered,
    bufferFrame_chain]
  exact ⟨rfl, rfl, bufferFrame_ev f (hunt s)⟩

theorem takeGoodFrame_ev_of_unaligned (off : s.cfg.tun.link.alignment = false) : (takeGoodFrame f s).ev = s.ev := by
  rw [takeGoodFrame, alignPeriod_of_off (.inl (by simpa using off)), offered_ev]

theorem takeGoodFrame_ev_of_aligned {d : Nat} (on : s.cfg.tun.link.alignment = true) (follower : s.follower = true)
    (force : s.inForce = true) (running : s.ev.period = some d) :
    (takeGoodFrame f s).ev
      = if 2 * (s.now + s.ev.length - d) < s.ev.length then
          { s.ev with period := s.timer s.controlPeriod, length := s.controlPeriod }
        else s.ev := by
  rw [takeGoodFrame, alignPeriod_ev_of_on (s := linkUp _) (by simpa using on) ((offered_follower f s).trans follower)
    ((offered_inForce f s).trans force) (by rwa [offered_ev])]
  simp [State.timer, State.controlPeriod]

end Taken

/-! ### Bytes and the ends of frames (R161, R163) -/

section Bytes

variable {b : FrameByte} {l : List FrameByte} (receives : s.receives = true)
include receives

/-- While hunting 0xA5 begins a frame. -/
theorem receiveByte_mark (hunting : s.chain.receiving = none) :
    receiveByte 0xA5 s = { s with chain := { s.chain with receiving := some [0xA5], lastEnd := s.now } } := by
  simp only [receiveByte, receives, hunting, if_true]

/-- While hunting any other byte is discarded. -/
theorem receiveByte_discarded (hunting : s.chain.receiving = none) (other : b ≠ 0xA5) : receiveByte b s = s := by
  simp only [receiveByte, receives, hunting, if_true, if_neg other]

theorem receiveByte_stored (within : s.chain.receiving = some l) (short : l.length < 7) :
    receiveByte b s = { s with chain := { s.chain with receiving := some (l ++ [b]), lastEnd := s.now } } := by
  simp only [receiveByte, receives, within, if_true, if_pos short]

theorem receiveByte_eighth (within : s.chain.receiving = some l) (seven : l.length = 7) :
    receiveByte b s = completeFrame (l ++ [b]) s := by
  simp only [receiveByte, receives, within, if_true, seven, lt_irrefl, if_false]

theorem framingError_of_receiving (within : s.chain.receiving = some l) : framingError s = endFrame .chainCheck s := by
  simp only [framingError, receives, within, Option.isSome_some, Bool.and_self, if_true]

/-- Between characters the idle limit stands 80 µs after the last one, and discards the frame there. -/
theorem idleLimit_of_receiving (within : s.chain.receiving = some l) (between : s.chain.bits.char = none) :
    idleLimit s = endFrame .chainIncomplete { s with now := max s.now (s.chain.lastEnd + 80) } := by
  have due : s.idleDue = some (s.chain.lastEnd + 80) := by
    simp only [State.idleDue, receives, within, between, Option.isSome_some, Option.isNone_none, Bool.and_self, if_true]
    rfl
  rw [idleLimit, due, onExpiry_some, frameIncomplete, if_pos]
  simp only [within, Option.isSome_some, Bool.and_true]
  exact receives

end Bytes

/-- While a character is being received the idle limit cannot be reached (log 47). -/
theorem idleLimit_of_character (character : s.chain.bits.char ≠ none) : idleLimit s = s := by
  have due : s.idleDue = none := by simp [State.idleDue, character]
  rw [idleLimit, due, onExpiry_none]

theorem completeFrame_of_lead (lead : s.cfg.str.position = 0) (bytes : List FrameByte) :
    completeFrame bytes s = endFrame .chainUnexpected s := if_pos ((lead_iff s).2 lead)

/-- The counter of a frame's fault (R161). -/
def FrameFault.counter : FrameFault → Counter
  | .check => .chainCheck
  | .position => .chainPosition

/-- A follower discards a frame that fails, and counts it by its fault. -/
theorem completeFrame_of_error {bytes : List FrameByte} {e : FrameFault} (follower : s.follower = true)
    (judged : judgeFrame s.cfg.str.position bytes = .error e) :
    completeFrame bytes s
      = { s with
          chain := { s.chain with receiving := none }
          rep := (s.rep.raise .chainFault).bump e.counter.number } := by
  have placed := position_ne_zero_of_follower follower
  rw [completeFrame, if_neg (mt (lead_iff s).1 placed), judged]
  cases e <;> simp only [endFrame_eq, if_neg placed, FrameFault.counter]

theorem completeFrame_of_good {bytes : List FrameByte} {f : Frame} (follower : s.follower = true)
    (judged : judgeFrame s.cfg.str.position bytes = .ok f) : completeFrame bytes s = takeGoodFrame f s := by
  rw [completeFrame, if_neg (mt (lead_iff s).1 (position_ne_zero_of_follower follower)), judged]
  rfl

/-! ### The obligation -/

/-- An expiry of the silence timer that runs makes the link LOST (R164; log 4). -/
theorem exec_silenceTimerExpiry {d : Nat} (running : s.chain.silence = some d) :
    exec .silenceTimerExpiry s = .next (finish (silenceEnd { s with now := max s.now d })) := by
  change Host.Outcome.next (finish (onExpiry s.chain.silence silenceEnd s)) = _
  rw [running, onExpiry_some]

/-- The eighth byte of a frame has the frame judged (R161). -/
theorem exec_chainFrameComplete {b : FrameByte} {l : List FrameByte} (receives : s.receives = true)
    (within : s.chain.receiving = some l) (seven : l.length = 7) :
    exec (.chainFrameComplete b) s = .next (finish (completeFrame (l ++ [b]) s)) := by
  rw [← receiveByte_eighth receives within seven]
  rfl

/-- Settles O52: the bytes of a frame, the eighth of them at a follower, the alignment of the control period, the frames
that end otherwise, and the end of the silence timer. -/
theorem chainReceiverJudgesFrames : Obligations.ChainReceiverJudgesFrames := by
  refine ⟨fun b s receiver => ?_, fun b l s receiver low high within seven => ?_,
    fun b l f d s force low high within seven judged on running => ?_, fun b l s receiver within => ?_,
    fun d s running => ?_⟩
  · have receives := (receives_iff s).2 receiver
    have byte : exec (.receivedByte b) s = .next (finish (receiveByte b s)) := rfl
    refine ⟨fun hunting mark => ?_, fun hunting other => ?_, fun l within short => ?_⟩
    · rw [byte, mark, receiveByte_mark receives hunting]
    · rw [byte, receiveByte_discarded receives hunting other]
    · rw [byte, receiveByte_stored receives within short]
  · have follower := (follower_iff s).2 ⟨low, high⟩
    refine ⟨_, exec_chainFrameComplete ((receives_iff s).2 receiver) within seven, ?_⟩
    cases judged : judgeFrame s.cfg.str.position (l ++ [b]) with
    | error e =>
      rw [completeFrame_of_error follower judged]
      refine ⟨rfl, fun check => ?_, fun position => ?_, nofun, rfl, rfl⟩
      · obtain rfl := Except.error.inj check
        exact ⟨rfl, rfl, rfl⟩
      · obtain rfl := Except.error.inj position
        exact ⟨rfl, rfl, rfl⟩
    | ok f =>
      rw [completeFrame_of_good follower judged]
      refine ⟨takeGoodFrame_receiving f s, nofun, nofun, fun g same => ?_, takeGoodFrame_ev f s,
        takeGoodFrame_frame f s⟩
      obtain rfl := Except.ok.inj same
      exact ⟨takeGoodFrame_of_empty f, fun g => takeGoodFrame_of_full f, takeGoodFrame_of_inForce f follower,
        takeGoodFrame_of_not_inForce f, takeGoodFrame_ev_of_unaligned f⟩
  · have follower := (follower_iff s).2 ⟨low, high⟩
    refine ⟨_, exec_chainFrameComplete ((receives_iff s).2 (.inr force)) within seven, ?_⟩
    rw [completeFrame_of_good follower judged]
    exact ⟨takeGoodFrame_ev_of_aligned f on follower force running, takeGoodFrame_frame f s⟩
  · have receives := (receives_iff s).2 receiver
    intro ended at'
    have discarded (c : Counter) : endFrame c s = ended (if s.cfg.str.position = 0 then .chainUnexpected else c) :=
      endFrame_eq c s
    have framing : exec .chainFramingError s = .next (finish (framingError s)) := rfl
    have idle : exec .chainIncomplete s = .next (finish (idleLimit s)) := rfl
    refine ⟨fun lead seven => ?_, ?_, fun between => ?_, fun character => ?_⟩
    · rw [exec_chainFrameComplete receives within seven, completeFrame_of_lead lead, discarded, if_pos lead]
    · rw [framing, framingError_of_receiving receives within, discarded]
    · rw [idle, idleLimit_of_receiving receives within between, endFrame_eq]
    · rw [idle, idleLimit_of_character character]
  · rw [exec_silenceTimerExpiry running]
    rfl

end Sys2Proof.Machine
end

section
/-! PROOF of `Obligations.ResetReleaseStartsPublish`: what the end of reset latches, and the first word of the default image
on the port. -/

namespace Sys2Proof.Machine

variable {s : State}

/-! ### The end of reset (R171) -/

theorem pageBaseOf_eq (straps : BitVec 2) :
    pageBaseOf straps
      = if straps = 0 then 0x3FF00 else if straps = 1 then 0x1FF00 else if straps = 2 then 0x0FF00 else 0 := by
  revert straps
  decide

theorem startUp_of_reset (part : s.ctl.part = .reset) (straps : BitVec 2) :
    startUp straps s
      = { s with
          pins := { s.pins with straps := straps, resetLine := false }
          ctl :=
            { s.ctl with
              part := .publish, pageBase := pageBaseOf straps, restartCause := s.ctl.resetBy, publishOffset := 0
              publishAttempts := 0 }
          cfg := { str := StructureConfig.default, tun := TuningConfig.default } } :=
  if_pos part

theorem startUp_of_other (part : s.ctl.part ≠ .reset) (straps : BitVec 2) : startUp straps s = s := if_neg part

/-! ### The first write of the default image (R172) -/

theorem defaultWord_zero : defaultWord 0 = 0x00040000 := rfl

/-- In PUBLISH a free port goes to the image's word at the offset that is due; apart from the interposer and the lines,
nothing changes with what follows a command. -/
theorem finish_of_publish (part : s.ctl.part = .publish) (free : s.ip.port = none) :
    (finish s).ip.port
        = some
            (s.portTxn .publish (s.ctl.pageBase + s.ctl.publishOffset.setWidth 18) true fullLanes
              (defaultWord s.ctl.publishOffset.toNat))
      ∧ finish s = { s with ip := (finish s).ip, lines := (finish s).lines } := by
  have granted : arbitrate (releaseHolds s) = grantPublish (releaseHolds s) := arbitrate_of_publish part free
  have eq : finish s = { grantPublish (releaseHolds s) with lines := (finish s).lines } := by
    rw [← granted]
    rfl
  rw [eq]
  exact ⟨rfl, rfl⟩

/-! ### The obligation -/

/-- Settles O7: the end of reset leaves the part in PUBLISH at offset 0 with the port still free, so that the grant that
follows the command is the publish writer's; outside RESET nothing is left of the command but what follows it. -/
theorem resetReleaseStartsPublish : Obligations.ResetReleaseStartsPublish := by
  intro straps s
  have released : exec (.resetReleased straps) s = .next (finish (startUp straps s)) := rfl
  refine ⟨fun part free => ⟨_, released, ?_⟩, fun part => by rw [released, startUp_of_other part]⟩
  have started := startUp_of_reset part straps
  obtain ⟨port, frame⟩ :=
    finish_of_publish (s := startUp straps s) (by rw [started]) (by rw [started]; exact free)
  have offset : (startUp straps s).ctl.publishOffset = 0 := by rw [started]
  rw [offset] at port
  refine ⟨?_, ?_, ?_, ?_, ⟨_, port, rfl, ?_, defaultWord_zero⟩, ?_⟩
  · rw [finish_ctl, started, pageBaseOf_eq]
  · rw [finish_cfg, started]
  · rw [finish_pins, started]
  · rw [finish_pins, started]
  · rw [finish_ctl]
    exact BitVec.add_zero _
  · rw [frame, started]

end Sys2Proof.Machine
end

section
/-! PROOF support for `Obligations.EveryStepKeepsCountersBounded`: the bound of the reporter's counters, and the operations
of the blocks, which move the counters by raising causes and counting events alone. -/

namespace Sys2Proof.Machine

/-! ### Raising, counting and clearing (R185, R186, R188) -/

/-- Every counter lies within 0..65,535 (R188). -/
structure Reporter.Bounded (r : Reporter) : Prop where
  le : ∀ i, r.counter i ≤ 65535

theorem countersBounded_iff (s : State) : s.countersBounded ↔ s.rep.Bounded := ⟨.mk, Reporter.Bounded.le⟩

theorem Reporter.Bounded.raise {r : Reporter} (h : r.Bounded) (c : Cause) : (r.raise c).Bounded :=
  ⟨Reporter.raise_bounded h.le c⟩

theorem Reporter.Bounded.bump {r : Reporter} (h : r.Bounded) (i : Fin 40) : (r.bump i).Bounded :=
  ⟨Reporter.bump_bounded h.le i⟩

theorem Reporter.Bounded.bumpBy {r : Reporter} (h : r.Bounded) (i : Fin 40) (n : Nat) : (r.bumpBy i n).Bounded := by
  induction n generalizing r with
  | zero => exact h
  | succ n ih => exact ih (h.bump i)

theorem Reporter.Bounded.sensorFault {r : Reporter} (h : r.Bounded) (entered : Bool) : (r.sensorFault entered).Bounded := by
  simp only [Reporter.sensorFault]
  split
  · exact (h.raise _).bump _
  · exact h

theorem reset_counter (i : Fin 40) : Reporter.reset.counter i = 0 := by
  revert i
  decide

theorem Reporter.reset_bounded : Reporter.reset.Bounded :=
  ⟨fun i => by rw [reset_counter]; exact Nat.zero_le _⟩

/-- Bit 31 of a cause-clear word sets every counter to 0, and without it the counters stand (R186). -/
theorem Reporter.clear_counter (r : Reporter) (w : Word) (i : Fin 40) :
    (r.clear w).counter i = if w.getLsbD 31 then 0 else r.counter i := by
  simp only [Reporter.counter, Reporter.clear]
  split <;> simp

theorem Reporter.Bounded.clear {r : Reporter} (h : r.Bounded) (w : Word) : (r.clear w).Bounded where
  le i := by
    rw [Reporter.clear_counter]
    split
    · exact Nat.zero_le _
    · exact h.le i

theorem kept_bounded : Reporter.Kept Reporter.Bounded := ⟨fun _ c h => h.raise c, fun _ h => h.bump _⟩

variable {s : State}

theorem raise_bounded (h : s.rep.Bounded) (c : Cause) : (raise c s).rep.Bounded := Reporter.Bounded.raise h c

theorem count_bounded (h : s.rep.Bounded) (c : Counter) : (count c s).rep.Bounded := Reporter.Bounded.bump h _

theorem raiseIf_bounded (h : s.rep.Bounded) (b : Bool) (c : Cause) : (raiseIf b c s).rep.Bounded :=
  raiseIf_rep_keeps kept_bounded b c h

theorem countIf_bounded (h : s.rep.Bounded) (b : Bool) (c : Counter) : (countIf b c s).rep.Bounded := by
  simp only [countIf]
  split
  · exact Reporter.Bounded.bump h _
  · exact h

/-! ### Sanding (R144, R147, R149, R151, R153) -/

theorem offerEach_bounded (h : s.rep.Bounded) (parts : SanderId → List Trigger) : (offerEach parts s).rep.Bounded :=
  offer_rep_keeps kept_bounded _ _ (offer_rep_keeps kept_bounded _ _ (offer_rep_keeps kept_bounded _ _
    (offer_rep_keeps kept_bounded _ _ h)))

theorem sandModeTaken_bounded (h : s.rep.Bounded) : (sandModeTaken s).rep.Bounded := by
  simp only [sandModeTaken]
  refine offerEach_bounded ?_ _
  exact h

theorem sandCompletion_bounded (h : s.rep.Bounded) (e : Evaluation) : (sandCompletion e s).rep.Bounded := by
  simp only [sandCompletion, trailTest_rep]
  refine offerEach_bounded ?_ _
  exact h

theorem pulseEnd_bounded (h : s.rep.Bounded) (i : SanderId) : (pulseEnd i s).rep.Bounded := by
  refine offer_rep_keeps kept_bounded _ _ ?_
  exact h

theorem levelFull_bounded (h : s.rep.Bounded) (i : SanderId) : (levelFull i s).rep.Bounded := by
  refine offer_rep_keeps kept_bounded _ _ ?_
  exact h

theorem levelLow_bounded (h : s.rep.Bounded) (i : SanderId) : (levelLow i s).rep.Bounded := by
  refine raiseIf_bounded ?_ _ _
  exact h

theorem levelHigh_bounded (h : s.rep.Bounded) (i : SanderId) : (levelHigh i s).rep.Bounded := by
  simp only [levelHigh]
  (repeat' split)
  case isTrue.isFalse.isTrue => exact levelFull_bounded h i
  all_goals exact h

theorem supplySample_bounded (h : s.rep.Bounded) (v : Nat) : (supplySample v s).rep.Bounded := by
  simp only [supplySample]
  refine offerEach_bounded (raiseIf_bounded ?_ _ _) _
  exact h

/-! ### Evaluations (R57, R66, R80, R82, R90, R92, R94) -/

theorem latchAxles_bounded (h : s.rep.Bounded) : (latchAxles s).rep.Bounded :=
  (((((h.sensorFault _).sensorFault _).sensorFault _).sensorFault _).sensorFault _).sensorFault _

theorem referenceStage_bounded (h : s.rep.Bounded) (samples : PerAxle Sample) (frame : Option Frame) :
    (referenceStage samples frame s).rep.Bounded := by
  refine countIf_bounded ?_ _ _
  exact h

theorem adhesionStages_bounded (h : s.rep.Bounded) (samples : PerAxle Sample) (frame : Option Frame) :
    (adhesionStages samples frame s).rep.Bounded := by
  have counted := h.bumpBy Counter.excursionEntry.number (entries (s.classified s.ref.results samples))
  simp only [adhesionStages]
  split
  · exact counted.raise _
  · exact counted

theorem evaluate_bounded (h : s.rep.Bounded) : (evaluate s).rep.Bounded := by
  refine adhesionStages_bounded ?_ _ _
  rw [takeFrame_rep]
  refine referenceStage_bounded ?_ _ _
  rw [recordEfforts_rep]
  exact latchAxles_bounded h

theorem periodEnd_bounded (h : s.rep.Bounded) : (periodEnd s).rep.Bounded := by
  simp only [periodEnd, restartPeriod_rep]
  split
  · exact h
  · exact evaluate_bounded h

theorem abandon_bounded (h : s.rep.Bounded) : (abandon s).rep.Bounded := by
  refine countIf_bounded ?_ _ _
  exact h

theorem excursionEnd_bounded (h : s.rep.Bounded) (i : Axle) : (excursionEnd i s).rep.Bounded := by
  refine raise_bounded ?_ _
  exact h

theorem slipRestart_bounded (h : s.rep.Bounded) : (slipRestart s).rep.Bounded := by
  rw [slipRestart, restartPeriod_rep]
  refine abandon_bounded ?_
  exact h

/-! ### The pass (R105, R111, R113, R114) -/

theorem Pass.place_bounded {p : Pass} (h : p.rep.Bounded) (d : Nat) (o : Odo) (n : Notice) : (p.place d o n).rep.Bounded := by
  simp only [Pass.place]
  split
  · exact h.bump _
  · exact h
  · exact h.raise _

theorem Pass.chainNotice_bounded {p : Pass} (h : p.rep.Bounded) (t : CeilingTuning) (o : Odo) (n : Notice) :
    (p.chainNotice t o n).rep.Bounded := by
  simp only [Pass.chainNotice]
  split
  · exact h.bump _
  · exact Pass.place_bounded h ..

theorem step4_bounded {p : Pass} (h : p.rep.Bounded) (e : Evaluation) (k : PerBogie CeilingRecord) :
    (s.step4 e k p).rep.Bounded := by
  cases leads : leadingMotor s.intent.accepted.direction with
  | none => simpa only [State.step4, leads] using h
  | some m =>
    cases onset : (e.bogies.get m.bogie).onset with
    | none => rwa [step4_of_quiet leads onset]
    | some kind =>
      rw [step4_of_onset leads onset]
      exact List.foldlRecOn (motive := fun p : Pass => p.rep.Bounded) _ _ h fun p hp _ _ => Pass.place_bounded hp ..

theorem step5_bounded {p : Pass} (h : p.rep.Bounded) (e : Evaluation) : (s.step5 e p).rep.Bounded := by
  simp only [State.step5]
  (repeat' split)
  · exact h
  · exact h.bump _
  · exact List.foldlRecOn (motive := fun p : Pass => p.rep.Bounded) _ _ h fun p hp _ _ => Pass.chainNotice_bounded hp ..
  · exact h.bump _

theorem Pass.offerOutgoing_rep (p : Pass) (m : Motor) (onset : Option Kind) : (p.offerOutgoing m onset).rep = p.rep := by
  rw [Pass.offerOutgoing_eq]

theorem passResult_bounded (h : s.rep.Bounded) (e : Evaluation) : (s.passResult e).rep.Bounded := by
  simp only [State.passResult, Pass.offerOutgoing_rep]
  refine step5_bounded (step4_bounded ?_ ..) ..
  exact h.bumpBy _ _

theorem ceilingPass_bounded (h : s.rep.Bounded) (e : Evaluation) : (ceilingPass e s).rep.Bounded := by
  simp only [ceilingPass]
  (repeat' split) <;> simpa using passResult_bounded h e

/-! ### The chain link (R161 to R164, R167) -/

theorem endFrame_bounded (h : s.rep.Bounded) (c : Counter) : (endFrame c s).rep.Bounded := by
  refine count_bounded (raise_bounded ?_ _) _
  exact h

theorem bufferFrame_bounded (h : s.rep.Bounded) (f : Frame) : (bufferFrame f s).rep.Bounded := by
  have good := count_bounded h .chainFrameGood
  simp only [bufferFrame]
  split
  · exact good
  · exact count_bounded (raise_bounded good _) _

theorem completeFrame_bounded (h : s.rep.Bounded) (bytes : List FrameByte) : (completeFrame bytes s).rep.Bounded := by
  simp only [completeFrame]
  (repeat' split)
  · exact endFrame_bounded h _
  · exact endFrame_bounded h _
  · exact endFrame_bounded h _
  · rw [alignPeriod_rep, linkUp_rep]
    exact bufferFrame_bounded (s := hunt s) h _

theorem receiveByte_bounded (h : s.rep.Bounded) (b : FrameByte) : (receiveByte b s).rep.Bounded := by
  simp only [receiveByte]
  (repeat' split)
  case h_2.isFalse => exact completeFrame_bounded h _
  all_goals exact h

theorem framingError_bounded (h : s.rep.Bounded) : (framingError s).rep.Bounded := by
  simp only [framingError]
  split
  · exact endFrame_bounded h _
  · exact h

theorem frameIncomplete_bounded (h : s.rep.Bounded) : (frameIncomplete s).rep.Bounded := by
  simp only [frameIncomplete]
  split
  · exact endFrame_bounded h _
  · exact h

theorem silenceEnd_bounded (h : s.rep.Bounded) : (silenceEnd s).rep.Bounded := by
  refine count_bounded (raise_bounded ?_ _) _
  exact h

theorem transmit_bounded (h : s.rep.Bounded) : (transmit s).rep.Bounded := by
  refine count_bounded ?_ _
  exact h

end Sys2Proof.Machine
end

section
/-! PROOF of `Obligations.EveryStepKeepsCountersBounded`: what a command, a transaction or an expiry does across the blocks,
every move of a step, and what follows it. -/

namespace Sys2Proof.Machine

variable {s : State}

/-! ### Runs and fallback (R121, R177) -/

theorem run_bounded (h : s.rep.Bounded) (evaluation returning : Bool) : (run evaluation returning s).rep.Bounded :=
  run_rep_keeps kept_bounded _ _ h

theorem runServing_bounded (h : s.rep.Bounded) : (runServing s).rep.Bounded := by
  simp only [runServing]
  split
  · exact run_bounded h ..
  · exact h

theorem rewords_bounded (h : s.rep.Bounded) (returning : Bool) : (rewords returning s).rep.Bounded :=
  rewords_rep_keeps kept_bounded _ h

theorem deliverCause_bounded (h : s.rep.Bounded) (x : FallbackCause) : (deliverCause x s).rep.Bounded :=
  deliverCause_rep_keeps kept_bounded x h

/-! ### Commands (R174 to R182) -/

theorem decline_bounded (h : s.rep.Bounded) (value : BitVec 8) (x : CommandOutcome) : (decline value x s).rep.Bounded :=
  raise_bounded (by simpa using h) _

theorem enterActive_bounded (h : s.rep.Bounded) : (enterActive s).rep.Bounded := by
  have swept : (activeSwept s).rep.Bounded := by simpa [activeSwept, activeEntered, activePrepared] using h
  have ran := run_bounded swept false false
  simp only [enterActive_eq, reportLost]
  split
  · exact deliverCause_bounded (raise_bounded ran _) _
  · exact ran

theorem takeGoActive_bounded (h : s.rep.Bounded) : (takeGoActive s).rep.Bounded := by
  simp only [takeGoActive, goActiveSetup, goActiveFallback]
  (repeat' split)
  · exact decline_bounded h ..
  · refine decline_bounded ?_ ..
    exact h
  · exact enterActive_bounded (by simpa using h)
  · exact rewords_bounded (by simpa using h) true
  · exact decline_bounded h ..
  · exact decline_bounded h ..

theorem takeGoSetup_bounded (h : s.rep.Bounded) : (takeGoSetup s).rep.Bounded := by
  simp only [takeGoSetup]
  (repeat' split)
  case isTrue.isTrue =>
    simp only [enterSetupByCommand, chainGoSetup_rep, sandGoSetup_rep, allocatorStop_rep, emptyNotices_rep, slipGoSetup]
    refine abandon_bounded ?_
    simpa using h
  all_goals exact decline_bounded h ..

theorem takeRestart_bounded (h : s.rep.Bounded) : (takeRestart s).rep.Bounded := by
  simp only [takeRestart, reportRestart_rep, chainRestart_rep, sandRestart_rep, allocatorRestart_rep, ceilingRestart_rep]
  exact slipRestart_bounded (by simpa using h)

theorem takeStandby_bounded (h : s.rep.Bounded) : (takeStandby s).rep.Bounded := by
  have entered (previous : Previous) : (enterStandby previous (result 4 .accepted s)).rep.Bounded := by
    simp only [enterStandby, reportStandby_rep, chainStandby_rep, sandStandby_rep, allocatorStop_rep, slipStandby]
    refine abandon_bounded ?_
    simpa using h
  simp only [takeStandby]
  (repeat' split)
  case h_1.isTrue | h_2.isTrue => exact entered _
  all_goals exact decline_bounded h ..

theorem takeCommand_bounded (h : s.rep.Bounded) (w : Word) : (takeCommand w s).rep.Bounded := by
  simp only [takeCommand]
  split
  · exact takeGoActive_bounded h
  · exact takeGoSetup_bounded h
  · exact takeRestart_bounded h
  · exact takeStandby_bounded h
  · exact decline_bounded h ..

/-! ### Page writes taken (R9, R186) -/

theorem takeStructure_bounded (h : s.rep.Bounded) (off : Nat) (w : Word) : (takeStructure off w s).rep.Bounded := by
  simp only [takeStructure]
  split <;> simpa using h

theorem limitsChanged_bounded (h : s.rep.Bounded) (r : EffortRole) : (limitsChanged r s).rep.Bounded := by
  have clipped : (clipStored r s).rep.Bounded := countIf_bounded h ..
  cases r with
  | tractionA | tractionB => simpa [limitsChanged] using clipped
  | brake =>
    simp only [limitsChanged]
    split
    · exact clipped
    · exact runServing_bounded clipped

theorem tuningActs_bounded (h : s.rep.Bounded) (off : Nat) (old : TuningConfig) : (tuningActs off old s).rep.Bounded := by
  simp only [tuningActs]
  (repeat' split)
  case h_1.isTrue => exact limitsChanged_bounded h _
  all_goals simpa using h

theorem takePage_bounded (h : s.rep.Bounded) (off : BitVec 8) (w : Word) : (takePage off w s).rep.Bounded := by
  simp only [takePage]
  (repeat' split)
  · exact takeCommand_bounded h w
  · exact h.clear w
  · exact ⟨h.le⟩
  · exact takeStructure_bounded h ..
  · refine tuningActs_bounded ?_ ..
    exact h

/-! ### The processor port (R4, R5, R24 to R29) -/

theorem refuse_bounded (h : s.rep.Bounded) (c : Cause) : (refuse c s).rep.Bounded := raise_bounded h c

theorem effortWrite_bounded (h : s.rep.Bounded) (r : EffortRole) (w : Word) : (effortWrite r w s).rep.Bounded := by
  have taken : (takeEffort r w s).rep.Bounded := countIf_bounded h ..
  cases r with
  | tractionA | tractionB => simpa [effortWrite] using taken
  | brake => exact runServing_bounded taken

theorem modeTaken_bounded (h : s.rep.Bounded) (order : Fin 120) (before : Direction) :
    (modeTaken order before s).rep.Bounded := by
  refine deliver_induct (fun x => x.rep.Bounded) _ (fun f hf x hx => ?_) s h
  have block := (permuted_perm order.val (modeDeliveries before)).mem_iff.1 hf
  simp only [modeDeliveries, List.mem_cons, List.not_mem_nil, or_false] at block
  rcases block with rfl | rfl | rfl | rfl | rfl
  · simpa using hx
  · exact run_bounded hx ..
  · exact sandModeTaken_bounded hx
  · exact hx
  · exact hx

theorem modeWrite_bounded (h : s.rep.Bounded) (w : Word) (order : Fin 120) : (modeWrite w order s).rep.Bounded := by
  simp only [modeWrite]
  split
  · exact refuse_bounded h _
  · rw [reply_rep]
    refine modeTaken_bounded (countIf_bounded ?_ ..) ..
    exact h

theorem decodeTxn_bounded (h : s.rep.Bounded) (t : HostTxn) : (decodeTxn t s).rep.Bounded := by
  simp only [decodeTxn, pageWrite, windowWrite, intentWrite]
  (repeat' split) <;> simp only [occupy_rep, h, refuse_bounded, effortWrite_bounded, modeWrite_bounded]

theorem serveHeld_bounded (h : s.rep.Bounded) : (serveHeld s).rep.Bounded := by
  simp only [serveHeld]
  (repeat' split)
  · refine decodeTxn_bounded ?_ _
    exact h
  · exact h
  · exact h

theorem hostArrive_bounded (h : s.rep.Bounded) (t : HostTxn) : (hostArrive t s).rep.Bounded := by
  simp only [hostArrive]
  (repeat' split) <;> simp only [startWaking_rep, occupy_rep, h, decodeTxn_bounded]

/-! ### The ends of memory-port transactions (R26, R37, R38, R43, R45, R172, R189) -/

theorem passEnd_bounded (h : s.rep.Bounded) (r : MemEnd) : (passEnd r s).rep.Bounded := by
  simp only [passEnd]
  (repeat' split)
  · exact h
  · exact count_bounded (s := reply false 0 (freePort s)) h _
  · exact takePage_bounded (s := reply true _ (freePort s)) h ..
  · exact h

theorem writebackFailed_bounded (h : s.rep.Bounded) : (writebackFailed s).rep.Bounded := by
  have landed : (landFlight s).rep.Bounded := h
  simp only [writebackFailed]
  (repeat' split)
  · exact h
  · exact landed
  · refine deliverCause_bounded (raise_bounded (count_bounded ?_ _) _) _
    exact landed
  · exact count_bounded landed _
  · refine count_bounded ?_ _
    exact landed

theorem fetchRead_bounded (h : s.rep.Bounded) (r : MemEnd) : (fetchRead r s).rep.Bounded := by
  have read := countIf_bounded (s := { s with ip := { s.ip with port := none } }) h (achievedBy r).isNone .feedbackRejected
  simp only [fetchRead]
  (repeat' split)
  · exact read
  · exact read
  · refine runServing_bounded (raiseIf_bounded ?_ ..)
    exact read
  · exact read

theorem reportWordEnd_bounded (h : s.rep.Bounded) (ok : Bool) : (reportWordEnd ok s).rep.Bounded :=
  countIf_bounded (s := freePort s) h ..

theorem publishWordEnd_bounded (h : s.rep.Bounded) (ok : Bool) : (publishWordEnd ok s).rep.Bounded := by
  have ended : (publishEnd ok s).rep.Bounded := by
    have raised (b : Bool) := raiseIf_bounded (s := { s with ip := { s.ip with port := none } }) h b .memoryFault
    simp only [publishEnd, enterSetup]
    (repeat' split) <;> simpa using raised _
  simp only [publishWordEnd]
  split
  · exact serveHeld_bounded ended
  · exact ended

theorem portTimeout_bounded (h : s.rep.Bounded) : (portTimeout s).rep.Bounded := by
  simp only [portTimeout]
  split
  · exact h
  · split
    · refine publishWordEnd_bounded ?_ _; exact h
    · refine passEnd_bounded ?_ _; exact h
    · refine writebackFailed_bounded ?_; exact h
    · refine fetchRead_bounded ?_ _; exact h
    · refine reportWordEnd_bounded ?_ _; exact h

/-! ### Expiries and samples (R8, R44, R72, R92, R99, R132, R137, R182) -/

theorem fetchEnd_bounded (h : s.rep.Bounded) : (fetchEnd s).rep.Bounded := by
  refine countIf_bounded ?_ ..
  exact h

theorem refreshEnd_bounded (h : s.rep.Bounded) (c : IntentRole) : (refreshEnd c s).rep.Bounded := by
  have stale (r : EffortRole) : (staleEffort r s).rep.Bounded := by
    refine raise_bounded ?_ _
    exact h
  rcases c with (_ | _ | _) | _
  · simpa [refreshEnd] using stale _
  · simpa [refreshEnd] using stale _
  · exact runServing_bounded (stale _)
  · refine deliverCause_bounded ?_ _
    rw [staleMode, handMode_rep]
    refine raise_bounded ?_ _
    exact h

theorem holdEnd_bounded (h : s.rep.Bounded) : (holdEnd s).rep.Bounded := by
  refine deliverCause_bounded (raise_bounded ?_ _) _
  exact h

theorem lagEnd_bounded (h : s.rep.Bounded) (m : Motor) : (lagEnd m s).rep.Bounded := by
  refine runServing_bounded (count_bounded (raise_bounded ?_ _) _)
  exact h

theorem probeEnd_bounded (h : s.rep.Bounded) (m : Motor) : (probeEnd m s).rep.Bounded := by
  refine runServing_bounded ?_
  exact h

theorem deficitEnd_bounded (h : s.rep.Bounded) : (deficitEnd s).rep.Bounded := by
  refine runServing_bounded (count_bounded ?_ _)
  exact h

theorem completeEvaluation_bounded (h : s.rep.Bounded) (order : Fin 24) : (completeEvaluation order s).rep.Bounded := by
  simp only [completeEvaluation]
  (repeat' split)
  · exact h
  · rename_i e _ _
    refine deliver_induct (fun x => x.rep.Bounded) _ (fun f hf x hx => ?_) _ (by simpa using h)
    have block := (permuted_perm order.val (completionDeliveries e)).mem_iff.1 hf
    simp only [completionDeliveries, List.mem_cons, List.not_mem_nil, or_false] at block
    rcases block with rfl | rfl | rfl | rfl
    · simpa using hx
    · exact ceilingPass_bounded hx e
    · refine run_bounded ?_ ..
      exact hx
    · exact sandCompletion_bounded hx e
  · exact h

theorem endWaking_bounded (h : s.rep.Bounded) : (endWaking s).rep.Bounded := by
  have woken : (wakeBegun s).rep.Bounded := by simpa [wakeBegun] using h
  rw [endWaking_eq, reportStart_rep, wakeActs]
  split
  · have started : (wakeStarted (wakeBegun s)).rep.Bounded := by simpa [wakeStarted] using woken
    rw [wakeServing_eq]
    split
    · refine rewords_bounded ?_ _
      rw [allocatorFallback_rep]
      exact raise_bounded started _
    · exact run_bounded started ..
  · simpa [wakeSetup] using woken

theorem edge_bounded (h : s.rep.Bounded) (i : Axle) (ph : Phase) (rising : Bool) (stamp : Nat) :
    (edge i ph rising stamp s).rep.Bounded := by
  simp only [edge]
  split
  · rw [movementWake, startWaking_rep]
    exact raise_bounded (s := phaseEdge i ph rising stamp s) h _
  · exact h

theorem tick_bounded (h : s.rep.Bounded) : (tick s).rep.Bounded :=
  tick_keeps (P := fun x => x.rep.Bounded) (fun _ hx => hx)
    (fun i _ hx => sampleAxle_keeps (P := fun x => x.rep.Bounded) (fun _ _ _ hx => hx)
      (fun _ _ _ _ _ hx => edge_bounded hx ..) i hx)
    (fun hx => sampleChain_keeps (P := fun x => x.rep.Bounded) (fun _ => hx) (fun b _ hx => receiveByte_bounded hx b)
      framingError_bounded hx)
    (fun i _ hx => levelLow_bounded hx i) (fun i _ hx => levelHigh_bounded hx i) (fun v _ hx => supplySample_bounded hx v) h

/-! ### The obligation -/

/-- Every move keeps the counters bounded. -/
theorem moves_bounded {t : State} (h : s.rep.Bounded) (moves : Moves s t) : t.rep.Bounded := by
  have ends {c : Claimant} {ours : Bool} {f : State → State} (hf : ∀ {x : State}, x.rep.Bounded → (f x).rep.Bounded) :
      (completion c ours f s).rep.Bounded :=
    completion_keeps_of (P := fun x => x.rep.Bounded) (fun _ hx => hx) (fun _ _ => hf h) h
  have expires {timer : Timer} {f : State → State} (hf : ∀ {x : State}, x.rep.Bounded → (f x).rep.Bounded) :
      (onExpiry timer f s).rep.Bounded :=
    onExpiry_keeps (P := fun x => x.rep.Bounded) (fun _ _ => hf h) h
  cases moves with
  | reset x pins => exact Reporter.reset_bounded
  | startUp straps => simp only [startUp]; split <;> exact h
  | arrives t => exact hostArrive_bounded h t
  | publishEnds ok => exact ends (publishWordEnd_bounded · ok)
  | passEnds ours r => exact ends (passEnd_bounded · r)
  | writebackLands => exact ends fun hx => hx
  | writebackFails => exact ends writebackFailed_bounded
  | portTimesOut => exact portTimeout_bounded h
  | fetchExpires => exact expires fetchEnd_bounded
  | fetchReads r => exact ends (fetchRead_bounded · r)
  | refreshExpires c => exact expires (refreshEnd_bounded · c)
  | edge i ph rising stamp => exact edge_bounded h ..
  | standstillExpires i => exact expires fun hx => hx
  | periodExpires => exact expires periodEnd_bounded
  | evaluationCompletes order => exact completeEvaluation_bounded h order
  | excursionExpires i => exact expires (excursionEnd_bounded · i)
  | holdExpires => exact expires holdEnd_bounded
  | lagExpires m => exact expires (lagEnd_bounded · m)
  | probeExpires m => exact expires (probeEnd_bounded · m)
  | deficitExpires => exact expires deficitEnd_bounded
  | pulseExpires i => exact expires (pulseEnd_bounded · i)
  | levelLow i => exact levelLow_bounded (s := setLevel i false s) h i
  | levelHigh i => exact levelHigh_bounded (s := setLevel i true s) h i
  | levelExpires i => exact expires (levelFull_bounded · i)
  | supply v => exact supplySample_bounded (s := setSupply v s) h v
  | byte b => exact receiveByte_bounded h b
  | framing => exact framingError_bounded h
  | idleLimit => exact expires frameIncomplete_bounded
  | silenceExpires => exact expires silenceEnd_bounded
  | transmits => exact expires transmit_bounded
  | settles => exact expires fun hx => serveHeld_bounded (endWaking_bounded hx)
  | reportExpires => exact expires fun hx => by simpa using hx
  | reportWordEnds ok => exact ends (reportWordEnd_bounded · ok)
  | tick => exact tick_bounded h

/-- Settles O56: the counters move by raising a cause, by counting an event and by a cause-clear word alone, and each of
these keeps them within the bound; what follows a command moves none. -/
theorem everyStepKeepsCountersBounded : Obligations.EveryStepKeepsCountersBounded := fun _ _ bounded stepped =>
  (countersBounded_iff _).2
    (step_keeps (P := fun x => x.rep.Bounded) (fun _ _ _ h => h) moves_bounded (fun h => by simpa using h)
      ((countersBounded_iff _).1 bounded) stepped)

end Sys2Proof.Machine
end

section
/-! PROOF of `Obligations.StepRunsTheFrontCommand` and of `Obligations.EveryCommandCompletes`: the front command of a step, and
what the moves of a step leave alone. -/

namespace Sys2Proof.Machine

variable {s : State}

/-! ### The front command -/

theorem step_of_pending {c : Instr} {rest : List Instr} (h : s.pending = c :: rest) :
    step s = exec c { s with pending := rest } := by simp only [step, h]

/-- Settles O1: a queue with a command at its front is the first case of `step`. -/
theorem stepRunsTheFrontCommand : Obligations.StepRunsTheFrontCommand := fun _ _ _ front => step_of_pending front

/-! ### What every move leaves alone -/

/-- The waiting commands and the draw count stand. -/
structure Waits (s t : State) : Prop where
  pending : t.pending = s.pending
  draws : t.draws = s.draws

/-- No move takes a waiting command or draws a delivery order. -/
theorem moves_waits {t : State} (moves : Moves s t) : Waits s t := by
  have ends {c : Claimant} {ours : Bool} {f : State → State} (hf : ∀ x, Waits x (f x)) : Waits s (completion c ours f s) :=
    ⟨completion_pending c ours f (fun x => (hf x).pending) s, completion_draws c ours f (fun x => (hf x).draws) s⟩
  have expires {timer : Timer} {f : State → State} (hf : ∀ x, Waits x (f x)) : Waits s (onExpiry timer f s) :=
    onExpiry_keeps (P := Waits s) (fun _ _ => ⟨(hf _).pending, (hf _).draws⟩) ⟨rfl, rfl⟩
  cases moves with
  | reset | startUp | arrives | portTimesOut | edge | evaluationCompletes | levelLow | levelHigh | supply | byte | framing
  | idleLimit =>
    constructor <;> simp [resetPart]
  | publishEnds | passEnds | writebackLands | writebackFails | fetchReads | reportWordEnds =>
    exact ends fun x => by constructor <;> simp
  | fetchExpires | refreshExpires | standstillExpires | periodExpires | excursionExpires | holdExpires | lagExpires
  | probeExpires | deficitExpires | pulseExpires | levelExpires | silenceExpires | transmits | settles | reportExpires =>
    exact expires fun x => by constructor <;> simp
  | tick =>
    obtain ⟨-, pending, draws⟩ := timePasses_tick s
    exact ⟨pending, draws⟩

/-- Settles O3: a command makes one move and then what follows every command, which forms the lines; neither stops, and neither
touches the waiting commands or the draw count. -/
theorem everyCommandCompletes : Obligations.EveryCommandCompletes := by
  intro c s
  obtain ⟨t, completes, moves⟩ := exec_moves c s
  have waits := moves_waits moves
  exact ⟨finish t, completes, by rw [finish_pending, waits.pending], by rw [finish_draws, waits.draws], finish_formLines t⟩

end Sys2Proof.Machine
end

section
/-! PROOF of `Obligations.CauseClearClearsItsFlags` and of `Obligations.AttentionMaskActsAtOnce`: the cause-clear word, the
attention mask, and the attention line by causes. -/

namespace Sys2Proof.Machine

variable {s : State} {w : Word}

/-! ### Clearing (R186) -/

@[simp] theorem Reporter.clear_flag (r : Reporter) (w : Word) (c : Cause) :
    (r.clear w).flag c = (r.flag c && !w.getLsbD c.number) := by
  have within := c.number.isLt
  simp [Reporter.flag, Reporter.clear, within]

/-- A raise that finds the flag clear counts in the cause's latch counter, up to 65,535 (R188). -/
theorem Reporter.raise_counter_of_clear {r : Reporter} {c : Cause} {i : Fin 40} (clear : r.flag c = false)
    (latch : c.latchCounter = some i) :
    (r.raise c).counter i = if r.counter i < 65535 then r.counter i + 1 else r.counter i := by
  simp only [Reporter.raise, clear, latch, Bool.false_eq_true, if_false, Reporter.bump_counter, true_and]
  rfl

theorem exec_causeClear (stands : s.pageStands 0xC1 w) :
    exec .causeClear s = .next (finish (causeClear w (s.completed true 0))) :=
  congrArg (Host.Outcome.next ∘ finish) (takenOnPort_of_stands stands rfl)

/-- Settles O25: what the word taken does to flags and counters, and a raise before it, after it and without it. -/
theorem causeClearClearsItsFlags : Obligations.CauseClearClearsItsFlags := by
  refine ⟨fun w s stands => ?_, fun r c w => ⟨?_, fun bit => ?_, Reporter.raise_of_set, fun i => ?_⟩⟩
  · exact ⟨_, exec_causeClear stands, Reporter.clear_flag s.rep w, Reporter.clear_counter s.rep w, rfl, rfl⟩
  · simp
  · simp [bit]
  · exact Reporter.raise_counter_of_clear

/-! ### The attention line (R187) -/

/-- The causes in the order of their numbers (R185). -/
def allCauses : List Cause :=
  [.staleIntent, .intentInvalid, .partialWrite, .guardedWrite, .configCollision, .commandRefused, .sensorFault,
    .persistentExcursion, .adhesionPoor, .referenceLost, .brakeDeficit, .edShortfall, .feedbackInvalid, .rollback, .rollaway,
    .sandWithheld, .sandEmpty, .actSupplyLow, .chainFault, .noticeDropped, .memoryFault, .fallback]

/-- The twenty-two causes are numbered 0 to 21 (R185). -/
theorem Cause.number_surj (i : Fin 22) : ∃ c : Cause, c.number = i := by
  have named : ∃ c ∈ allCauses, c.number = i := by
    revert i
    decide
  obtain ⟨c, -, number⟩ := named
  exact ⟨c, number⟩

/-- The attention line: a cause whose flag and mask bit are set. -/
theorem attention_iff_cause (r : Reporter) :
    r.attention = true ↔ ∃ c : Cause, r.flag c = true ∧ r.mask.getLsbD c.number = true := by
  rw [attention_iff]
  constructor
  · rintro ⟨i, flag, mask⟩
    obtain ⟨c, rfl⟩ := Cause.number_surj i
    exact ⟨c, flag, mask⟩
  · rintro ⟨c, flag, mask⟩
    exact ⟨c.number, flag, mask⟩

/-- The attention line as formed: by flags and mask in every state but RESET, and down there (R183, R187). -/
theorem formLines_attention_iff (s : State) :
    s.formLines.attention = true
      ↔ s.ctl.part ≠ .reset ∧ ∃ c : Cause, s.rep.flag c = true ∧ s.rep.mask.getLsbD c.number = true := by
  by_cases reset : s.ctl.part = .reset
  · simp [formLines_of_reset reset, reset, Lines.reset]
  · rw [formLines_of_not_reset reset]
    simp only [attention_iff_cause, ne_eq, reset, not_false_eq_true, true_and]

theorem exec_attentionMaskWrite (stands : s.pageStands 0xC2 w) :
    exec .attentionMaskWrite s = .next (finish (setMask w (s.completed true 0))) :=
  congrArg (Host.Outcome.next ∘ finish) (takenOnPort_of_stands stands rfl)

/-- The mask's bits are those of the word. -/
theorem mask_getLsbD (w : Word) (c : Cause) : (w.extractLsb' 0 22).getLsbD c.number = w.getLsbD c.number := by
  simp

/-- Settles O26: the word taken replaces the mask alone, and what follows the command forms the line from it. -/
theorem attentionMaskActsAtOnce : Obligations.AttentionMaskActsAtOnce := by
  refine ⟨fun w s stands running => ?_, fun c s => ?_⟩
  · let masked := setMask w (s.completed true 0)
    have rep : (finish masked).rep = { s.rep with mask := w.extractLsb' 0 22 } := by
      rw [finish_rep]
      simp [masked, setMask, BitVec.setWidth_eq_extractLsb']
    have part : (finish masked).ctl.part = s.ctl.part := by simp [masked, setMask]
    obtain ⟨frame, lines, -, -, answer, -, -, -, host, -⟩ := finishOnlyGrantsAndReleases masked
    refine ⟨finish masked, exec_attentionMaskWrite stands, rep, ?_, ?_, answer, ?_⟩
    · rw [lines, formLines_attention_iff, part, rep]
      simp only [ne_eq, running, not_false_eq_true, true_and, mask_getLsbD]
      rfl
    · simpa [masked, setMask] using host
    · rw [rep]
      exact frame
  · obtain ⟨t, completes, -⟩ := exec_moves c s
    exact ⟨finish t, completes, formLines_attention_iff (finish t)⟩

end Sys2Proof.Machine
end

section
/-! PROOF support for `Obligations.ReportsAreWrittenWordByWord`: when updates begin, how the writer goes on after a word, and
where a word is written (R189, R190). -/

namespace Sys2Proof.Machine

variable {s : State} {u : Update}

/-! ### Updates that fall due (R189) -/

theorem updateDue_of_idle (idle : s.rw.update = none) :
    updateDue s = { s with rw := { s.rw with update := some s.newUpdate } } := by
  simp only [updateDue, idle]

theorem updateDue_of_writing (writing : s.rw.update ≠ none) :
    updateDue s = { s with rw := { s.rw with pendingUpdate := true } } := by
  obtain ⟨u, update⟩ := Option.ne_none_iff_exists'.1 writing
  simp only [updateDue, update]

theorem reportEnd_eq (s : State) :
    reportEnd s
      = { s with
          rw :=
            if s.rw.update = none then { s.rw with timer := s.timer s.reportLength, update := some s.newUpdate }
            else { s.rw with timer := s.timer s.reportLength, pendingUpdate := true } } := by
  rw [reportEnd]
  split
  · rename_i idle
    rw [updateDue_of_idle (s := { s with rw := { s.rw with timer := s.timer s.reportLength } }) idle]
    rfl
  · rename_i writing
    rw [updateDue_of_writing (s := { s with rw := { s.rw with timer := s.timer s.reportLength } }) writing]

theorem exec_reportTimerExpiry {d : Nat} (timer : s.rw.timer = some d) :
    exec .reportTimerExpiry s = .next (finish (reportEnd { s with now := max s.now d })) := by
  change Host.Outcome.next (finish (onExpiry s.rw.timer reportEnd s)) = _
  rw [timer, onExpiry_some]

/-! ### The end of a word's write (R189, R190) -/

/-- Up to the last record, the writer goes on to the next record exactly where the copy was in force at the update's begin. -/
theorem Update.next_eq (within : u.record ≤ 18) :
    u.next
      = if u.stopping then none
        else if u.word + 1 < recordLength u.record then some { u with word := u.word + 1 }
        else if u.window ≠ none ∧ u.record < 18 then some { u with record := u.record + 1, word := 0, contents := none }
        else none := by
  have last : u.record = 18 ∨ u.window = none ↔ ¬ (u.window ≠ none ∧ u.record < 18) := by
    rw [not_and_or, not_not, Nat.not_lt, or_comm, within.ge_iff_eq]
  simp only [Update.next, if_congr last rfl rfl, ite_not]

theorem reportAdvance_eq (update : s.rw.update = some u) :
    reportAdvance s
      = { s with
          rw :=
            if u.next ≠ none then { s.rw with update := u.next }
            else if s.rw.pendingUpdate then { s.rw with update := some s.newUpdate, pendingUpdate := false }
            else { s.rw with update := none } } := by
  simp only [reportAdvance, update, Option.bind_some]
  cases u.next <;> rfl

/-- A failed word is counted (R188, R189). -/
theorem countIf_reportWordFailed (r : MemEnd) (s : State) :
    countIf (!isDone r) .reportWordFailed s = { s with rep := if r = .fault then s.rep.bump 25 else s.rep } := by
  cases r <;> rfl

theorem reportWordEnd_eq (update : s.rw.update = some u) (r : MemEnd) :
    reportWordEnd (isDone r) s
      = { s with
          ip := { s.ip with port := none }
          rep := if r = .fault then s.rep.bump 25 else s.rep
          rw :=
            if u.next ≠ none then { s.rw with update := u.next }
            else if s.rw.pendingUpdate then { s.rw with update := some s.newUpdate, pendingUpdate := false }
            else { s.rw with update := none } } := by
  rw [reportWordEnd, countIf_reportWordFailed]
  exact reportAdvance_eq update

/-! ### The address of a word (R189) -/

theorem Update.addr_of_page (page : u.record = 0 ∨ u.window = none) (base : Addr) :
    u.addr base = base + 0xF8 + BitVec.ofNat 18 u.word := by
  simp only [Update.addr]
  split <;> simp_all

theorem Update.addr_of_window {b : Addr} (later : u.record ≠ 0) (window : u.window = some b) (base : Addr) :
    u.addr base = b + BitVec.ofNat 18 (recordOffset u.record + u.word) := by
  simp only [Update.addr, window]

end Sys2Proof.Machine
end

section
/-! PROOF of `Obligations.ReportsAreWrittenWordByWord`: the words of each record with their fields and codes, and the obligation
(R192, R193). -/

namespace Sys2Proof.Machine

variable {s : State}

/-! ### The lengths of the records (R189) -/

theorem counterWords_length (s : State) : s.counterWords.length = 20 := by
  rw [State.counterWords, List.length_map, List.length_range]

theorem recordWords_length (s : State) (r : Nat) : (s.recordWords r).length = recordLength r := by
  match r with
  | 0 | 1 | 2 | 3 | 4 | 5 | 6 | 7 | 8 | 9 | 10 | 11 | 12 | 13 | 14 | 15 | 16 | 17 => rfl
  | n + 18 => exact counterWords_length s

/-! ### The fields (12.3) -/

theorem sanderState_code (i : SanderId) :
    (s.sanderState i).code
      = if (s.cfg.tun.sanders.get i).enabled = false then 0 else if s.sand.supplyGood = false then 4
        else if (s.sand.sanders.get i).full = false then 3 else if (s.sand.sanders.get i).pulse = none then 1 else 2 := by
  simp only [State.sanderState, sanderState]
  (repeat' split) <;> simp_all [SanderState.code]

/-- The code of the last trigger given to a sander; 0 for none. -/
theorem last_code (last : Option Trigger) : last.elim 0 Trigger.code = match last with | none => 0 | some k => k.code := by
  cases last <;> rfl

/-- The origin code shown for a role; 0 for none. -/
def originCode : Option Role → Nat
  | none => 0
  | some r => r.windowCode.toNat

theorem role_originCode (r : Option Role) : r.elim 0 Role.code = originCode r := by cases r <;> rfl

theorem inflight_originCode (f : Option InFlight) :
    (f.elim 0 fun x => x.entry.origin.code) = originCode (f.map (·.entry.origin)) := by cases f <;> rfl

theorem nearest_distance (q : List Notice) (o : Odo) :
    BitVec.ofNat 32 (q.head?.elim 0 (Notice.distance o)) = match q with | [] => 0 | n :: _ => n.mark - o := by
  cases q with
  | nil => rfl
  | cons n rest => exact BitVec.ofNat_toNat ..

theorem counters_getD (r : Reporter) (i : Fin 40) : r.counters.toList.getD i 0 = r.counter i := by
  simp [Reporter.counter]

theorem counterWords_get (s : State) (k : Fin 20) :
    s.counterWords[k.val]?
      = some (field 0 16 (s.rep.counter ⟨2 * k, by omega⟩) ||| field 16 16 (s.rep.counter ⟨2 * k + 1, by omega⟩)) := by
  rw [State.counterWords, List.getElem?_map, List.getElem?_range k.isLt, Option.map_some]
  rw [← counters_getD, ← counters_getD]

/-! ### The obligation -/

/-- Settles O36: the expiry of the report timer and the end of a word's write by their equations, the records' lengths and
offsets, a grant to the report writer, and the words of each record, which are as 12.3 gives them. -/
theorem reportsAreWrittenWordByWord : Obligations.ReportsAreWrittenWordByWord := by
  refine ⟨fun d s timer => ?_, fun r u s awaits update => ?_, ⟨fun s r => recordWords_length s r, by decide, by decide⟩,
    fun u s update => ?_, fun s => ?_⟩
  · rw [exec_reportTimerExpiry timer, reportEnd_eq]
    rfl
  · intro fresh after within
    have next : u.next = after := Update.next_eq within
    rw [exec_reportWordCompletion awaits, reportWordEnd_eq update, next]
    rfl
  · intro t contents
    have granted : t = _ := grant_report_eq update
    rw [granted]
    have taken : s.taken u = { u with contents := some contents } := by
      simp only [State.taken, contents]
      cases u.contents <;> rfl
    rw [taken]
    exact ⟨rfl, _, rfl, rfl, rfl, rfl, rfl, fun page => Update.addr_of_page page _,
      fun _ later window => Update.addr_of_window later window _⟩
  · intro f b g axle bogie sander origin
    have sanders (i : SanderId) : [s.sanderWord i] = sander i := by
      rw [State.sanderWord, sanderState_code, last_code]
      rfl
    refine ⟨rfl, ?_, rfl, rfl, rfl, rfl, rfl, rfl, rfl, rfl, rfl, sanders .s1, sanders .s2, sanders .s3, sanders .s4, rfl,
      ?_, ?_, counterWords_get s, rfl, rfl, rfl, rfl, rfl, rfl, rfl, rfl, rfl, rfl, rfl⟩
    · change s.headerWords = _
      rw [State.headerWords, Reference.signed, signedSpeed_eq]
      rfl
    · change s.queueWords = _
      rw [State.queueWords, nearest_distance, inflight_originCode, role_originCode]
      rfl
    · rfl

end Sys2Proof.Machine
end
